-- ==== Sys2Proof/Word.lean ====
section
/-! DEFINITION. The word types of the NK480: what its links and its framer lanes carry as bits. -/

namespace Sys2Proof

/-- A byte of a link frame, of a framer item or of a record image (R183, R185, R186). -/
abbrev Byte := BitVec 8

/-- A two-byte field of a frame: a record number, a plot, a frame number, a check word. -/
abbrev Half := BitVec 16

/-- A 64-bit terminal serial (chapter 0, Units). -/
abbrev Serial := BitVec 64

end Sys2Proof
end

