-- ==== Sys2Proof/Config.lean ====
section
/-! DEFINITION. The fixed sizes of the NK480, as its rules state them, and the one free value of the model. -/

namespace Sys2Proof.Config

/-- The registry store holds 480 records, numbered 0..479 (R1). -/
def records : Nat := 480

/-- The four feeder ports 0..3 (R42). -/
def ports : Nat := 4

/-- The largest drop id a record can hold (R27). -/
def maxDropId : Nat := 126

/-- The drop id that addresses every terminal on a port (R84). -/
def broadcastId : Nat := 127

/-- Entries of the stranger list (R8). -/
def strangerLimit : Nat := 16

/-- Reports in an arrival report queue (R75). -/
def arrivalLimit : Nat := 16

/-- Serials in a heard list (R83). -/
def heardLimit : Nat := 16

/-- Entries of an activation queue (R114). -/
def activationLimit : Nat := 8

/-- Descriptors in an outbound queue (R76). -/
def outboundLimit : Nat := 64

/-- The upkeep owed count at which upkeep is owed in full (R69). -/
def owedLimit : Nat := 8

/-- The largest value of the gap counter (R64). -/
def gapLimit : Nat := 8

/-- The largest value of the discovery timer (R70). -/
def discoveryTimerLimit : Nat := 4096

/-- The largest value of the spread exponent (R85). -/
def spreadLimit : Nat := 6

/-- The largest arrival offset that lies within a window's two frames (R72). -/
def maxOffset : Nat := 312499

/-- Commands in a link's command queue (R173). -/
def commandLimit : Nat := 4

/-- Reply frames in a link's reply path (R173). -/
def replyLimit : Nat := 8

/-- The craft idle count at which a frame in assembly ends incomplete (R175). -/
def craftIdleLimit : Nat := 80

/-- The largest integrity count (R169). -/
def integrityLimit : Nat := 15

/-- Records that one CHANGES reports (R179). -/
def changesLimit : Nat := 64

/-- Items that one SILENCE MAP reports (R24). -/
def silenceLimit : Nat := 32

/-- FREE VALUE (log entry 16). What a HELLO's levelable byte means when it is neither 00h nor 01h:
the spec codes a flag by those two bytes alone (R183) and states nothing for the others. -/
opaque levelableOfByte : Byte → Bool

end Sys2Proof.Config
end

