-- ==== Sys2Proof/Syntax.lean ====
section
/-! DEFINITION. The commands and events of spec/opcode_table.json as ONE inductive, Instr, with the operands the
formats chapter (R184, R186) gives each. Link commands carry the link they came on and the sender's tag. -/

namespace Sys2Proof

/-- The two command links (chapter 11). -/
inductive Link where
  | host
  | craft
  deriving DecidableEq, Repr

/-- A framer lane, which is a feeder port 0..3 (R186: the port is given by the lane). -/
abbrev Lane := Fin 4

/-- The arguments of PLAN and RESTORE: record, presence byte and plan block (R184). -/
structure PlanArgs where
  record    : Half
  presence  : Byte
  plot      : Half
  port      : Byte
  serviceClass : Byte
  autoAdmit : Byte
  serial    : Serial
  preferred : Byte
  dmin      : Half
  dmax      : Half
  deriving DecidableEq, Repr

/-- The arguments of AMEND: record, selection byte, presence byte and plan block (R184). -/
structure AmendArgs where
  selection : Byte
  plan      : PlanArgs
  deriving DecidableEq, Repr

/-- The arguments of PORT CONFIGURE: port, two-byte selection and the 21-byte configuration block (R184). -/
structure ConfigArgs where
  port      : Byte
  selection : Half
  teq       : BitVec 24
  tr        : Half
  lo        : Byte
  hi        : Byte
  floor     : Byte
  ceiling   : Byte
  initIndex : Byte
  mode      : Byte
  interval  : Half
  spread    : Byte
  period    : Half
  hold      : Byte
  limit     : Half
  gap       : Byte
  feed      : Byte
  deriving DecidableEq, Repr

/-- A link command with its arguments: what a link's command queue holds beside the tag (R173, R184). -/
inductive Command where
  | plan (a : PlanArgs)
  | amend (a : AmendArgs)
  | retire (r : Half)
  | adopt (r : Half) (serial : Serial)
  | retry (r : Half)
  | restore (a : PlanArgs)
  | pin (r : Half)
  | unpin (r : Half)
  | confirm (r : Half)
  | reject (r : Half)
  | admitDrop (r : Half)
  | suspend (r : Half)
  | rediscover (r : Half)
  | portEnable (p : Byte)
  | portDisable (p : Byte)
  | calibrate (p : Byte)
  | start (p : Byte)
  | stop (p : Byte)
  | portConfigure (a : ConfigArgs)
  | sweep (p : Byte)
  | changeover (p : Byte) (reference : Half)
  | readRecord (r : Half)
  | findSerial (serial : Serial)
  | findPlot (plot : Half)
  | strangers
  | silenceMap (p : Byte) (first : Half)
  | dropMap (p : Byte)
  | activationQueue (p : Byte)
  | portStatus (p : Byte)
  | deviceStatus
  | changes
  | scrubConfigure (interval : Byte)
  | integrity
  | phaseService
  | softReset
  deriving DecidableEq, Repr

/-- The fields of an arrival report as the lane carries them (R186). -/
structure ReportFields where
  tag       : Byte
  kind      : Byte
  offset    : BitVec 24
  level     : Byte
  serial    : Serial
  levelable : Byte
  dropId    : Byte
  deriving DecidableEq, Repr

/-- One row of spec/opcode_table.json each. `l` is the link a command came on and `tag` its sender's tag. -/
inductive Instr where
  | plan (l : Link) (tag : Byte) (a : PlanArgs)
  | amend (l : Link) (tag : Byte) (a : AmendArgs)
  | retire (l : Link) (tag : Byte) (r : Half)
  | adopt (l : Link) (tag : Byte) (r : Half) (serial : Serial)
  | retry (l : Link) (tag : Byte) (r : Half)
  | restore (l : Link) (tag : Byte) (a : PlanArgs)
  | pin (l : Link) (tag : Byte) (r : Half)
  | unpin (l : Link) (tag : Byte) (r : Half)
  | confirm (l : Link) (tag : Byte) (r : Half)
  | reject (l : Link) (tag : Byte) (r : Half)
  | admitDrop (l : Link) (tag : Byte) (r : Half)
  | suspend (l : Link) (tag : Byte) (r : Half)
  | rediscover (l : Link) (tag : Byte) (r : Half)
  | portEnable (l : Link) (tag : Byte) (p : Byte)
  | portDisable (l : Link) (tag : Byte) (p : Byte)
  | calibrate (l : Link) (tag : Byte) (p : Byte)
  | start (l : Link) (tag : Byte) (p : Byte)
  | stop (l : Link) (tag : Byte) (p : Byte)
  | portConfigure (l : Link) (tag : Byte) (a : ConfigArgs)
  | sweep (l : Link) (tag : Byte) (p : Byte)
  | changeover (l : Link) (tag : Byte) (p : Byte) (reference : Half)
  | readRecord (l : Link) (tag : Byte) (r : Half)
  | findSerial (l : Link) (tag : Byte) (serial : Serial)
  | findPlot (l : Link) (tag : Byte) (plot : Half)
  | strangers (l : Link) (tag : Byte)
  | silenceMap (l : Link) (tag : Byte) (p : Byte) (first : Half)
  | dropMap (l : Link) (tag : Byte) (p : Byte)
  | activationQueue (l : Link) (tag : Byte) (p : Byte)
  | portStatus (l : Link) (tag : Byte) (p : Byte)
  | deviceStatus (l : Link) (tag : Byte)
  | changes (l : Link) (tag : Byte)
  | scrubConfigure (l : Link) (tag : Byte) (interval : Byte)
  | integrity (l : Link) (tag : Byte)
  | phaseService (l : Link) (tag : Byte)
  | softReset (l : Link) (tag : Byte)
  /-- The hard-reset pin is asserted (R182). -/
  | hardResetAssert
  /-- The hard-reset pin is released (R182). -/
  | hardResetRelease
  /-- An upset leaves record `r` holding the content of `image` and the check word `check` (R163). -/
  | storageUpset (r : Nat) (image : List Byte) (check : Half)
  /-- A frame start on lane `p` carrying frame number `n` (R64). -/
  | frameStart (p : Lane) (n : Half)
  | windowGrant (p : Lane)
  | inviteClose (p : Lane)
  | echoClose (p : Lane)
  | verifyClose (p : Lane)
  | upkeepClose (p : Lane)
  | referenceClose (p : Lane)
  | loopClose (p : Lane)
  | upkeepPeriodEnd (p : Lane)
  | discoveryDue (p : Lane)
  | scrubVerify
  | arrivalReport (p : Lane) (r : ReportFields)
  | reportProcessingStart (p : Lane)
  | reportRegistryStep (p : Lane)
  | messageTake (p : Lane)
  | setDelayQueue (p : Lane)
  | admissionLookup (p : Lane) (dropId : Byte)
  /-- A host chip-select period ends; `bytes` are the bytes the host wrote in it (R174). -/
  | hostSelectEnd (bytes : List Byte)
  | hostReplyShiftedOut
  /-- The craft link receives byte `b`; `stopError` marks a stop-bit error (R175). -/
  | craftByteReceived (b : Byte) (stopError : Bool)
  | craftIdleTimeout
  | craftReplySent
  | commandTake
  deriving DecidableEq, Repr

end Sys2Proof
end

