-- ==== Sys2Proof/Decode.lean ====
section
/-! DEFINITION. The command that a word of the opcode table spells. No row of spec/opcode_table.json carries bits, so no word spells
one; the frames in which commands travel are read in Machine/Operands.lean and Machine/Links.lean (R183, R184). -/

namespace Sys2Proof

/-- The command of a word of `nbits` bits: none, since the table gives no row any bits. -/
def decodeTableWord (_nbits _w : Nat) : Option Instr := none

end Sys2Proof
end

