-- ==== Sys2Proof/Machine/Record.lean ====
section
/-! DEFINITION. The dwelling record of R1: its enumerations, its fields, and the stored record with its check word (R162). -/

namespace Sys2Proof.Machine

/-- The record states of R1, in the order that fixes their codes (R184). `invalid` holds a stored code outside the
list; only a storage upset leaves one (R163, log entry 27), and it is none of the ten states. -/
inductive RecState where
  | vacant
  | expected
  | barred
  | named
  | ranging
  | levelling
  | query
  | ready
  | active
  | damaged
  | invalid (code : Byte)
  deriving DecidableEq, Repr

/-- The cause codes of R1, in the order that fixes their codes (R184); `invalid` as in `RecState`. -/
inductive Cause where
  | planned
  | amended
  | named
  | activated
  | queried
  | confirmed
  | rejected
  | admitted
  | suspended
  | restarted
  | reranged
  | failedNoEcho
  | failedEarly
  | failedReach
  | failedLevel
  | failedDrift
  | barred
  | retired
  | retried
  | lostSilent
  | lostReach
  | moved
  | wrongTree
  | serialConflict
  | adopted
  | damaged
  | restored
  | coAdjusted
  | coLost
  | portDown
  | invalid (code : Byte)
  deriving DecidableEq, Repr

/-- The level condition of R1; `invalid` as in `RecState`. -/
inductive LevelCondition where
  | normal
  | weak
  | hot
  | invalid (code : Byte)
  deriving DecidableEq, Repr

/-- Delay sync (R4); `invalid` as in `RecState`. -/
inductive DelaySync where
  | synced
  | waiting
  | queued
  | invalid (code : Byte)
  deriving DecidableEq, Repr

/-- A distance band dmin..dmax in metres (R1). -/
structure Band where
  dmin : Nat
  dmax : Nat
  deriving DecidableEq, Repr

/-- Round trip, EqD and drop length, which are set together and made absent together (R102). -/
structure Ranging where
  roundTrip : Nat
  eqd       : Nat
  length    : Nat
  deriving DecidableEq, Repr

/-- The content of a record: the fields of R1. -/
structure Record where
  state          : RecState
  plot           : Option Nat
  port           : Nat
  serial         : Option Serial
  preferred      : Option Nat
  dropId         : Nat
  band           : Option Band
  serviceClass   : Nat
  autoAdmit      : Bool
  pinned         : Bool
  levelable      : Option Bool
  ranging        : Option Ranging
  levelIndex     : Nat
  levelCondition : LevelCondition
  lastLevel      : Nat
  attempts       : Nat
  rounds         : Nat
  misses         : Nat
  failures       : Nat
  delaySync      : DelaySync
  outstanding    : Nat
  lastHeard      : Option Nat
  cause          : Cause
  deriving DecidableEq, Repr

/-- The content a hard reset gives every record (R25). -/
def Record.vacant : Record where
  state := .vacant
  plot := none
  port := 0
  serial := none
  preferred := none
  dropId := 0
  band := none
  serviceClass := 0
  autoAdmit := false
  pinned := false
  levelable := none
  ranging := none
  levelIndex := 0
  levelCondition := .normal
  lastLevel := 0
  attempts := 0
  rounds := 0
  misses := 0
  failures := 0
  delaySync := .synced
  outstanding := 0
  lastHeard := none
  cause := .retired

/-- The ranged states QUERY, READY and ACTIVE (chapter 0, Terms). -/
def RecState.ranged : RecState → Bool
  | .query | .ready | .active => true
  | _ => false

/-- The states under activation: NAMED, RANGING and LEVELLING (R114). -/
def RecState.activating : RecState → Bool
  | .named | .ranging | .levelling => true
  | _ => false

end Sys2Proof.Machine
end

