-- ==== Sys2Proof/Machine/Image.lean ====
section
/-! DEFINITION. Bytes and numbers, the codes of the enumerations (R184), the record image and the check word (R185). -/

namespace Sys2Proof.Machine

/-- A number in `k` bytes, most significant byte first (R183). -/
def beBytes : Nat → Nat → List Byte
  | 0, _ => []
  | k + 1, n => BitVec.ofNat 8 (n / 256 ^ k) :: beBytes k n

/-- The number that bytes hold, most significant byte first (R183). -/
def beNat (bs : List Byte) : Nat := bs.foldl (fun a b => a * 256 + b.toNat) 0

/-- The number in the `len` bytes that stand from `offset` on. -/
def fieldAt (bs : List Byte) (offset len : Nat) : Nat := beNat ((bs.drop offset).take len)

/-- A flag's byte: 01h when set and 00h when clear (R183). -/
def flagByte (b : Bool) : Byte := if b then 1#8 else 0#8

/-- A byte made of flags, the first in bit 0. -/
def bitsByte (bs : List Bool) : Byte :=
  BitVec.ofNat 8 (bs.foldr (fun b a => 2 * a + b.toNat) 0)

/-- State codes: the order of R1's list, from 0 (R184). -/
def RecState.code : RecState → Byte
  | .vacant => 0#8
  | .expected => 1#8
  | .barred => 2#8
  | .named => 3#8
  | .ranging => 4#8
  | .levelling => 5#8
  | .query => 6#8
  | .ready => 7#8
  | .active => 8#8
  | .damaged => 9#8
  | .invalid c => c

/-- The state a stored code stands for. -/
def RecState.ofCode (c : Byte) : RecState :=
  match c.toNat with
  | 0 => .vacant
  | 1 => .expected
  | 2 => .barred
  | 3 => .named
  | 4 => .ranging
  | 5 => .levelling
  | 6 => .query
  | 7 => .ready
  | 8 => .active
  | 9 => .damaged
  | _ => .invalid c

/-- Cause codes: the order of R1's list, from 0 (R184). -/
def Cause.code : Cause → Byte
  | .planned => 0#8
  | .amended => 1#8
  | .named => 2#8
  | .activated => 3#8
  | .queried => 4#8
  | .confirmed => 5#8
  | .rejected => 6#8
  | .admitted => 7#8
  | .suspended => 8#8
  | .restarted => 9#8
  | .reranged => 10#8
  | .failedNoEcho => 11#8
  | .failedEarly => 12#8
  | .failedReach => 13#8
  | .failedLevel => 14#8
  | .failedDrift => 15#8
  | .barred => 16#8
  | .retired => 17#8
  | .retried => 18#8
  | .lostSilent => 19#8
  | .lostReach => 20#8
  | .moved => 21#8
  | .wrongTree => 22#8
  | .serialConflict => 23#8
  | .adopted => 24#8
  | .damaged => 25#8
  | .restored => 26#8
  | .coAdjusted => 27#8
  | .coLost => 28#8
  | .portDown => 29#8
  | .invalid c => c

/-- The cause a stored code stands for. -/
def Cause.ofCode (c : Byte) : Cause :=
  match c.toNat with
  | 0 => .planned
  | 1 => .amended
  | 2 => .named
  | 3 => .activated
  | 4 => .queried
  | 5 => .confirmed
  | 6 => .rejected
  | 7 => .admitted
  | 8 => .suspended
  | 9 => .restarted
  | 10 => .reranged
  | 11 => .failedNoEcho
  | 12 => .failedEarly
  | 13 => .failedReach
  | 14 => .failedLevel
  | 15 => .failedDrift
  | 16 => .barred
  | 17 => .retired
  | 18 => .retried
  | 19 => .lostSilent
  | 20 => .lostReach
  | 21 => .moved
  | 22 => .wrongTree
  | 23 => .serialConflict
  | 24 => .adopted
  | 25 => .damaged
  | 26 => .restored
  | 27 => .coAdjusted
  | 28 => .coLost
  | 29 => .portDown
  | _ => .invalid c

/-- Level condition codes (R184). -/
def LevelCondition.code : LevelCondition → Byte
  | .normal => 0#8
  | .weak => 1#8
  | .hot => 2#8
  | .invalid c => c

/-- The level condition a stored code stands for. -/
def LevelCondition.ofCode (c : Byte) : LevelCondition :=
  match c.toNat with
  | 0 => .normal
  | 1 => .weak
  | 2 => .hot
  | _ => .invalid c

/-- Delay sync codes (R184). -/
def DelaySync.code : DelaySync → Byte
  | .synced => 0#8
  | .waiting => 1#8
  | .queued => 2#8
  | .invalid c => c

/-- The delay sync a stored code stands for. -/
def DelaySync.ofCode (c : Byte) : DelaySync :=
  match c.toNat with
  | 0 => .synced
  | 1 => .waiting
  | 2 => .queued
  | _ => .invalid c

/-- The presence byte of the record image (R185). -/
def Record.presence (r : Record) : Byte :=
  bitsByte [r.plot.isSome, r.serial.isSome, r.preferred.isSome, r.band.isSome,
    r.levelable.isSome, r.ranging.isSome, r.lastHeard.isSome]

/-- The 41-byte record image (R185); an absent field is zero bytes. -/
def Record.image (r : Record) : List Byte :=
  [r.state.code, r.presence]
  ++ beBytes 2 (r.plot.getD 0)
  ++ beBytes 1 r.port
  ++ beBytes 8 (r.serial.getD 0).toNat
  ++ beBytes 1 (r.preferred.getD 0)
  ++ beBytes 1 r.dropId
  ++ beBytes 2 ((r.band.map Band.dmin).getD 0)
  ++ beBytes 2 ((r.band.map Band.dmax).getD 0)
  ++ beBytes 1 r.serviceClass
  ++ [bitsByte [r.autoAdmit, r.pinned, r.levelable.getD false]]
  ++ beBytes 3 ((r.ranging.map Ranging.roundTrip).getD 0)
  ++ beBytes 3 ((r.ranging.map Ranging.eqd).getD 0)
  ++ beBytes 2 ((r.ranging.map Ranging.length).getD 0)
  ++ beBytes 1 r.levelIndex
  ++ [r.levelCondition.code]
  ++ beBytes 1 r.lastLevel
  ++ beBytes 1 r.attempts
  ++ beBytes 1 r.rounds
  ++ beBytes 1 r.misses
  ++ beBytes 1 r.failures
  ++ [r.delaySync.code]
  ++ beBytes 2 r.outstanding
  ++ beBytes 1 (r.lastHeard.getD 0)
  ++ [r.cause.code]

/-- The record content that an image spells (R185): a field whose presence bit is clear is absent,
whatever its bytes. -/
def Record.ofImage (bs : List Byte) : Record :=
  let present := fieldAt bs 1 1
  let flags := fieldAt bs 20 1
  let opt {α : Type} (bit : Nat) (v : α) : Option α := if present.testBit bit then some v else none
  { state := RecState.ofCode (BitVec.ofNat 8 (fieldAt bs 0 1))
    plot := opt 0 (fieldAt bs 2 2)
    port := fieldAt bs 4 1
    serial := opt 1 (BitVec.ofNat 64 (fieldAt bs 5 8))
    preferred := opt 2 (fieldAt bs 13 1)
    dropId := fieldAt bs 14 1
    band := opt 3 { dmin := fieldAt bs 15 2, dmax := fieldAt bs 17 2 }
    serviceClass := fieldAt bs 19 1
    autoAdmit := flags.testBit 0
    pinned := flags.testBit 1
    levelable := opt 4 (flags.testBit 2)
    ranging := opt 5 { roundTrip := fieldAt bs 21 3, eqd := fieldAt bs 24 3, length := fieldAt bs 27 2 }
    levelIndex := fieldAt bs 29 1
    levelCondition := LevelCondition.ofCode (BitVec.ofNat 8 (fieldAt bs 30 1))
    lastLevel := fieldAt bs 31 1
    attempts := fieldAt bs 32 1
    rounds := fieldAt bs 33 1
    misses := fieldAt bs 34 1
    failures := fieldAt bs 35 1
    delaySync := DelaySync.ofCode (BitVec.ofNat 8 (fieldAt bs 36 1))
    outstanding := fieldAt bs 37 2
    lastHeard := opt 6 (fieldAt bs 39 1)
    cause := Cause.ofCode (BitVec.ofNat 8 (fieldAt bs 40 1)) }

/-- One bit of the check register: generator x^16 + x^12 + x^5 + 1, not reflected (R185). -/
def checkBit (c : Half) (b : Bool) : Half :=
  if (c.msb ^^ b) then (c <<< 1) ^^^ 0x1021#16 else c <<< 1

/-- One byte of the check register, most significant bit first (R185). -/
def checkByte (c : Half) (b : Byte) : Half :=
  (List.range 8).foldl (fun c i => checkBit c (b.getMsbD i)) c

/-- The check word of bytes: the register starts at all ones and no final value is added (R162, R185). -/
def checkOf (bs : List Byte) : Half := bs.foldl checkByte 0xFFFF#16

/-- The check word of a record's content (R162). -/
def Record.checkWord (r : Record) : Half := checkOf r.image

end Sys2Proof.Machine
end

