-- ==== Sys2Proof/Machine/State.lean ====
section
/-! DEFINITION. The whole state of the NK480 as plain data, the reasons a step can stop, and the state after a hard reset.
Each field cites the rule that names it; INVENTORY.md lists them with their reset values. -/

namespace Sys2Proof.Machine

/-- A record as stored: its content and the check word held with it (R162). -/
structure StoredRecord where
  content : Record
  check   : Half
  deriving DecidableEq, Repr

/-- The stored record of a hard reset (R25). -/
def StoredRecord.vacant : StoredRecord where
  content := Record.vacant
  check := Record.vacant.checkWord

/-- A map from numbers to record numbers, strictly rising in its keys: a drop map (R27), the serial index (R6), the
plot index (R7). -/
abbrev NumMap := List (Nat × Nat)

/-- An entry of the stranger list (R8). -/
structure Stranger where
  serial    : Serial
  port      : Nat
  levelable : Bool
  sightings : Nat
  lastFrame : Nat
  deriving DecidableEq, Repr

/-- The site phase (R171). -/
inductive SitePhase where
  | build
  | service
  deriving DecidableEq, Repr

/-- The port states (R42). -/
inductive PortState where
  | down
  | standby
  | calibrating
  | run
  | changeover
  deriving DecidableEq, Repr

/-- The feed select (R51). -/
inductive Feed where
  | a
  | b
  deriving DecidableEq, Repr

/-- The discovery mode (R48). -/
inductive DiscoveryMode where
  | off
  | planned
  | always
  deriving DecidableEq, Repr

/-- The configuration set of a port (R48). -/
structure PortConfig where
  teq        : Nat
  tr         : Nat
  lo         : Nat
  hi         : Nat
  floor      : Nat
  ceiling    : Nat
  initIndex  : Nat
  mode       : DiscoveryMode
  interval   : Nat
  initSpread : Nat
  period     : Nat
  hold       : Nat
  limit      : Nat
  gap        : Nat
  deriving DecidableEq, Repr

/-- The defaults of R48. -/
def PortConfig.default : PortConfig where
  teq := 200000
  tr := 35000
  lo := 48
  hi := 96
  floor := 16
  ceiling := 140
  initIndex := 4
  mode := .planned
  interval := 64
  initSpread := 2
  period := 40
  hold := 2
  limit := 32
  gap := 2

/-- The eight port condition flags, in the order of R57's table. -/
structure Conditions where
  upkeepOverrun     : Bool
  outboundOverrun   : Bool
  portFull          : Bool
  deferred          : Bool
  calibrationDone   : Bool
  calibrationFailed : Bool
  changeoverDone    : Bool
  changeoverFailed  : Bool
  deriving DecidableEq, Repr

/-- All eight flags clear. -/
def Conditions.clear : Conditions where
  upkeepOverrun := false
  outboundOverrun := false
  portFull := false
  deferred := false
  calibrationDone := false
  calibrationFailed := false
  changeoverDone := false
  changeoverFailed := false

/-- The window kinds (R61). -/
inductive WindowKind where
  | invite
  | echo
  | verify
  | upkeep
  | reference
  | loop
  deriving DecidableEq, Repr

/-- A captured result: arrival offset and level code (R61). -/
structure Captured where
  offset : Nat
  level  : Nat
  deriving DecidableEq, Repr

/-- The open window record (R61). `spread` is the exponent the grant shows (R84); `age` counts the frame starts since the
one that opened the window (the model's own, log entry 7). -/
structure OpenWindow where
  kind       : WindowKind
  tag        : Nat
  target     : Option Nat
  targetDrop : Option Nat
  captured   : Option Captured
  clean      : Nat
  garbled    : Nat
  overrun    : Bool
  spread     : Nat
  age        : Nat
  deriving DecidableEq, Repr

/-- A queued arrival report (R75): `hello` holds the serial and the levelable flag of a HELLO and is absent for
a GARBLED report. -/
structure QueuedReport where
  tag    : Nat
  offset : Nat
  level  : Nat
  hello  : Option (Serial × Bool)
  deriving DecidableEq, Repr

/-- The phases of an activation entry (R114). -/
inductive Phase where
  | awaitEcho
  | echoOpen
  | awaitVerify
  | verifyOpen
  deriving DecidableEq, Repr

/-- An entry of an activation queue (R114). -/
structure ActivationEntry where
  record : Nat
  phase  : Phase
  deriving DecidableEq, Repr

/-- A descriptor of an outbound queue (R76): all but RELEASE name a record by number. -/
inductive Descriptor where
  | name (r : Nat)
  | setDelay (r : Nat)
  | level (r : Nat)
  | openDrop (r : Nat)
  | shut (r : Nat)
  | release (port : Nat) (dropId : Nat)
  deriving DecidableEq, Repr

/-- The changeover context of a port (R151). -/
structure ChangeoverContext where
  reference    : Option Nat
  previousFeed : Option Feed
  windows      : Nat
  lastOffset   : Option Int
  deriving DecidableEq, Repr

/-- No changeover in progress and no last offset (R151). -/
def ChangeoverContext.clear : ChangeoverContext where
  reference := none
  previousFeed := none
  windows := 0
  lastOffset := none

/-- The kinds of a take answer (R186). -/
inductive TakeKind where
  | empty
  | name
  | setDelay
  | level
  | openDrop
  | shut
  | release
  | void
  deriving DecidableEq, Repr

/-- The answer to a message take (R78, R186). -/
structure TakeAnswer where
  kind       : TakeKind
  dropId     : Nat
  serial     : Serial
  levelIndex : Nat
  delay      : Nat
  deriving DecidableEq, Repr

/-- A take answer whose fields are all zeros (R186). -/
def TakeAnswer.ofKind (k : TakeKind) : TakeAnswer where
  kind := k
  dropId := 0
  serial := 0
  levelIndex := 0
  delay := 0

/-- Everything the part holds for one feeder port: its port controller (R42), window arbiter (R61, R64, R69), discovery unit
(R75, R83), activation queue (R114), outbound queue (R76), upkeep cursor (R137), changeover context (R151) and drop map
(R27). `takeAnswer` and `lookupAnswer` are the lane's last answers (the model's own output fields, log entry 22). -/
structure Port where
  state          : PortState
  config         : PortConfig
  loopOffset     : Nat
  calibrated     : Bool
  feed           : Feed
  conditions     : Conditions
  spread         : Nat
  discoveryTimer : Nat
  due            : Bool
  tagCounter     : Nat
  calibration    : List Nat
  window         : Option OpenWindow
  gapCounter     : Nat
  owed           : Nat
  periodTimer    : Nat
  frame          : Nat
  arrivals       : List QueuedReport
  processing     : Option QueuedReport
  heard          : List Serial
  heardTag       : Option Nat
  lastEmpty      : Bool
  activation     : List ActivationEntry
  outbound       : List Descriptor
  cursor         : Nat
  changeover     : ChangeoverContext
  dropMap        : NumMap
  takeAnswer     : TakeAnswer
  lookupAnswer   : Byte
  deriving DecidableEq, Repr

/-- A port after a hard reset (R41, R59, R82, R83, R136, R149, R151). -/
def Port.reset : Port where
  state := .down
  config := PortConfig.default
  loopOffset := 0
  calibrated := false
  feed := .a
  conditions := Conditions.clear
  spread := 2
  discoveryTimer := 0
  due := false
  tagCounter := 0
  calibration := []
  window := none
  gapCounter := 0
  owed := 0
  periodTimer := 0
  frame := 0
  arrivals := []
  processing := none
  heard := []
  heardTag := none
  lastEmpty := false
  activation := []
  outbound := []
  cursor := 0
  changeover := ChangeoverContext.clear
  dropMap := []
  takeAnswer := TakeAnswer.ofKind .empty
  lookupAnswer := 0#8

/-- The statuses of R177's table, in the order that fixes their codes (R184). -/
inductive Status where
  | ok
  | busy
  | refusedState
  | noSuchRecord
  | outOfRange
  | duplicate
  | pinned
  | notPermitted
  | damaged
  | notCalibrated
  | rangedPresent
  | noStranger
  | notFound
  | linkFull
  | malformed
  | unknownCommand
  deriving DecidableEq, Repr

/-- A reply frame waiting on a reply path (R173, R183). -/
structure ReplyFrame where
  tag     : Byte
  status  : Status
  payload : List Byte
  deriving DecidableEq, Repr

/-- A command waiting in a link's command queue (R173). -/
structure QueuedCommand where
  tag     : Byte
  command : Command
  deriving DecidableEq, Repr

/-- What the link interface holds for one link (R173). -/
structure LinkState where
  assembly : Option (List Byte)
  queue    : List QueuedCommand
  replies  : List ReplyFrame
  deriving DecidableEq, Repr

/-- A link after a hard reset (R173). -/
def LinkState.reset : LinkState where
  assembly := none
  queue := []
  replies := []

/-- The state of the whole part, and the queue of commands and events waiting to be taken. -/
structure State where
  /-- The 480 records (R1, R162). -/
  records        : Vector StoredRecord 480
  /-- Serial to record number (R6); the key is the serial as a number. -/
  serialIndex    : NumMap
  /-- Plot to record number (R7). -/
  plotIndex      : NumMap
  /-- The stranger list, oldest first (R8). -/
  strangers      : List Stranger
  /-- The changed set, rising (R5). -/
  changed        : List Nat
  /-- The site phase (R171). -/
  phase          : SitePhase
  /-- The four ports (R42). -/
  ports          : Vector Port 4
  /-- The device condition NEW_STRANGER (R178). -/
  newStranger    : Bool
  /-- The scrub cursor (R164). -/
  scrubCursor    : Nat
  /-- The scrub interval (R164). -/
  scrubInterval  : Nat
  /-- The scrub interval counter (R164). -/
  scrubCounter   : Nat
  /-- The integrity count (R169). -/
  integrityCount : Nat
  /-- The first damaged record number (R169). -/
  firstDamaged   : Option Nat
  /-- The host link (R173). -/
  host           : LinkState
  /-- The craft link (R173). -/
  craft          : LinkState
  /-- The craft idle counter (R173). -/
  craftIdle      : Nat
  /-- The link last served by the command arbiter (R173). -/
  lastServed     : Link
  /-- The reply of the host's current select period has been shifted out, and the idle byte follows it (R174). -/
  hostRead       : Bool
  /-- The host attention output (R178). -/
  attention      : Bool
  /-- Whether the hard-reset pin is asserted (R182). -/
  resetHeld      : Bool
  /-- The commands and events waiting to be taken, first in, first out (the model's own, log entry 1). -/
  pending        : List Instr
  deriving DecidableEq, Repr

/-- The part at the release of the hard-reset pin (R25, R41, R59, R82, R83, R136, R149, R164, R169, R173, R182),
with nothing waiting to be taken (log entry 23). -/
def State.reset : State where
  records := Vector.replicate 480 StoredRecord.vacant
  serialIndex := []
  plotIndex := []
  strangers := []
  changed := []
  phase := .build
  ports := Vector.replicate 4 Port.reset
  newStranger := false
  scrubCursor := 0
  scrubInterval := 4
  scrubCounter := 0
  integrityCount := 0
  firstDamaged := none
  host := LinkState.reset
  craft := LinkState.reset
  craftIdle := 0
  lastServed := .craft
  hostRead := false
  attention := false
  resetHeld := false
  pending := []

/-- Why a step stops with a fault. -/
inductive Fault where
  /-- Raised by STORAGE_UPSET of a record number above 479: there is no such storage (R1, R163). Safe: the part has no such event
  (log entry 19). -/
  | noSuchRecord (n : Nat)
  deriving DecidableEq, Repr

/-- Why a step is refused. -/
inductive Refusal where
  /-- Raised by an arm of exec whose command has no meaning yet. Safe. -/
  | notModelled (mnemonic : String)
  /-- Raised by STORAGE_UPSET whose image is not the 41 bytes of R185. Safe: it spells no content (log entry 19). -/
  | notAnImage
  /-- Raised by STORAGE_UPSET whose content agrees with its check word: R163 calls an upset only a change after which the two no
  longer agree. Safe: it is no event of the part (log entry 19). -/
  | notAnUpset
  deriving DecidableEq, Repr

/-- An outcome of a step of the part. -/
abbrev Result := Host.Outcome State Fault Refusal

end Sys2Proof.Machine
end

