-- ==== Sys2Proof/Machine/Ops.lean ====
section
/-! DEFINITION. The named operations over the registry, the ports and the queues that every meaning is made of. -/

namespace Sys2Proof.Machine

/-! ### Number maps: drop maps, serial index, plot index (R6, R7, R27) -/

/-- The record number a map gives a key. -/
def mapGet : NumMap → Nat → Option Nat
  | [], _ => none
  | (k', v) :: m, k => if k' = k then some v else mapGet m k

/-- The map with `k` mapped to `v`, its keys kept strictly rising. -/
def mapPut : NumMap → Nat → Nat → NumMap
  | [], k, v => [(k, v)]
  | (k', v') :: m, k, v =>
    if k < k' then (k, v) :: (k', v') :: m
    else if k' = k then (k, v) :: m
    else (k', v') :: mapPut m k v

/-- The map without the key `k`. -/
def mapErase (m : NumMap) (k : Nat) : NumMap := m.filter (fun e => e.1 ≠ k)

/-- The map without the entries whose record number is `r` (R165). -/
def mapEraseRecord (m : NumMap) (r : Nat) : NumMap := m.filter (fun e => e.2 ≠ r)

/-! ### Records (R1, R162) -/

/-- The stored record of number `n`. -/
def State.stored (s : State) (n : Nat) : StoredRecord := (s.records[n]?).getD StoredRecord.vacant

/-- The content of record `n`, as it stands. -/
def State.record (s : State) (n : Nat) : Record := (s.stored n).content

/-- Whether a stored record verifies: the check word of its content equals the check word held (R162). -/
def StoredRecord.verifies (x : StoredRecord) : Bool := x.content.checkWord == x.check

/-- Whether record `n` verifies (R162). -/
def State.verifies (s : State) (n : Nat) : Bool := (s.stored n).verifies

/-- Store a record; nothing happens for a number above 479. -/
def State.store (s : State) (n : Nat) (x : StoredRecord) : State :=
  { s with records := s.records.setIfInBounds n x }

/-- A stored record whose content a rule changes to `r`: the check word changes with it, so that content and check word agree
afterwards exactly when they agreed before (R162, R163; log entry 6). -/
def StoredRecord.rewrite (x : StoredRecord) (r : Record) : StoredRecord where
  content := r
  check := x.check ^^^ x.content.checkWord ^^^ r.checkWord

/-- A rule changes the content of record `n` (R162). -/
def State.modRecord (s : State) (n : Nat) (f : Record → Record) : State :=
  s.store n ((s.stored n).rewrite (f (s.record n)))

/-- Record `n` takes the content `r` with a check word computed over it afresh (R25, R166). -/
def State.freshRecord (s : State) (n : Nat) (r : Record) : State :=
  s.store n { content := r, check := r.checkWord }

/-- The numbers of the records whose content, as it stands, satisfies `f`, rising. -/
def State.recordsWhere (s : State) (f : Record → Bool) : List Nat :=
  (s.records.toList.zipIdx.filter (fun x => f x.1.content)).map (fun x => x.2)

/-- A number joins a strictly rising list. -/
def insertNumber : List Nat → Nat → List Nat
  | [], n => [n]
  | m :: ms, n => if n < m then n :: m :: ms else if m = n then m :: ms else m :: insertNumber ms n

/-- Record `n` enters the changed set (R5). -/
def State.noteChanged (s : State) (n : Nat) : State := { s with changed := insertNumber s.changed n }

/-- A rule that sets the state or the cause of record `n` (R5, R162). -/
def State.change (s : State) (n : Nat) (f : Record → Record) : State := (s.modRecord n f).noteChanged n

/-! ### Ports (R42) -/

/-- The port of number `p`; a number above 3 names no port and reads as a port just reset. -/
def State.port (s : State) (p : Nat) : Port := (s.ports[p]?).getD Port.reset

/-- Change the port of number `p`; nothing happens for a number above 3. -/
def State.modPort (s : State) (p : Nat) (f : Port → Port) : State :=
  { s with ports := s.ports.setIfInBounds p (f (s.port p)) }

/-- Set a condition flag of port `p` (R57). -/
def State.flag (s : State) (p : Nat) (f : Conditions → Conditions) : State :=
  s.modPort p (fun q => { q with conditions := f q.conditions })

/-- Fold a change over a list of numbers, the first first. -/
def eachNumber (f : State → Nat → State) : List Nat → State → State
  | [], s => s
  | n :: ns, s => eachNumber f ns (f s n)

/-! ### Drop ids (R27, R28) -/

/-- Whether drop id `d` is free on port `p` (R27). -/
def State.dropFree (s : State) (p d : Nat) : Bool := (mapGet (s.port p).dropMap d).isNone

/-- The drop id that allocation chooses for a record with the preference `pref` (R28). -/
def State.allocate (s : State) (p : Nat) (pref : Option Nat) : Option Nat :=
  match pref with
  | some d =>
    if s.dropFree p d then some d
    else (List.range' 1 Config.maxDropId).find? (fun d => s.dropFree p d)
  | none => (List.range' 1 Config.maxDropId).find? (fun d => s.dropFree p d)

/-- Drop id `d` of port `p` is entered for record `r` (R27). -/
def State.holdDrop (s : State) (p d r : Nat) : State :=
  s.modPort p (fun q => { q with dropMap := mapPut q.dropMap d r })

/-- Drop id `d` of port `p` is freed (R27, R30). -/
def State.freeDrop (s : State) (p d : Nat) : State :=
  s.modPort p (fun q => { q with dropMap := mapErase q.dropMap d })

/-! ### The outbound queue and delay sync (R76, R77, R79, R80) -/

/-- The record a descriptor names (R76). -/
def Descriptor.names : Descriptor → Option Nat
  | .name r | .setDelay r | .level r | .openDrop r | .shut r => some r
  | .release _ _ => none

/-- Whether a descriptor is the SET DELAY of record `r`. -/
def Descriptor.isSetDelayOf (d : Descriptor) (r : Nat) : Bool := d == .setDelay r

/-- The number of descriptors naming `r` in a queue (R4). -/
def countNaming (ds : List Descriptor) (r : Nat) : Nat := ds.countP (fun d => d.names == some r)

/-- The number of descriptors naming `r` in the outbound queues of the ports given (R4, R166). -/
def State.queuedNaming (s : State) (ps : List Nat) (r : Nat) : Nat :=
  (ps.map (fun p => countNaming (s.port p).outbound r)).sum

/-- Whether a SET DELAY naming `r` stands in the outbound queues of the ports given (R4, R166). -/
def State.setDelayQueued (s : State) (ps : List Nat) (r : Nat) : Bool :=
  ps.any (fun p => (s.port p).outbound.any (fun d => d.isSetDelayOf r))

/-- The port numbers 0..3. -/
def allPorts : List Nat := [0, 1, 2, 3]

/-- The record numbers 0..479. -/
def allRecords : List Nat := List.range Config.records

/-- A descriptor is appended at the tail of a queue and counted in its record (R77). -/
def State.push (s : State) (p : Nat) (d : Descriptor) : State :=
  let s := s.modPort p (fun q => { q with outbound := q.outbound ++ [d] })
  match d.names with
  | some r => s.modRecord r (fun c => { c with outstanding := c.outstanding + 1 })
  | none => s

/-- A producer queues a NAME, LEVEL, OPEN, SHUT or RELEASE: a full queue drops it and sets OUTBOUND_OVERRUN (R77). -/
def State.enqueue (s : State) (p : Nat) (d : Descriptor) : State :=
  if (s.port p).outbound.length < Config.outboundLimit then s.push p d
  else s.flag p (fun c => { c with outboundOverrun := true })

/-- Delay sync when the record's EqD is set or changed (R79). -/
def DelaySync.eqdChanged : DelaySync → DelaySync
  | .synced => .waiting
  | d => d

/-- Delay sync when the record's EqD is made absent (R79). -/
def DelaySync.eqdAbsent : DelaySync → DelaySync
  | .waiting => .synced
  | d => d

/-- Delay sync when the queue holding the record's SET DELAY is emptied (R79, R80). -/
def Record.queueEmptied (c : Record) : DelaySync := if c.ranging.isSome then .waiting else .synced

/-- Round trip, EqD and drop length are recorded together, and the EqD has changed (R79, R102). -/
def Record.withRanging (c : Record) (g : Ranging) : Record :=
  { c with ranging := some g, delaySync := c.delaySync.eqdChanged }

/-- Round trip, EqD and drop length are made absent together (R79, R102). -/
def Record.withoutRanging (c : Record) : Record :=
  { c with ranging := none, delaySync := c.delaySync.eqdAbsent }

/-- The WAITING records of port `p`, rising (R79). -/
def State.waiting (s : State) (p : Nat) : List Nat :=
  s.recordsWhere (fun c => c.port == p && c.delaySync == .waiting)

/-- A SET DELAY is queued for record `r` while the queue of port `p` has room (R79), unless one that names `r` stands queued already: no
record has two (R76; log entry 28). -/
def State.queueSetDelay (s : State) (p r : Nat) : State :=
  if (s.port p).outbound.length < Config.outboundLimit ∧ s.setDelayQueued allPorts r = false then
    (s.push p (.setDelay r)).modRecord r (fun c => { c with delaySync := .queued })
  else s

/-- The message path queues SET DELAY for the WAITING records of port `p`, lowest first, while there is room (R79). -/
def State.fillSetDelay (s : State) (p : Nat) : State :=
  eachNumber (fun s r => s.queueSetDelay p r) (s.waiting p) s

/-- A descriptor is discarded with its queue (R80). -/
def State.discard (s : State) (d : Descriptor) : State :=
  match d with
  | .setDelay r => s.modRecord r (fun c =>
      { c with outstanding := c.outstanding - 1, delaySync := c.queueEmptied })
  | .name r | .level r | .openDrop r | .shut r =>
      s.modRecord r (fun c => { c with outstanding := c.outstanding - 1 })
  | .release _ _ => s

/-- The outbound queue of port `p` is emptied (R80). PORT DISABLE and SOFT RESET verify the records the queue names as well (R163; log
entries 11 and 12). -/
def State.emptyOutbound (s : State) (p : Nat) : State :=
  ((s.port p).outbound.foldl State.discard s).modPort p (fun q => { q with outbound := [] })

/-! ### Activation queues (R114 to R117) -/

/-- The phase of record `r` in the activation queue of port `p`, if it has an entry there. -/
def State.phaseOf (s : State) (p r : Nat) : Option Phase :=
  ((s.port p).activation.find? (fun e => e.record == r)).map (fun e => e.phase)

/-- The entry of `r` takes a phase and keeps its place (R116). -/
def State.setPhase (s : State) (p r : Nat) (ph : Phase) : State :=
  s.modPort p (fun q =>
    { q with activation := q.activation.map (fun e => if e.record = r then { e with phase := ph } else e) })

/-- The entry of `r` is removed; the entries behind it keep their order (R117). -/
def State.removeEntry (s : State) (p r : Nat) : State :=
  s.modPort p (fun q => { q with activation := q.activation.filter (fun e => e.record ≠ r) })

/-- An entry for `r` is appended in phase AWAIT_ECHO (R115). -/
def State.appendEntry (s : State) (p r : Nat) : State :=
  s.modPort p (fun q => { q with activation := q.activation ++ [{ record := r, phase := .awaitEcho }] })

/-- The entry of `r` goes to AWAIT_ECHO and moves to the tail (R116, R124). -/
def State.entryToTail (s : State) (p r : Nat) : State := (s.removeEntry p r).appendEntry p r

/-- Whether the activation queue of port `p` holds fewer than 8 entries (R115). -/
def State.activationRoom (s : State) (p : Nat) : Bool :=
  decide ((s.port p).activation.length < Config.activationLimit)

/-! ### Windows (R61, R66) -/

/-- The target record of port `p`'s open window is cleared when it is `r`; the target drop id is kept (R61). -/
def State.clearTarget (s : State) (r p : Nat) : State :=
  s.modPort p (fun q =>
    { q with window := q.window.map (fun w => if w.target = some r then { w with target := none } else w) })

/-- The target `r` of an open window is cleared on every port (R16, R36, R165). -/
def State.clearTargets (s : State) (r : Nat) : State := eachNumber (fun s p => s.clearTarget r p) allPorts s

/-- Windows cease without close processing: the record is removed and the gap counter is set to 0 (R66). -/
def State.dropWindow (s : State) (p : Nat) : State :=
  s.modPort p (fun q => { q with window := none, gapCounter := 0 })

/-- What abandonment does to the owner of an abandoned window (R66). -/
def State.abandonOwner (s : State) (p : Nat) (w : OpenWindow) : State :=
  match w.kind, w.target with
  | .invite, _ => s.modPort p (fun q => { q with arrivals := [], discoveryTimer := 0 })
  | .echo, some r =>
    if s.phaseOf p r = some .echoOpen then
      (s.setPhase p r .awaitEcho).change r (fun c => { c with state := .named })
    else s
  | .verify, some r =>
    if s.phaseOf p r = some .verifyOpen then s.setPhase p r .awaitVerify else s
  | .loop, _ => s.modPort p (fun q => { q with calibration := [] })
  | _, _ => s

/-- The window open on port `p`, if any, is abandoned (R66). -/
def State.abandon (s : State) (p : Nat) : State :=
  match (s.port p).window with
  | none => s
  | some w => (s.dropWindow p).abandonOwner p w

/-! ### A changeover's failure (R159) -/

/-- The window open on port `p` is abandoned if it is a REFERENCE window (R159). -/
def State.abandonReference (s : State) (p : Nat) : State :=
  match (s.port p).window with
  | some w => if w.kind = .reference then s.abandon p else s
  | none => s

/-- The in-progress part of a changeover context is cleared; the last offset is kept (R151, R159). -/
def ChangeoverContext.ended (c : ChangeoverContext) : ChangeoverContext :=
  { c with reference := none, previousFeed := none, windows := 0 }

/-- The changeover in progress on port `p`, if any, fails (R159). -/
def State.failChangeover (s : State) (p : Nat) : State :=
  match (s.port p).changeover.reference with
  | none => s
  | some _ =>
    (s.abandonReference p).modPort p (fun q => { q with
      feed := q.changeover.previousFeed.getD q.feed
      changeover := q.changeover.ended
      state := .run
      conditions := { q.conditions with changeoverFailed := true } })

/-- A changeover in progress on port `p` whose reference is `r` fails (R16, R165). -/
def State.failIfReference (s : State) (r p : Nat) : State :=
  if (s.port p).changeover.reference = some r then s.failChangeover p else s

/-! ### Damage handling (R165, R166, R169) -/

/-- A drop map entry of a damaged record: a RELEASE is queued and the drop id is freed (R165). -/
def State.releaseEntry (s : State) (p d : Nat) : State := (s.enqueue p (.release p d)).freeDrop p d

/-- The drop map of port `p` gives up its entries for record `r`, each with a RELEASE (R165). -/
def State.releaseRecord (s : State) (r p : Nat) : State :=
  eachNumber (fun s d => s.releaseEntry p d)
    (((s.port p).dropMap.filter (fun e => e.2 = r)).map (fun e => e.1)) s

/-- The indexes lose the entries of record `r` (R165). -/
def State.unindex (s : State) (r : Nat) : State :=
  { s with serialIndex := mapEraseRecord s.serialIndex r, plotIndex := mapEraseRecord s.plotIndex r }

/-- A kept field whose value lies outside its range takes its hard reset value (R166). -/
def keepWithin (limit value : Nat) : Nat := if value ≤ limit then value else 0

/-- A kept level condition: a stored code outside the three takes NORMAL (R166). -/
def LevelCondition.keep : LevelCondition → LevelCondition
  | .invalid _ => .normal
  | l => l

/-- The content of a DAMAGED record made from the content as read, with its counts taken from the queues (R166). -/
def Record.damagedContent (c : Record) (outstanding : Nat) (setDelay : Bool) : Record :=
  { Record.vacant with
    state := .damaged
    cause := .damaged
    port := keepWithin 3 c.port
    serviceClass := keepWithin 7 c.serviceClass
    autoAdmit := c.autoAdmit
    levelIndex := keepWithin 7 c.levelIndex
    levelCondition := c.levelCondition.keep
    lastLevel := keepWithin 255 c.lastLevel
    outstanding := outstanding
    delaySync := if setDelay then .queued else .synced }

/-- A damage finding on record `r` is counted, and the first is latched (R169). -/
def State.countDamage (s : State) (r : Nat) : State :=
  if s.integrityCount = 0 then { s with integrityCount := 1, firstDamaged := some r }
  else if s.integrityCount < Config.integrityLimit then { s with integrityCount := s.integrityCount + 1 }
  else s

/-- Damage handling removes record `r` from the trusted structures: drop maps, indexes, activation queues and window targets
(R165, steps 1 to 4). -/
def State.detach (s : State) (r : Nat) : State :=
  let s := eachNumber (fun s p => s.releaseRecord r p) allPorts s
  let s := s.unindex r
  let s := eachNumber (fun s p => s.removeEntry p r) allPorts s
  s.clearTargets r

/-- Damage handling of record `r`, one step (R165, R166, R169). -/
def State.damage (s : State) (r : Nat) : State :=
  let s := s.detach r
  let s := (s.freshRecord r ((s.record r).damagedContent (s.queuedNaming allPorts r)
    (s.setDelayQueued allPorts r))).noteChanged r
  let s := s.countDamage r
  eachNumber (fun s p => s.failIfReference r p) allPorts s

/-- An access verifies record `r`; a failure is handled as damage (R163). -/
def State.verifyOrDamage (s : State) (r : Nat) : State := if s.verifies r then s else s.damage r

/-! ### Naming and giving up drop ids (R13, R28, R30, R89) -/

/-- A RELEASE is queued for the drop id that record `r` holds on its port, and the id is freed (R30). -/
def State.releaseHeld (s : State) (r : Nat) : State :=
  let c := s.record r
  if c.dropId = 0 then s else (s.enqueue c.port (.release c.port c.dropId)).freeDrop c.port c.dropId

/-- Naming of an EXPECTED record on port `p`, where the activation queue has room and an id is free: `cause` is the cause it
takes and `heard` what a HELLO says of levelable (R13, R89). -/
def State.nameExpected (s : State) (p r : Nat) (cause : Cause) (heard : Option Bool) : State :=
  if ¬ s.activationRoom p then s.flag p (fun c => { c with deferred := true })
  else
    match s.allocate p (s.record r).preferred with
    | none => s.flag p (fun c => { c with portFull := true })
    | some d =>
      let s := s.holdDrop p d r
      let s := s.change r (fun c => { c with
        dropId := d
        levelable := if heard.isSome then heard else c.levelable
        levelIndex := (s.port p).config.initIndex
        attempts := 0
        rounds := 0
        lastHeard := none
        state := .named
        cause := cause })
      (s.enqueue p (.name r)).appendEntry p r

/-- A ranged record goes back to its first window, keeping its drop id: SHUT if it was ACTIVE, NAME, and an entry at the tail
(R92, R129, R144). `heard` as in `nameExpected`. -/
def State.reenter (s : State) (p r : Nat) (cause : Cause) (heard : Option Bool) : State :=
  let s := if (s.record r).state = .active then s.enqueue p (.shut r) else s
  let s := s.enqueue p (.name r)
  let s := s.change r (fun c => { c.withoutRanging with
    attempts := 0
    rounds := 0
    misses := 0
    levelable := if heard.isSome then heard else c.levelable
    lastHeard := if heard.isSome then none else c.lastHeard
    state := .named
    cause := cause })
  s.appendEntry p r

/-- A record under activation is named again in its place in the queue (R90, R128). -/
def State.restart (s : State) (p r : Nat) (heard : Option Bool) : State :=
  let s := s.enqueue p (.name r)
  let s := s.change r (fun c => { c.withoutRanging with
    levelable := if heard.isSome then heard else c.levelable
    lastHeard := if heard.isSome then none else c.lastHeard
    state := .named
    cause := .restarted })
  s.setPhase p r .awaitEcho

/-- A record in service is lost with a cause, its drop id released and freed (R146). -/
def State.lose (s : State) (r : Nat) (cause : Cause) : State :=
  (s.releaseHeld r).change r (fun c => { c.withoutRanging with
    dropId := 0
    misses := 0
    state := .expected
    cause := cause })

/-- An activation failure (R126): RELEASE, entry removed, failures grow by one, BARRED at the third. -/
def State.failActivation (s : State) (p r : Nat) (cause : Cause) : State :=
  let s := (s.releaseHeld r).removeEntry p r
  s.change r (fun c =>
    if c.failures + 1 = 3 then
      { c.withoutRanging with dropId := 0, failures := c.failures + 1, state := .barred, cause := .barred }
    else
      { c.withoutRanging with dropId := 0, failures := c.failures + 1, state := .expected, cause := cause })

end Sys2Proof.Machine
end

