-- ==== Sys2Proof/Machine/Flags.lean ====
section
/-! DEFINITION. The condition flags, the attention output (R178), the codes of the device's enumerations (R184), the window grant
a lane shows (R186) and the bytes of a reply frame (R183). -/

namespace Sys2Proof.Machine

/-- The condition byte of a port: bit n is the nth flag of R57's table (R184). -/
def Conditions.byte (c : Conditions) : Byte :=
  bitsByte [c.upkeepOverrun, c.outboundOverrun, c.portFull, c.deferred,
    c.calibrationDone, c.calibrationFailed, c.changeoverDone, c.changeoverFailed]

/-- Whether any of the eight flags is set (R57). -/
def Conditions.any (c : Conditions) : Bool :=
  c.upkeepOverrun || c.outboundOverrun || c.portFull || c.deferred ||
    c.calibrationDone || c.calibrationFailed || c.changeoverDone || c.changeoverFailed

/-- Whether the host attention output is due: changed set, a port's flag, NEW_STRANGER, integrity count or a host reply (R178). -/
def State.attentionDue (s : State) : Bool :=
  !s.changed.isEmpty || s.ports.toList.any (fun q => q.conditions.any) || s.newStranger
    || decide (0 < s.integrityCount) || !s.host.replies.isEmpty

/-- The attention output follows its conditions in the step that changes them (R178). -/
def State.settle (s : State) : State := { s with attention := s.attentionDue }

/-- The status codes: the order of R177's table, from 0 (R184). -/
def Status.code : Status → Byte
  | .ok => 0#8
  | .busy => 1#8
  | .refusedState => 2#8
  | .noSuchRecord => 3#8
  | .outOfRange => 4#8
  | .duplicate => 5#8
  | .pinned => 6#8
  | .notPermitted => 7#8
  | .damaged => 8#8
  | .notCalibrated => 9#8
  | .rangedPresent => 10#8
  | .noStranger => 11#8
  | .notFound => 12#8
  | .linkFull => 13#8
  | .malformed => 14#8
  | .unknownCommand => 15#8

/-- Port state codes (R184). -/
def PortState.code : PortState → Byte
  | .down => 0#8
  | .standby => 1#8
  | .calibrating => 2#8
  | .run => 3#8
  | .changeover => 4#8

/-- Window kind codes; 0 stands for none (R184). -/
def WindowKind.code : WindowKind → Byte
  | .invite => 1#8
  | .echo => 2#8
  | .verify => 3#8
  | .upkeep => 4#8
  | .reference => 5#8
  | .loop => 6#8

/-- Activation phase codes (R184). -/
def Phase.code : Phase → Byte
  | .awaitEcho => 0#8
  | .echoOpen => 1#8
  | .awaitVerify => 2#8
  | .verifyOpen => 3#8

/-- Discovery mode codes (R184). -/
def DiscoveryMode.code : DiscoveryMode → Byte
  | .off => 0#8
  | .planned => 1#8
  | .always => 2#8

/-- The discovery mode a byte codes (R184). -/
def DiscoveryMode.ofCode (b : Byte) : Option DiscoveryMode :=
  match b.toNat with
  | 0 => some .off
  | 1 => some .planned
  | 2 => some .always
  | _ => none

/-- Feed codes (R184). -/
def Feed.code : Feed → Byte
  | .a => 0#8
  | .b => 1#8

/-- The feed a byte codes (R184). -/
def Feed.ofCode (b : Byte) : Option Feed :=
  match b.toNat with
  | 0 => some .a
  | 1 => some .b
  | _ => none

/-- The other feeder (R51). -/
def Feed.other : Feed → Feed
  | .a => .b
  | .b => .a

/-- Site phase codes (R184). -/
def SitePhase.code : SitePhase → Byte
  | .build => 0#8
  | .service => 1#8

/-- Take answer kinds (R186). -/
def TakeKind.code : TakeKind → Byte
  | .empty => 0#8
  | .name => 1#8
  | .setDelay => 2#8
  | .level => 3#8
  | .openDrop => 4#8
  | .shut => 5#8
  | .release => 6#8
  | .void => 7#8

/-- A take answer as the lane carries it: kind 1, drop id 1, serial 8, level index 1, delay 3 (R186). -/
def TakeAnswer.bytes (t : TakeAnswer) : List Byte :=
  [t.kind.code] ++ beBytes 1 t.dropId ++ beBytes 8 t.serial.toNat ++ beBytes 1 t.levelIndex ++ beBytes 3 t.delay

/-- The drop id a window grant carries (R186). -/
def OpenWindow.grantDrop (w : OpenWindow) : Nat :=
  match w.kind with
  | .invite => Config.broadcastId
  | .loop => 0
  | _ => w.targetDrop.getD 0

/-- The window grant a lane shows: kind, tag, drop id and spread exponent; kind 0 while no window is open, with the other three
bytes 0 as well (R61, R186; log entry 35). -/
def State.grantShown (s : State) (p : Nat) : List Byte :=
  match (s.port p).window with
  | none => [0#8, 0#8, 0#8, 0#8]
  | some w =>
    [w.kind.code] ++ beBytes 1 w.tag ++ beBytes 1 w.grantDrop
      ++ beBytes 1 (if w.kind = .invite then w.spread else 0)

/-- The sync byte of a frame (R183). -/
def syncByte : Byte := 0xA7#8

/-- The byte the host link shifts out when no reply is being read (R183). -/
def idleByte : Byte := 0xFF#8

/-- The sum of bytes modulo 256 (R176). -/
def byteSum (bs : List Byte) : Byte := bs.foldl (fun a b => a + b) 0#8

/-- Bytes followed by the check byte that makes them sum to 0 modulo 256 (R183). -/
def withCheck (bs : List Byte) : List Byte := bs ++ [0#8 - byteSum bs]

/-- The bytes of a reply frame: sync, two-byte length, tag, status, payload, check (R183). -/
def ReplyFrame.bytes (f : ReplyFrame) : List Byte :=
  withCheck ([syncByte] ++ beBytes 2 (f.payload.length + 3) ++ [f.tag, f.status.code] ++ f.payload)

/-- What the host link shifts out in a select period that begins now: the head reply, or the idle byte where the path is empty; and in a
period whose reply is done, the idle byte until the period ends (R174; log entry 20). -/
def State.hostShiftsOut (s : State) : List Byte :=
  if s.hostRead then [idleByte]
  else
    match s.host.replies with
    | [] => [idleByte]
    | f :: _ => f.bytes

end Sys2Proof.Machine
end

