-- ==== Sys2Proof/Machine/Calculator.lean ====
section
/-! DEFINITION. The ranging calculator (chapter 6): arithmetic only, it keeps and changes nothing (R99). -/

namespace Sys2Proof.Machine

/-- Round trip, EqD and drop length of a round trip in 0..Teq (R102, R103). -/
def rangingOf (teq rtt : Nat) : Ranging where
  roundTrip := rtt
  eqd := teq - rtt
  length := (rtt * 817 + 5000) / 10000

/-- The outcome of a first round trip (R101). -/
inductive Reach where
  | early
  | inReach (g : Ranging)
  | beyond
  deriving DecidableEq, Repr

/-- The round trip of a captured offset at the delay `d` (R101). -/
def roundTrip (q : Port) (offset d : Nat) : Int :=
  (offset : Int) - q.config.tr - d - q.loopOffset

/-- The outcome of a signed round trip against the port's Teq (R101). -/
def reachOf (teq : Nat) (rtt : Int) : Reach :=
  if rtt < 0 then .early
  else if rtt ≤ teq then .inReach (rangingOf teq rtt.toNat)
  else .beyond

/-- The classes of a drift (R104). -/
inductive DriftClass where
  | hold
  | correct
  | excess
  deriving DecidableEq, Repr

/-- The drift of a captured offset against the EqD and the round trip a record holds (R104). -/
def driftOf (q : Port) (offset : Nat) (g : Ranging) : Int :=
  roundTrip q offset g.eqd - g.roundTrip

/-- The class of a drift (R104). -/
def classOf (c : PortConfig) (drift : Int) : DriftClass :=
  if drift.natAbs ≤ c.hold then .hold
  else if drift.natAbs ≤ c.limit then .correct
  else .excess

/-- The shifted round trip of a recorded one, in reach or not (R105). -/
def shifted (teq : Nat) (g : Ranging) (shift : Int) : Reach := reachOf teq ((g.roundTrip : Int) + shift)

/-- The band test (R103): a record without a band is inside. -/
def insideBand (b : Option Band) (length : Nat) : Bool :=
  match b with
  | none => true
  | some b => decide (b.dmin ≤ length ∧ length ≤ b.dmax)

/-- A quotient rounded up. -/
def ceilDiv (a b : Nat) : Nat := (a + b - 1) / b

/-- The result of a level correction (R107). -/
structure LevelCorrection where
  needed  : Bool
  applied : Nat
  index   : Nat
  deriving DecidableEq, Repr

/-- The level correction of a code for a terminal at an index (R107). -/
def levelCorrection (c : PortConfig) (code index : Nat) (levelable : Bool) : LevelCorrection :=
  if code = 0 then { needed := false, applied := 0, index := index }
  else if code < c.lo then
    let n := if levelable then min (ceilDiv (c.lo - code) 8) (7 - index) else 0
    { needed := true, applied := n, index := index + n }
  else if code ≤ c.hi then { needed := false, applied := 0, index := index }
  else
    let n := if levelable then min (ceilDiv (code - c.hi) 8) index else 0
    { needed := true, applied := n, index := index - n }

/-- The index after the service level step, if there is a step (R109). -/
def serviceStep (c : PortConfig) (code index : Nat) (levelable : Bool) : Option Nat :=
  if 0 < code ∧ code + 8 < c.lo ∧ levelable ∧ index < 7 then some (index + 1)
  else if c.hi + 8 < code ∧ levelable ∧ 0 < index then some (index - 1)
  else none

/-- The finish level condition; none stands for UNUSABLE (R110). -/
def finishCondition (c : PortConfig) (code : Nat) : Option LevelCondition :=
  if code = 0 then none
  else if c.lo ≤ code ∧ code ≤ c.hi then some .normal
  else if c.floor ≤ code ∧ code < c.lo then some .weak
  else if c.hi < code ∧ code ≤ c.ceiling then some .hot
  else none

/-- The service level condition (R111). The code 0 is WEAK whatever lo is, also where lo is 0 (log entry 34). -/
def serviceCondition (c : PortConfig) (code : Nat) : LevelCondition :=
  if code = 0 ∨ code < c.lo then .weak else if code ≤ c.hi then .normal else .hot

/-- The calibration mean of the captured offsets, if they are accepted (R112). -/
def calibrationMean (offsets : List Nat) : Option Nat :=
  let mean := offsets.sum / 4
  let spread := offsets.foldl max 0 - offsets.foldl min (offsets.headD 0)
  if spread ≤ 8 ∧ mean ≤ 4095 then some mean else none

/-- Whether a record's terminal is levelable: an absent flag is no (R1). -/
def Record.isLevelable (c : Record) : Bool := c.levelable.getD false

/-- The drop length a record holds. -/
def Record.dropLength (c : Record) : Nat := (c.ranging.map Ranging.length).getD 0

end Sys2Proof.Machine
end

