-- ==== Sys2Proof/Machine/Operands.lean ====
section
/-! DEFINITION. The operand forms of the link commands: argument layouts and codes (R184), their ranges (R1, R10, R48, R49), and which
link may send what (R172). -/

namespace Sys2Proof.Machine

/-! ### Plan fields (R1, R184) -/

/-- The serial of a plan block, when its presence bit is set (R184). -/
def givenSerial (a : PlanArgs) : Option Serial := if a.presence.getLsbD 0 then some a.serial else none

/-- The preferred drop id of a plan block, when its presence bit is set (R184). -/
def givenPreferred (a : PlanArgs) : Option Nat :=
  if a.presence.getLsbD 1 then some a.preferred.toNat else none

/-- The band of a plan block, when its presence bit is set (R184). -/
def givenBand (a : PlanArgs) : Option Band :=
  if a.presence.getLsbD 2 then some { dmin := a.dmin.toNat, dmax := a.dmax.toNat } else none

/-- No reserved bit is set in a presence byte (R184). -/
def presenceOk (b : Byte) : Bool := decide (b.toNat < 8)

/-- A plot lies in 1..9999 (R1). -/
def plotOk (n : Nat) : Bool := decide (1 ≤ n ∧ n ≤ 9999)

/-- An optional serial is not 0 (R184). -/
def serialOk : Option Serial → Bool
  | none => true
  | some x => x != 0

/-- An optional preferred drop id lies in 1..126 (R1). -/
def preferredOk : Option Nat → Bool
  | none => true
  | some d => decide (1 ≤ d ∧ d ≤ Config.maxDropId)

/-- An optional band lies in 0..19,999 with dmin at most dmax (R1, R10). -/
def bandOk : Option Band → Bool
  | none => true
  | some b => decide (b.dmin ≤ b.dmax ∧ b.dmax ≤ 19999)

/-- The argument ranges of PLAN and RESTORE (R10, check 3; R184). -/
def planArgsOk (a : PlanArgs) : Bool :=
  presenceOk a.presence && plotOk a.plot.toNat && decide (a.port.toNat ≤ 3) && decide (a.serviceClass.toNat ≤ 7)
    && decide (a.autoAdmit.toNat ≤ 1) && serialOk (givenSerial a) && preferredOk (givenPreferred a)
    && bandOk (givenBand a)

/-- Whether a bit of AMEND's selection byte is set (R184). -/
def selects (a : AmendArgs) (bit : Nat) : Bool := a.selection.getLsbD bit

/-- The argument ranges of AMEND (R10, check 3; R184). The bytes of a field that is not selected are not tested (DESIGN CHOICE, log entry
38); the reserved bits of the selection and presence bytes always are. -/
def amendArgsOk (a : AmendArgs) : Bool :=
  decide (0 < a.selection.toNat ∧ a.selection.toNat < 128) && presenceOk a.plan.presence
    && (!selects a 0 || decide (a.plan.serviceClass.toNat ≤ 7))
    && (!selects a 1 || decide (a.plan.autoAdmit.toNat ≤ 1))
    && (!selects a 2 || bandOk (givenBand a.plan))
    && (!selects a 3 || preferredOk (givenPreferred a.plan))
    && (!selects a 4 || plotOk a.plan.plot.toNat)
    && (!selects a 5 || serialOk (givenSerial a.plan))
    && (!selects a 6 || decide (a.plan.port.toNat ≤ 3))

/-! ### Configuration (R48, R49, R184) -/

/-- Whether a bit of PORT CONFIGURE's selection is set (R184). -/
def picks (a : ConfigArgs) (bit : Nat) : Bool := a.selection.getLsbD bit

/-- The configuration set as it would stand after a PORT CONFIGURE (R49). -/
def configApplied (a : ConfigArgs) (c : PortConfig) : PortConfig where
  teq := if picks a 0 then a.teq.toNat else c.teq
  tr := if picks a 1 then a.tr.toNat else c.tr
  lo := if picks a 2 then a.lo.toNat else c.lo
  hi := if picks a 3 then a.hi.toNat else c.hi
  floor := if picks a 4 then a.floor.toNat else c.floor
  ceiling := if picks a 5 then a.ceiling.toNat else c.ceiling
  initIndex := if picks a 6 then a.initIndex.toNat else c.initIndex
  mode := if picks a 7 then (DiscoveryMode.ofCode a.mode).getD c.mode else c.mode
  interval := if picks a 8 then a.interval.toNat else c.interval
  initSpread := if picks a 9 then a.spread.toNat else c.initSpread
  period := if picks a 10 then a.period.toNat else c.period
  hold := if picks a 11 then a.hold.toNat else c.hold
  limit := if picks a 12 then a.limit.toNat else c.limit
  gap := if picks a 13 then a.gap.toNat else c.gap

/-- The feed select as it would stand after a PORT CONFIGURE (R49, R51). -/
def configFeed (a : ConfigArgs) (f : Feed) : Feed :=
  if picks a 14 then (Feed.ofCode a.feed).getD f else f

/-- Each item lies in its range and the cross-checks hold (R48, R49). -/
def PortConfig.inRange (c : PortConfig) : Bool :=
  decide (1 ≤ c.teq ∧ c.teq ≤ 240000) && decide (20000 ≤ c.tr ∧ c.tr ≤ 40000)
    && decide (c.lo < c.hi ∧ c.hi ≤ 255) && decide (c.floor ≤ c.lo) && decide (c.hi ≤ c.ceiling ∧ c.ceiling ≤ 255)
    && decide (c.initIndex ≤ 7) && decide (16 ≤ c.interval ∧ c.interval ≤ 4096) && decide (c.initSpread ≤ 6)
    && decide (8 ≤ c.period ∧ c.period ≤ 65535) && decide (c.hold ≤ 8) && decide (c.hold < c.limit ∧ c.limit ≤ 256)
    && decide (c.gap ≤ 8)

/-- The ranges and cross-checks of PORT CONFIGURE against the configuration it meets (R43, step 3; R49; R184). The mode and feed bytes of
an item that is not selected are not tested (DESIGN CHOICE, log entry 38). -/
def configArgsOk (a : ConfigArgs) (c : PortConfig) : Bool :=
  decide (0 < a.selection.toNat ∧ a.selection.toNat < 32768)
    && (!picks a 7 || (DiscoveryMode.ofCode a.mode).isSome)
    && (!picks a 14 || (Feed.ofCode a.feed).isSome)
    && (configApplied a c).inRange

/-- The configuration block without its feed: 20 bytes (R184). -/
def PortConfig.bytes (c : PortConfig) : List Byte :=
  beBytes 3 c.teq ++ beBytes 2 c.tr ++ beBytes 1 c.lo ++ beBytes 1 c.hi ++ beBytes 1 c.floor ++ beBytes 1 c.ceiling
    ++ beBytes 1 c.initIndex ++ [c.mode.code] ++ beBytes 2 c.interval ++ beBytes 1 c.initSpread
    ++ beBytes 2 c.period ++ beBytes 1 c.hold ++ beBytes 2 c.limit ++ beBytes 1 c.gap

/-! ### Link permission (R172) -/

/-- The rows of R172's table. -/
inductive Permit where
  | read
  | crew
  | hostOnly
  deriving DecidableEq, Repr

/-- Whether a command of a row may come from a link in a site phase (R172). -/
def permitted (l : Link) (phase : SitePhase) (k : Permit) : Bool :=
  match l, k, phase with
  | .host, _, _ => true
  | .craft, .read, _ => true
  | .craft, .crew, .build => true
  | .craft, .crew, .service => false
  | .craft, .hostOnly, _ => false

/-! ### Command codes and argument bytes (R184) -/

/-- The number of argument bytes of a command code; none for a code that is not listed (R184). -/
def argLength (code : Byte) : Option Nat :=
  match code.toNat with
  | 0x11 => some 21
  | 0x12 => some 22
  | 0x13 => some 2
  | 0x14 => some 10
  | 0x15 => some 2
  | 0x16 => some 21
  | 0x17 => some 2
  | 0x18 => some 2
  | 0x19 => some 2
  | 0x1A => some 2
  | 0x1B => some 2
  | 0x1C => some 2
  | 0x1D => some 2
  | 0x21 => some 1
  | 0x22 => some 1
  | 0x23 => some 1
  | 0x24 => some 1
  | 0x25 => some 1
  | 0x26 => some 24
  | 0x27 => some 1
  | 0x28 => some 3
  | 0x31 => some 2
  | 0x32 => some 8
  | 0x33 => some 2
  | 0x34 => some 0
  | 0x35 => some 3
  | 0x36 => some 1
  | 0x37 => some 1
  | 0x38 => some 1
  | 0x39 => some 0
  | 0x3A => some 0
  | 0x41 => some 1
  | 0x42 => some 0
  | 0x43 => some 0
  | 0x44 => some 0
  | _ => none

/-- A one-byte field at an offset of argument bytes. -/
def byteAt (bs : List Byte) (offset : Nat) : Byte := BitVec.ofNat 8 (fieldAt bs offset 1)

/-- A two-byte field at an offset of argument bytes. -/
def halfAt (bs : List Byte) (offset : Nat) : Half := BitVec.ofNat 16 (fieldAt bs offset 2)

/-- A serial at an offset of argument bytes. -/
def serialAt (bs : List Byte) (offset : Nat) : Serial := BitVec.ofNat 64 (fieldAt bs offset 8)

/-- Record, presence byte and plan block, the presence byte standing at offset `at0` and the block after it (R184). -/
def planAt (bs : List Byte) (at0 : Nat) : PlanArgs where
  record := halfAt bs 0
  presence := byteAt bs at0
  plot := halfAt bs (at0 + 1)
  port := byteAt bs (at0 + 3)
  serviceClass := byteAt bs (at0 + 4)
  autoAdmit := byteAt bs (at0 + 5)
  serial := serialAt bs (at0 + 6)
  preferred := byteAt bs (at0 + 14)
  dmin := halfAt bs (at0 + 15)
  dmax := halfAt bs (at0 + 17)

/-- The arguments of PORT CONFIGURE (R184). -/
def configAt (bs : List Byte) : ConfigArgs where
  port := byteAt bs 0
  selection := halfAt bs 1
  teq := BitVec.ofNat 24 (fieldAt bs 3 3)
  tr := halfAt bs 6
  lo := byteAt bs 8
  hi := byteAt bs 9
  floor := byteAt bs 10
  ceiling := byteAt bs 11
  initIndex := byteAt bs 12
  mode := byteAt bs 13
  interval := halfAt bs 14
  spread := byteAt bs 16
  period := halfAt bs 17
  hold := byteAt bs 19
  limit := halfAt bs 20
  gap := byteAt bs 22
  feed := byteAt bs 23

/-- The command of a listed code with its argument bytes (R184). -/
def parseCommand (code : Byte) (bs : List Byte) : Option Command :=
  match code.toNat with
  | 0x11 => some (.plan (planAt bs 2))
  | 0x12 => some (.amend { selection := byteAt bs 2, plan := planAt bs 3 })
  | 0x13 => some (.retire (halfAt bs 0))
  | 0x14 => some (.adopt (halfAt bs 0) (serialAt bs 2))
  | 0x15 => some (.retry (halfAt bs 0))
  | 0x16 => some (.restore (planAt bs 2))
  | 0x17 => some (.pin (halfAt bs 0))
  | 0x18 => some (.unpin (halfAt bs 0))
  | 0x19 => some (.confirm (halfAt bs 0))
  | 0x1A => some (.reject (halfAt bs 0))
  | 0x1B => some (.admitDrop (halfAt bs 0))
  | 0x1C => some (.suspend (halfAt bs 0))
  | 0x1D => some (.rediscover (halfAt bs 0))
  | 0x21 => some (.portEnable (byteAt bs 0))
  | 0x22 => some (.portDisable (byteAt bs 0))
  | 0x23 => some (.calibrate (byteAt bs 0))
  | 0x24 => some (.start (byteAt bs 0))
  | 0x25 => some (.stop (byteAt bs 0))
  | 0x26 => some (.portConfigure (configAt bs))
  | 0x27 => some (.sweep (byteAt bs 0))
  | 0x28 => some (.changeover (byteAt bs 0) (halfAt bs 1))
  | 0x31 => some (.readRecord (halfAt bs 0))
  | 0x32 => some (.findSerial (serialAt bs 0))
  | 0x33 => some (.findPlot (halfAt bs 0))
  | 0x34 => some .strangers
  | 0x35 => some (.silenceMap (byteAt bs 0) (halfAt bs 1))
  | 0x36 => some (.dropMap (byteAt bs 0))
  | 0x37 => some (.activationQueue (byteAt bs 0))
  | 0x38 => some (.portStatus (byteAt bs 0))
  | 0x39 => some .deviceStatus
  | 0x3A => some .changes
  | 0x41 => some (.scrubConfigure (byteAt bs 0))
  | 0x42 => some .integrity
  | 0x43 => some .phaseService
  | 0x44 => some .softReset
  | _ => none

/-- The presence byte and the plan block of plan arguments (R184). -/
def planBlockBytes (a : PlanArgs) : List Byte :=
  [a.presence] ++ beBytes 2 a.plot.toNat ++ [a.port, a.serviceClass, a.autoAdmit] ++ beBytes 8 a.serial.toNat
    ++ [a.preferred] ++ beBytes 2 a.dmin.toNat ++ beBytes 2 a.dmax.toNat

/-- The argument bytes of PORT CONFIGURE (R184). -/
def configBytes (a : ConfigArgs) : List Byte :=
  [a.port] ++ beBytes 2 a.selection.toNat ++ beBytes 3 a.teq.toNat ++ beBytes 2 a.tr.toNat
    ++ [a.lo, a.hi, a.floor, a.ceiling, a.initIndex, a.mode] ++ beBytes 2 a.interval.toNat ++ [a.spread]
    ++ beBytes 2 a.period.toNat ++ [a.hold] ++ beBytes 2 a.limit.toNat ++ [a.gap, a.feed]

/-- The code and the argument bytes of a command, as its sender writes them (R184). -/
def commandBytes : Command → Byte × List Byte
  | .plan a => (0x11#8, beBytes 2 a.record.toNat ++ planBlockBytes a)
  | .amend a => (0x12#8, beBytes 2 a.plan.record.toNat ++ [a.selection] ++ planBlockBytes a.plan)
  | .retire r => (0x13#8, beBytes 2 r.toNat)
  | .adopt r serial => (0x14#8, beBytes 2 r.toNat ++ beBytes 8 serial.toNat)
  | .retry r => (0x15#8, beBytes 2 r.toNat)
  | .restore a => (0x16#8, beBytes 2 a.record.toNat ++ planBlockBytes a)
  | .pin r => (0x17#8, beBytes 2 r.toNat)
  | .unpin r => (0x18#8, beBytes 2 r.toNat)
  | .confirm r => (0x19#8, beBytes 2 r.toNat)
  | .reject r => (0x1A#8, beBytes 2 r.toNat)
  | .admitDrop r => (0x1B#8, beBytes 2 r.toNat)
  | .suspend r => (0x1C#8, beBytes 2 r.toNat)
  | .rediscover r => (0x1D#8, beBytes 2 r.toNat)
  | .portEnable p => (0x21#8, [p])
  | .portDisable p => (0x22#8, [p])
  | .calibrate p => (0x23#8, [p])
  | .start p => (0x24#8, [p])
  | .stop p => (0x25#8, [p])
  | .portConfigure a => (0x26#8, configBytes a)
  | .sweep p => (0x27#8, [p])
  | .changeover p r => (0x28#8, [p] ++ beBytes 2 r.toNat)
  | .readRecord r => (0x31#8, beBytes 2 r.toNat)
  | .findSerial serial => (0x32#8, beBytes 8 serial.toNat)
  | .findPlot plot => (0x33#8, beBytes 2 plot.toNat)
  | .strangers => (0x34#8, [])
  | .silenceMap p r => (0x35#8, [p] ++ beBytes 2 r.toNat)
  | .dropMap p => (0x36#8, [p])
  | .activationQueue p => (0x37#8, [p])
  | .portStatus p => (0x38#8, [p])
  | .deviceStatus => (0x39#8, [])
  | .changes => (0x3A#8, [])
  | .scrubConfigure i => (0x41#8, [i])
  | .integrity => (0x42#8, [])
  | .phaseService => (0x43#8, [])
  | .softReset => (0x44#8, [])

/-- The bytes of a command frame: sync, length, tag, code, arguments, check (R183). -/
def commandFrame (c : Command) (tag : Byte) : List Byte :=
  withCheck ([syncByte] ++ beBytes 1 ((commandBytes c).2.length + 3) ++ [tag, (commandBytes c).1] ++ (commandBytes c).2)

end Sys2Proof.Machine
end

