-- ==== Sys2Proof/Machine/Replies.lean ====
section
/-! DEFINITION. What every link command shares: the reply path (R173, R177), the checks and the reply form of record commands
(R10, R11) and of port commands (R43), and the stranger list (R8, R9). -/

namespace Sys2Proof.Machine

/-- What a command answers: a status and a payload (R183). -/
structure Reply where
  status  : Status
  payload : List Byte
  deriving DecidableEq, Repr

/-- A refusal before the command reaches its record or port: no payload (R183). -/
def bare (st : Status) : Reply where
  status := st
  payload := []

/-- The link interface's state for a link (R173). -/
def State.link (s : State) (l : Link) : LinkState :=
  match l with
  | .host => s.host
  | .craft => s.craft

/-- Change the state of a link. -/
def State.modLink (s : State) (l : Link) (f : LinkState → LinkState) : State :=
  match l with
  | .host => { s with host := f s.host }
  | .craft => { s with craft := f s.craft }

/-- Whether a link's reply path holds fewer than 8 frames (R177). -/
def State.replyRoom (s : State) (l : Link) : Bool :=
  decide ((s.link l).replies.length < Config.replyLimit)

/-- A reply is appended to a link's reply path (R177). -/
def State.appendReply (s : State) (l : Link) (f : ReplyFrame) : State :=
  s.modLink l (fun k => { k with replies := k.replies ++ [f] })

/-- An immediate reply: status and no payload, appended at once, or dropped when the path is full (R176). -/
def State.immediate (s : State) (l : Link) (tag : Byte) (st : Status) : State :=
  if s.replyRoom l then s.appendReply l { tag := tag, status := st, payload := [] } else s

/-- A command is appended at the tail of its link's queue, or answered LINK_FULL (R176, steps 4 and 5). -/
def State.queueCommand (s : State) (l : Link) (tag : Byte) (c : Command) : State :=
  if (s.link l).queue.length < Config.commandLimit then
    s.modLink l (fun k => { k with queue := k.queue ++ [{ tag := tag, command := c }] })
  else s.immediate l tag .linkFull

/-- A command of link `l` is taken: the link becomes the last-served one, the command is carried out whole and its reply appended in
the same step (R177). -/
def State.answer (s : State) (l : Link) (tag : Byte) (act : State → State × Reply) : State :=
  { (act s).1 with lastServed := l }.appendReply l
    { tag := tag, status := (act s).2.status, payload := (act s).2.payload }

/-- A row of the table that is the link command `c`, with its effect `act`: it is taken when its link's reply path has room, and
otherwise waits in its link's command queue, from which COMMAND_TAKE takes it (R176, R177; log entries 1 and 2). Nothing
happens while the hard-reset pin is held (R182). -/
def linkCommand (l : Link) (tag : Byte) (c : Command) (act : State → State × Reply) (s : State) : Result :=
  .next (if s.resetHeld then s
    else if s.replyRoom l then s.answer l tag act
    else s.queueCommand l tag c).settle

/-! ### Record commands (R10, R11) -/

/-- The three bytes of a record command's reply: previous state, new state, last cause (R11, R183). -/
def recordReply (st : Status) (before after : Record) : Reply where
  status := st
  payload := [before.state.code, after.state.code, after.cause.code]

/-- The checks 1 to 4 of R10, then the command's own checks 5 to 8 in their order, then its effect, and the reply of R11. -/
def recordCommand (l : Link) (k : Permit) (n : Nat) (argsOk : Bool) (check : State → Record → Option Status)
    (apply : State → State) (s : State) : State × Reply :=
  if !permitted l s.phase k then (s, bare .notPermitted)
  else if Config.records ≤ n then (s, bare .noSuchRecord)
  else if !argsOk then (s, bare .outOfRange)
  else if !s.verifies n then (s.damage n, recordReply .damaged ((s.damage n).record n) ((s.damage n).record n))
  else
    match check s (s.record n) with
    | some st => (s, recordReply st (s.record n) (s.record n))
    | none => (apply s, recordReply .ok (s.record n) ((apply s).record n))

/-- The craft pin test of R172, at check 6 of R10. -/
def craftPinned (l : Link) (c : Record) : Bool := l == .craft && c.pinned

/-- A key is held by a record other than `n` (R10, check 7). -/
def heldByOther (m : NumMap) (k n : Nat) : Bool :=
  match mapGet m k with
  | some r => r != n
  | none => false

/-- Record `n` is the reference of a changeover in progress on port `p` (R36, R129). -/
def State.isReference (s : State) (p n : Nat) : Bool := (s.port p).changeover.reference == some n

/-! ### Port commands (R43) -/

/-- The checks of R43 for a port command that changes the port state; the reply carries the two port states, or the one as it
stands (R183). -/
def portCommand (l : Link) (p : Nat) (check : Port → Option Status) (apply : State → State) (s : State) :
    State × Reply :=
  if !permitted l s.phase .hostOnly then (s, bare .notPermitted)
  else if Config.ports ≤ p then (s, bare .outOfRange)
  else
    match check (s.port p) with
    | some st => (s, { status := st, payload := [(s.port p).state.code] })
    | none => (apply s, { status := .ok, payload := [(s.port p).state.code, ((apply s).port p).state.code] })

/-! ### The stranger list (R8, R9) -/

/-- The stranger entry of a serial (R8). -/
def State.stranger (s : State) (x : Serial) : Option Stranger := s.strangers.find? (fun e => e.serial == x)

/-- The entry of a serial leaves the list; the entries behind it keep their order (R9). -/
def State.removeStranger (s : State) (x : Serial) : State :=
  { s with strangers := s.strangers.filter (fun e => e.serial != x) }

/-- A new entry is appended at the tail, the oldest removed first when the list is full (R8). -/
def State.appendStranger (s : State) (e : Stranger) : State :=
  { s with strangers :=
    (if s.strangers.length < Config.strangerLimit then s.strangers else s.strangers.drop 1) ++ [e] }

/-- A serial enters the serial index for record `n` (R6). -/
def State.indexSerial (s : State) (x : Serial) (n : Nat) : State :=
  { s with serialIndex := mapPut s.serialIndex x.toNat n }

/-- A serial, if present, leaves the serial index (R6). -/
def State.unindexSerial (s : State) : Option Serial → State
  | none => s
  | some x => { s with serialIndex := mapErase s.serialIndex x.toNat }

/-- A plot enters the plot index for record `n` (R7). -/
def State.indexPlot (s : State) (plot n : Nat) : State :=
  { s with plotIndex := mapPut s.plotIndex plot n }

/-- A plot, if present, leaves the plot index (R7). -/
def State.unindexPlot (s : State) : Option Nat → State
  | none => s
  | some x => { s with plotIndex := mapErase s.plotIndex x }

end Sys2Proof.Machine
end

