-- ==== Sys2Proof/Machine/Ports.lean ====
section
/-! DEFINITION. The port commands of chapter 3, SWEEP (R71) and CHANGEOVER (R152, R153). -/

namespace Sys2Proof.Machine

/-! ### PORT ENABLE, START, CALIBRATE (R44, R46, R52) -/

/-- A port command that one state accepts; a calibration or a changeover in progress gives `inWork` (R43). -/
def needPortState (st : PortState) (inWork : Status) (q : Port) : Option Status :=
  if q.state = st then none
  else if q.state = .calibrating ∨ q.state = .changeover then some inWork
  else some .refusedState

/-- PORT ENABLE (R44). -/
def doPortEnable (l : Link) (p : Byte) : State → State × Reply :=
  portCommand l p.toNat (needPortState .down .refusedState)
    (fun s => s.modPort p.toNat (fun q => { q with state := .standby }))

/-- START also needs the calibrated flag (R43, R46). -/
def startCheck (q : Port) : Option Status :=
  match needPortState .standby .busy q with
  | some st => some st
  | none => if q.calibrated then none else some .notCalibrated

/-- START (R46). -/
def doStart (l : Link) (p : Byte) : State → State × Reply :=
  portCommand l p.toNat startCheck
    (fun s => s.modPort p.toNat (fun q => { q with state := .run, discoveryTimer := 0 }))

/-- CALIBRATE (R52). -/
def doCalibrate (l : Link) (p : Byte) : State → State × Reply :=
  portCommand l p.toNat (needPortState .standby .busy)
    (fun s => s.modPort p.toNat (fun q => { q with state := .calibrating, calibration := [] }))

/-! ### PORT DISABLE (R45) -/

/-- The arrival queue, the report in processing and the heard list are discarded (R75, R83). -/
def Port.withoutReports (q : Port) : Port :=
  { q with arrivals := [], processing := none, heard := [], heardTag := none }

/-- The records PORT DISABLE changes, and so verifies: those the port's drop map names, those whose fields place them on the port with
a drop id (R45), and those it changes only by discarding a descriptor that names them (R80, R163; log entry 11). -/
def State.disableSet (s : State) (p : Nat) : List Nat :=
  allRecords.filter (fun r =>
    (s.port p).dropMap.any (fun e => e.2 == r) || ((s.record r).port == p && (s.record r).dropId != 0)
      || (s.port p).outbound.any (fun d => d.names == some r))

/-- What PORT DISABLE makes of a record of the port that holds a drop id: `n` descriptors name it in other ports' queues, a SET DELAY
among them or not (R45). -/
def Record.portDown (c : Record) (n : Nat) (setDelay : Bool) : Record :=
  { c with
    state := .expected
    cause := .portDown
    dropId := 0
    ranging := none
    attempts := 0
    rounds := 0
    misses := 0
    outstanding := n
    delaySync := if setDelay then .queued else .synced }

/-- PORT DISABLE of one record, already verified: it acts on the records whose port field is the port and whose drop id is nonzero
(R45, R32). -/
def State.disableRecord (p : Nat) (s : State) (r : Nat) : State :=
  let c := s.record r
  if c.port = p ∧ c.dropId ≠ 0 then
    let others := allPorts.filter (fun x => x != p)
    (s.freeDrop p c.dropId).change r
      (fun c => c.portDown (s.queuedNaming others r) (s.setDelayQueued others r))
  else s

/-- A record left WAITING by the discarding of its SET DELAY is served on its own port (R79, R80). -/
def State.serveWaiting (s : State) (r : Nat) : State :=
  if (s.record r).delaySync = .waiting then s.queueSetDelay (s.record r).port r else s

/-- The port fields after PORT DISABLE (R45, R83). -/
def Port.disabled (q : Port) : Port :=
  { q.withoutReports with
    state := .down
    activation := []
    outbound := []
    owed := 0
    cursor := 0 }

/-- The effect of PORT DISABLE: the records it changes are verified, the outbound queue is emptied, the port's records become EXPECTED,
the port's own fields follow, and records of other ports that lost their SET DELAY here are served (R45, R79, R80, R83, R163;
log entry 11). -/
def State.disablePort (s : State) (p : Nat) : State :=
  let rs := s.disableSet p
  let s := (eachNumber State.verifyOrDamage rs s).emptyOutbound p
  let s := (eachNumber (State.disableRecord p) rs s).modPort p Port.disabled
  eachNumber State.serveWaiting rs s

/-- PORT DISABLE (R45). -/
def doPortDisable (l : Link) (p : Byte) : State → State × Reply :=
  portCommand l p.toNat (needPortState .standby .busy) (fun s => s.disablePort p.toNat)

/-! ### STOP (R47, R55) -/

/-- STOP applies in RUN and CALIBRATING (R43). -/
def stopCheck (q : Port) : Option Status :=
  match q.state with
  | .run | .calibrating => none
  | .changeover => some .busy
  | .down | .standby => some .refusedState

/-- The port stands in STANDBY with its reports discarded; a stopped calibration has failed (R47, R55, R83). -/
def Port.stopped (q : Port) : Port :=
  { q.withoutReports with
    state := .standby
    due := false
    calibration := []
    conditions := if q.state = .calibrating then { q.conditions with calibrationFailed := true } else q.conditions }

/-- The effect of STOP (R47). -/
def State.stopPort (s : State) (p : Nat) : State := (s.abandon p).modPort p Port.stopped

/-- STOP (R47). -/
def doStop (l : Link) (p : Byte) : State → State × Reply :=
  portCommand l p.toNat stopCheck (fun s => s.stopPort p.toNat)

/-! ### PORT CONFIGURE (R49, R50, R51) -/

/-- A record of port `p` holds a round trip (R49). -/
def State.rangedPresent (s : State) (p : Nat) : Bool :=
  s.records.toList.any (fun x => x.content.port == p && x.content.ranging.isSome)

/-- PORT CONFIGURE changes Teq, TR or the feed select; a value already held is no change (R49). -/
def changesReach (a : ConfigArgs) (q : Port) : Bool :=
  (configApplied a q.config).teq != q.config.teq || (configApplied a q.config).tr != q.config.tr
    || configFeed a q.feed != q.feed

/-- The port after an accepted PORT CONFIGURE (R49, R50). -/
def Port.configured (a : ConfigArgs) (q : Port) : Port :=
  { q with
    config := configApplied a q.config
    feed := configFeed a q.feed
    spread := if picks a 9 then a.spread.toNat else q.spread }

/-- PORT CONFIGURE: the checks of R43 with those of R49, and the reply with the full configuration set and feed select. -/
def doPortConfigure (l : Link) (a : ConfigArgs) (s : State) : State × Reply :=
  let p := a.port.toNat
  let q := s.port p
  if !permitted l s.phase .hostOnly then (s, bare .notPermitted)
  else if Config.ports ≤ p then (s, bare .outOfRange)
  else if !configArgsOk a q.config then (s, bare .outOfRange)
  else if q.state ≠ .down ∧ q.state ≠ .standby then (s, { status := .busy, payload := [q.state.code] })
  else if changesReach a q && s.rangedPresent p then (s, { status := .rangedPresent, payload := [q.state.code] })
  else
    (s.modPort p (Port.configured a),
      { status := .ok, payload := (configApplied a q.config).bytes ++ [(configFeed a q.feed).code] })

/-! ### SWEEP (R71) -/

/-- SWEEP makes discovery due on one port (R71). -/
def doSweep (l : Link) (b : Byte) (s : State) : State × Reply :=
  let p := b.toNat
  if !permitted l s.phase .crew then (s, bare .notPermitted)
  else if Config.ports ≤ p then (s, bare .outOfRange)
  else if (s.port p).state = .down then (s, bare .refusedState)
  else (s.modPort p (fun q => { q with due := true }),
    { status := .ok, payload := [(s.port p).state.code, flagByte true] })

/-! ### CHANGEOVER (R152, R153) -/

/-- Every entry of the port's activation queue is restarted, in queue order (R128). -/
def State.restartEntries (s : State) (p : Nat) : State :=
  eachNumber (fun s r => s.restart p r none) ((s.port p).activation.map (fun e => e.record)) s

/-- The port enters CHANGEOVER on the other feeder with `r` as its reference (R153, steps 2, 4, 5, 6). -/
def Port.changingOver (r : Nat) (q : Port) : Port :=
  { q.withoutReports with
    feed := q.feed.other
    changeover := { q.changeover with reference := some r, previousFeed := some q.feed, windows := 0 }
    state := .changeover }

/-- The effect of an accepted CHANGEOVER (R153). -/
def State.startChangeover (s : State) (p r : Nat) : State :=
  ((s.abandon p).restartEntries p).modPort p (Port.changingOver r)

/-- Checks 5 and 6 of CHANGEOVER (R152). -/
def referenceCheck (p : Nat) (c : Record) : Option Status :=
  if c.port ≠ p ∨ !c.state.ranged then some .refusedState
  else if c.delaySync ≠ .synced then some .busy
  else none

/-- CHANGEOVER: the checks of R152 in their order. -/
def doChangeover (l : Link) (b : Byte) (ref : Half) (s : State) : State × Reply :=
  let p := b.toNat
  let r := ref.toNat
  let stands (st : Status) (s : State) : State × Reply := (s, { status := st, payload := [(s.port p).state.code] })
  if !permitted l s.phase .hostOnly then (s, bare .notPermitted)
  else if Config.ports ≤ p then (s, bare .outOfRange)
  else if Config.records ≤ r then (s, bare .noSuchRecord)
  else
    match (s.port p).state with
    | .down | .standby => stands .refusedState s
    | .calibrating | .changeover => stands .busy s
    | .run =>
      if !s.verifies r then stands .damaged (s.damage r)
      else
        match referenceCheck p (s.record r) with
        | some st => stands st s
        | none =>
          (s.startChangeover p r,
            { status := .ok, payload :=
                [PortState.run.code, PortState.changeover.code, (s.port p).feed.other.code] })

/-! ### The rows of the table -/

/-- The row PORT_ENABLE. -/
def execPortEnable (l : Link) (tag p : Byte) (s : State) : Result := linkCommand l tag (.portEnable p) (doPortEnable l p) s

/-- The row PORT_DISABLE. -/
def execPortDisable (l : Link) (tag p : Byte) (s : State) : Result := linkCommand l tag (.portDisable p) (doPortDisable l p) s

/-- The row CALIBRATE. -/
def execCalibrate (l : Link) (tag p : Byte) (s : State) : Result := linkCommand l tag (.calibrate p) (doCalibrate l p) s

/-- The row START. -/
def execStart (l : Link) (tag p : Byte) (s : State) : Result := linkCommand l tag (.start p) (doStart l p) s

/-- The row STOP. -/
def execStop (l : Link) (tag p : Byte) (s : State) : Result := linkCommand l tag (.stop p) (doStop l p) s

/-- The row PORT_CONFIGURE. -/
def execPortConfigure (l : Link) (tag : Byte) (a : ConfigArgs) (s : State) : Result :=
  linkCommand l tag (.portConfigure a) (doPortConfigure l a) s

/-- The row SWEEP. -/
def execSweep (l : Link) (tag p : Byte) (s : State) : Result := linkCommand l tag (.sweep p) (doSweep l p) s

/-- The row CHANGEOVER. -/
def execChangeover (l : Link) (tag p : Byte) (ref : Half) (s : State) : Result :=
  linkCommand l tag (.changeover p ref) (doChangeover l p ref) s

end Sys2Proof.Machine
end

