-- ==== Sys2Proof/Machine/Reads.lean ====
section
/-! DEFINITION. The reads: READ RECORD, FIND SERIAL, FIND PLOT, STRANGERS, SILENCE MAP (chapter 1), DROP MAP (chapter 2), ACTIVATION
QUEUE (chapter 7), PORT STATUS (chapter 3) and DEVICE STATUS (chapter 11). Payload layouts: R183, log entry 17. -/

namespace Sys2Proof.Machine

/-- An optional item: a presence byte, and zeros for an absent one (R183). -/
def optionalItem (bytes : Nat) (v : Option Nat) : List Byte := [flagByte v.isSome] ++ beBytes bytes (v.getD 0)

/-- A signed number in four bytes, two's complement (R183). -/
def signedBytes (x : Int) : List Byte := beBytes 4 (BitVec.ofInt 32 x).toNat

/-- A read that any link may send in either phase (R172). -/
def okReply (bs : List Byte) : Reply where
  status := .ok
  payload := bs

/-! ### READ RECORD, FIND SERIAL, FIND PLOT (R21, R22) -/

/-- The phase of record `r` in whichever activation queue holds it (R21). -/
def State.phaseAnywhere (s : State) (r : Nat) : Option Phase := allPorts.findSome? (fun p => s.phaseOf p r)

/-- READ RECORD's content: the image, the check word, the activation phase or FFh (R185). -/
def State.recordContent (s : State) (r : Nat) : List Byte :=
  (s.record r).image ++ beBytes 2 (s.stored r).check.toNat ++ [((s.phaseAnywhere r).map Phase.code).getD 0xFF#8]

/-- READ RECORD (R21). -/
def doReadRecord (r : Half) (s : State) : State × Reply :=
  let n := r.toNat
  if Config.records ≤ n then (s, bare .noSuchRecord)
  else if s.verifies n then (s, okReply (s.recordContent n))
  else (s.damage n, { status := .damaged, payload := (s.damage n).recordContent n })

/-- A lookup that names record `n` verifies it; `items` are the items of its reply (R22, log entry 29). -/
def State.lookedUp (s : State) (n : Nat) (items : State → List Byte) : State × Reply :=
  if s.verifies n then (s, okReply (items s))
  else (s.damage n, { status := .damaged, payload := items (s.damage n) })

/-- Record number, state and port: what both lookups report (R22). -/
def State.foundItems (s : State) (n : Nat) : List Byte :=
  beBytes 2 n ++ [(s.record n).state.code] ++ beBytes 1 (s.record n).port

/-- What FIND SERIAL answers of a serial that no record holds (R22). -/
def State.notHeldItems (s : State) (x : Serial) : List Byte :=
  match s.stranger x with
  | none => [flagByte false]
  | some e => [flagByte true] ++ beBytes 1 e.port ++ beBytes 1 e.sightings ++ beBytes 2 e.lastFrame

/-- FIND SERIAL (R22). -/
def doFindSerial (x : Serial) (s : State) : State × Reply :=
  match mapGet s.serialIndex x.toNat with
  | some n => s.lookedUp n (fun s => s.foundItems n ++ optionalItem 2 (s.record n).plot)
  | none => (s, { status := .notFound, payload := s.notHeldItems x })

/-- FIND PLOT (R22). -/
def doFindPlot (plot : Half) (s : State) : State × Reply :=
  if !plotOk plot.toNat then (s, bare .outOfRange)
  else
    match mapGet s.plotIndex plot.toNat with
    | some n => s.lookedUp n (fun s =>
        s.foundItems n ++ optionalItem 8 ((s.record n).serial.map BitVec.toNat))
    | none => (s, bare .notFound)

/-! ### STRANGERS (R23) -/

/-- A stranger entry in a reply: serial, port, levelable flag, sightings, last frame (R23). -/
def Stranger.bytes (e : Stranger) : List Byte :=
  beBytes 8 e.serial.toNat ++ beBytes 1 e.port ++ [flagByte e.levelable] ++ beBytes 1 e.sightings
    ++ beBytes 2 e.lastFrame

/-- STRANGERS (R23). -/
def doStrangers (s : State) : State × Reply :=
  (s, okReply ((s.strangers.map Stranger.bytes).flatten ++ beBytes 1 s.strangers.length))

/-! ### SILENCE MAP (R24) -/

/-- A record is silent for a port: its port field is the port and it is neither VACANT nor ACTIVE (R24). -/
def silentFor (p : Nat) (c : Record) : Bool := c.port == p && c.state != .vacant && c.state != .active

/-- The items of a rising list of numbers: maximal runs of consecutive numbers, as first and last (R24). -/
def runsOf : List Nat → List (Nat × Nat)
  | [] => []
  | n :: ns =>
    match runsOf ns with
    | (a, b) :: rest => if a = n + 1 then (n, b) :: rest else (n, n) :: (a, b) :: rest
    | [] => [(n, n)]

/-- The silent records of port `p` from a number on, rising (R24). -/
def State.silentFrom (s : State) (p first : Nat) : List Nat :=
  (s.recordsWhere (silentFor p)).filter (fun n => first ≤ n)

/-- The payload of SILENCE MAP: up to 32 items, the more flag and the next number (R24, log entry 17). -/
def silencePayload (items : List (Nat × Nat)) : List Byte :=
  let more := items.drop Config.silenceLimit
  ((items.take Config.silenceLimit).map (fun i => beBytes 2 i.1 ++ beBytes 2 i.2)).flatten
    ++ [flagByte (!more.isEmpty)] ++ optionalItem 2 (more.head?.map (fun i => i.1))

/-- SILENCE MAP: every record it scans is verified (R24, R163; log entry 18). -/
def doSilenceMap (b : Byte) (start : Half) (s : State) : State × Reply :=
  let p := b.toNat
  let first := start.toNat
  if Config.ports ≤ p then (s, bare .outOfRange)
  else if Config.records ≤ first then (s, bare .noSuchRecord)
  else
    let s := eachNumber State.verifyOrDamage (allRecords.filter (fun n => first ≤ n)) s
    (s, okReply (silencePayload (runsOf (s.silentFrom p first))))

/-! ### DROP MAP, ACTIVATION QUEUE (R40, R135) -/

/-- A drop map entry in a reply: drop id, record number, record state (R40). -/
def State.dropEntryBytes (s : State) (e : Nat × Nat) : List Byte :=
  beBytes 1 e.1 ++ beBytes 2 e.2 ++ [(s.record e.2).state.code]

/-- DROP MAP (R40). -/
def doDropMap (b : Byte) (s : State) : State × Reply :=
  let p := b.toNat
  if Config.ports ≤ p then (s, bare .outOfRange)
  else
    let s := eachNumber State.verifyOrDamage ((s.port p).dropMap.map (fun e => e.2)) s
    let m := (s.port p).dropMap
    (s, okReply (beBytes 1 m.length ++ (m.map s.dropEntryBytes).flatten))

/-- An activation entry in a reply (R135). -/
def State.activationEntryBytes (s : State) (e : ActivationEntry) : List Byte :=
  let c := s.record e.record
  beBytes 2 e.record ++ [e.phase.code, c.state.code] ++ beBytes 1 c.dropId ++ optionalItem 2 c.plot
    ++ beBytes 1 c.attempts ++ beBytes 1 c.rounds ++ beBytes 2 c.outstanding ++ [c.delaySync.code]
    ++ beBytes 1 c.levelIndex

/-- ACTIVATION QUEUE (R135). -/
def doActivationQueue (b : Byte) (s : State) : State × Reply :=
  let p := b.toNat
  if Config.ports ≤ p then (s, bare .outOfRange)
  else
    let s := eachNumber State.verifyOrDamage ((s.port p).activation.map (fun e => e.record)) s
    let es := (s.port p).activation
    (s, okReply (beBytes 1 es.length ++ (es.map s.activationEntryBytes).flatten))

/-! ### PORT STATUS, DEVICE STATUS (R58, R180) -/

/-- The open window's kind and tag; kind 0 for none (R58, R184). -/
def windowBytes : Option OpenWindow → List Byte
  | none => [0#8, 0#8]
  | some w => [w.kind.code] ++ beBytes 1 w.tag

/-- The number of offsets captured, present while CALIBRATING (R58). -/
def Port.capturedCount (q : Port) : Option Nat :=
  if q.state = .calibrating then some q.calibration.length else none

/-- The payload of PORT STATUS (R58). -/
def Port.statusBytes (q : Port) : List Byte :=
  [q.state.code] ++ optionalItem 1 q.capturedCount ++ q.config.bytes ++ [q.feed.code]
    ++ beBytes 2 q.loopOffset ++ [flagByte q.calibrated] ++ beBytes 1 q.spread ++ beBytes 2 q.discoveryTimer
    ++ [flagByte q.due] ++ beBytes 1 q.tagCounter ++ windowBytes q.window ++ beBytes 1 q.owed
    ++ beBytes 1 q.dropMap.length ++ beBytes 1 q.activation.length ++ beBytes 1 q.arrivals.length
    ++ beBytes 1 q.outbound.length ++ [flagByte q.changeover.lastOffset.isSome]
    ++ signedBytes (q.changeover.lastOffset.getD 0) ++ [q.conditions.byte]

/-- PORT STATUS: from the host link the condition flags are cleared (R58). -/
def doPortStatus (l : Link) (b : Byte) (s : State) : State × Reply :=
  let p := b.toNat
  if Config.ports ≤ p then (s, bare .outOfRange)
  else (if l = .host then s.flag p (fun _ => Conditions.clear) else s, okReply (s.port p).statusBytes)

/-- DEVICE STATUS (R180). -/
def doDeviceStatus (s : State) : State × Reply :=
  (s, okReply ([s.phase.code, flagByte s.newStranger]
    ++ (allPorts.map (fun p => [(s.port p).state.code, (s.port p).conditions.byte])).flatten
    ++ beBytes 1 s.integrityCount ++ optionalItem 2 s.firstDamaged ++ beBytes 2 s.changed.length
    ++ beBytes 1 s.strangers.length ++ beBytes 1 s.scrubInterval
    ++ beBytes 1 s.host.queue.length ++ beBytes 1 s.craft.queue.length))

/-! ### The rows of the table -/

/-- The row READ_RECORD. -/
def execReadRecord (l : Link) (tag : Byte) (r : Half) (s : State) : Result := linkCommand l tag (.readRecord r) (doReadRecord r) s

/-- The row FIND_SERIAL. -/
def execFindSerial (l : Link) (tag : Byte) (x : Serial) (s : State) : Result :=
  linkCommand l tag (.findSerial x) (doFindSerial x) s

/-- The row FIND_PLOT. -/
def execFindPlot (l : Link) (tag : Byte) (plot : Half) (s : State) : Result :=
  linkCommand l tag (.findPlot plot) (doFindPlot plot) s

/-- The row STRANGERS. -/
def execStrangers (l : Link) (tag : Byte) (s : State) : Result := linkCommand l tag .strangers doStrangers s

/-- The row SILENCE_MAP. -/
def execSilenceMap (l : Link) (tag p : Byte) (first : Half) (s : State) : Result :=
  linkCommand l tag (.silenceMap p first) (doSilenceMap p first) s

/-- The row DROP_MAP. -/
def execDropMap (l : Link) (tag p : Byte) (s : State) : Result := linkCommand l tag (.dropMap p) (doDropMap p) s

/-- The row ACTIVATION_QUEUE. -/
def execActivationQueue (l : Link) (tag p : Byte) (s : State) : Result :=
  linkCommand l tag (.activationQueue p) (doActivationQueue p) s

/-- The row PORT_STATUS. -/
def execPortStatus (l : Link) (tag p : Byte) (s : State) : Result := linkCommand l tag (.portStatus p) (doPortStatus l p) s

/-- The row DEVICE_STATUS. -/
def execDeviceStatus (l : Link) (tag : Byte) (s : State) : Result := linkCommand l tag .deviceStatus doDeviceStatus s

end Sys2Proof.Machine
end

