-- ==== Sys2Proof/Machine/Device.lean ====
section
/-! DEFINITION. The device commands: CHANGES (R179), SCRUB CONFIGURE (R164), INTEGRITY (R170), PHASE SERVICE (R171), SOFT RESET (R181);
and the board's events: the hard-reset pin (R182) and storage upsets (R163). -/

namespace Sys2Proof.Machine

/-! ### CHANGES, SCRUB CONFIGURE, INTEGRITY, PHASE SERVICE -/

/-- A changed record in a reply: number, state, last cause (R179). -/
def State.changedBytes (s : State) (n : Nat) : List Byte :=
  beBytes 2 n ++ [(s.record n).state.code, (s.record n).cause.code]

/-- The numbers CHANGES reports: the lowest of the changed set, up to 64 (R179). -/
def State.chosenChanges (s : State) : List Nat := s.changed.take Config.changesLimit

/-- All condition flags and NEW_STRANGER are cleared (R179). -/
def State.clearFlags (s : State) : State :=
  eachNumber (fun s p => s.flag p (fun _ => Conditions.clear)) allPorts { s with newStranger := false }

/-- Numbers leave the changed set (R179). -/
def State.withoutChanged (s : State) (ns : List Nat) : State :=
  { s with changed := s.changed.filter (fun n => !ns.contains n) }

/-- CHANGES (R179). -/
def doChanges (l : Link) (s : State) : State × Reply :=
  if !permitted l s.phase .hostOnly then (s, bare .notPermitted)
  else
    let chosen := s.chosenChanges
    let s := (eachNumber State.verifyOrDamage chosen s).withoutChanged chosen
    (s.clearFlags, okReply (beBytes 1 chosen.length ++ (chosen.map s.changedBytes).flatten
      ++ beBytes 2 s.changed.length ++ allPorts.map (fun p => (s.port p).conditions.byte)
      ++ [flagByte s.newStranger]))

/-- SCRUB CONFIGURE (R164). -/
def doScrubConfigure (l : Link) (i : Byte) (s : State) : State × Reply :=
  if !permitted l s.phase .hostOnly then (s, bare .notPermitted)
  else if i = 0 then (s, bare .outOfRange)
  else ({ s with scrubInterval := i.toNat }, okReply [i])

/-- INTEGRITY (R170). -/
def doIntegrity (l : Link) (s : State) : State × Reply :=
  if !permitted l s.phase .hostOnly then (s, bare .notPermitted)
  else ({ s with integrityCount := 0, firstDamaged := none },
    okReply (beBytes 1 s.integrityCount ++ optionalItem 2 s.firstDamaged))

/-- PHASE SERVICE (R171). -/
def doPhaseService (l : Link) (s : State) : State × Reply :=
  if !permitted l s.phase .hostOnly then (s, bare .notPermitted)
  else ({ s with phase := .service }, okReply [s.phase.code, SitePhase.service.code])

/-! ### SOFT RESET (R181; R26, R41, R60, R82, R83, R136, R149, R161, R164, R169) -/

/-- The port state after a soft reset (R60). -/
def PortState.afterSoftReset : PortState → PortState
  | .down => .down
  | _ => .standby

/-- A port after a soft reset, its window already abandoned and its outbound queue emptied (R60, R82, R83, R136, R149, R161). -/
def Port.softReset (q : Port) : Port :=
  { q.withoutReports with
    state := q.state.afterSoftReset
    feed := q.changeover.previousFeed.getD q.feed
    conditions := Conditions.clear
    spread := q.config.initSpread
    discoveryTimer := 0
    due := false
    tagCounter := 0
    calibration := []
    window := none
    gapCounter := 0
    owed := 0
    periodTimer := 0
    lastEmpty := false
    activation := []
    outbound := []
    cursor := 0
    changeover := ChangeoverContext.clear }

/-- A record's content after a soft reset, when it verifies (R26). -/
def Record.softReset (c : Record) : Record :=
  if c.state.activating then
    { c with
      state := .expected
      cause := .restarted
      dropId := 0
      ranging := none
      attempts := 0
      rounds := 0
      delaySync := .synced
      outstanding := 0 }
  else if c.state.ranged then
    { c with misses := 0, outstanding := 0, delaySync := if c.delaySync = .queued then .waiting else c.delaySync }
  else
    { c with outstanding := 0, delaySync := if c.delaySync = .queued then .synced else c.delaySync }

/-- Whether any drop map, activation queue or outbound queue names record `r`. -/
def State.namedByPorts (s : State) (r : Nat) : Bool :=
  allPorts.any (fun p => (s.port p).dropMap.any (fun e => e.2 == r)
    || (s.port p).activation.any (fun e => e.record == r)
    || (s.port p).outbound.any (fun d => d.names == some r))

/-- The records a soft reset changes, and so verifies: those the registry's part changes, those a discarded descriptor names, and those
a SET DELAY is then queued for (R26, R79, R80, R163; log entry 12). -/
def State.softResetSet (s : State) : List Nat :=
  allRecords.filter (fun r => s.namedByPorts r || (s.record r).softReset != s.record r
    || (s.record r).state.activating || (s.record r).state.ranged || (s.record r).delaySync == .waiting)

/-- A soft reset of one record (R26, R165). -/
def State.softResetRecord (s : State) (r : Nat) : State :=
  if !s.verifies r then s.damage r
  else if (s.record r).state.activating then (s.releaseHeld r).change r Record.softReset
  else s.modRecord r Record.softReset

/-- The effect of SOFT RESET: windows abandoned, outbound queues emptied, ports reset, then the registry with its RELEASEs in rising
record number, then SET DELAY for the WAITING records; flags and the integrity count end clear (R82, R181; log entry 12). -/
def State.softReset (s : State) : State :=
  let rs := s.softResetSet
  let s := eachNumber State.abandon allPorts s
  let s := eachNumber State.emptyOutbound allPorts s
  let s := eachNumber (fun s p => s.modPort p Port.softReset) allPorts s
  let s := eachNumber State.softResetRecord rs s
  let s := eachNumber State.fillSetDelay allPorts s
  let s := s.clearFlags
  { s with strangers := [], scrubCursor := 0, scrubCounter := 0, integrityCount := 0, firstDamaged := none }

/-- SOFT RESET (R181). -/
def doSoftReset (l : Link) (s : State) : State × Reply :=
  if !permitted l s.phase .hostOnly then (s, bare .notPermitted) else (s.softReset, okReply [])

/-! ### The hard-reset pin and storage upsets (R163, R182) -/

/-- The hard-reset pin is asserted: every block takes its hard reset values and holds them (R182). -/
def State.hardReset (s : State) : State := { State.reset with resetHeld := true, pending := s.pending }

/-- The row HARD_RESET_ASSERT. -/
def execHardResetAssert (s : State) : Result := .next s.hardReset.settle

/-- The row HARD_RESET_RELEASE: operation begins from the values held (R182). -/
def execHardResetRelease (s : State) : Result := .next { s with resetHeld := false }.settle

/-- The row STORAGE_UPSET: one record's content and check word are replaced by ones that do not agree (R163; log entry 19). While the
hard-reset pin is held the record keeps its hard reset value (R182). -/
def execStorageUpset (r : Nat) (image : List Byte) (check : Half) (s : State) : Result :=
  if Config.records ≤ r then .fault (.noSuchRecord r)
  else if image.length ≠ 41 then .refused .notAnImage
  else if (Record.ofImage image).checkWord = check then .refused .notAnUpset
  else .next (if s.resetHeld then s else s.store r { content := Record.ofImage image, check := check }).settle

/-! ### The rows of the table -/

/-- The row CHANGES. -/
def execChanges (l : Link) (tag : Byte) (s : State) : Result := linkCommand l tag .changes (doChanges l) s

/-- The row SCRUB_CONFIGURE. -/
def execScrubConfigure (l : Link) (tag i : Byte) (s : State) : Result :=
  linkCommand l tag (.scrubConfigure i) (doScrubConfigure l i) s

/-- The row INTEGRITY. -/
def execIntegrity (l : Link) (tag : Byte) (s : State) : Result := linkCommand l tag .integrity (doIntegrity l) s

/-- The row PHASE_SERVICE. -/
def execPhaseService (l : Link) (tag : Byte) (s : State) : Result := linkCommand l tag .phaseService (doPhaseService l) s

/-- The row SOFT_RESET. -/
def execSoftReset (l : Link) (tag : Byte) (s : State) : Result := linkCommand l tag .softReset (doSoftReset l) s

end Sys2Proof.Machine
end

