-- ==== Sys2Proof/Machine/Paths.lean ====
section
/-! DEFINITION. The framer's traffic: arrival reports (R72 to R74), message takes (R78), SET DELAY queueing (R79) and admission lookups
(R31). While the hard-reset pin is held, reports are discarded, takes answered EMPTY and lookups CLOSED (R182). -/

namespace Sys2Proof.Machine

/-! ### Arrival reports -/

/-- The kinds of an arrival report (R186). -/
inductive ReportKind where
  | hello
  | echo
  | garbled
  | loopback
  deriving DecidableEq, Repr

/-- The kind a report's kind byte codes; a HELLO without a serial is a GARBLED report (R186). -/
def reportKind (r : ReportFields) : Option ReportKind :=
  match r.kind.toNat with
  | 1 => if r.serial = 0 then some .garbled else some .hello
  | 2 => some .echo
  | 3 => some .garbled
  | 4 => some .loopback
  | _ => none

/-- The levelable flag of a HELLO: 01h is yes and 00h is no; any other byte is a free value (R183; log entry 16). -/
def levelableFlag (b : Byte) : Bool :=
  if b = 1#8 then true else if b = 0#8 then false else Config.levelableOfByte b

/-- The report as the arrival queue keeps it (R75). -/
def queuedReport (r : ReportFields) (k : ReportKind) : QueuedReport where
  tag := r.tag.toNat
  offset := r.offset.toNat
  level := r.level.toNat
  hello := if k = .hello then some (r.serial, levelableFlag r.levelable) else none

/-- A count that stops at 255 (R61). -/
def countUp (n : Nat) : Nat := if n < 255 then n + 1 else n

/-- A report of an INVITE window: queued and counted, or dropped with the overrun flag set (R73). -/
def Port.inviteReport (q : Port) (w : OpenWindow) (r : ReportFields) (k : ReportKind) : Port :=
  if q.arrivals.length < Config.arrivalLimit then
    { q with
      arrivals := q.arrivals ++ [queuedReport r k]
      window := some (if k = .hello then { w with clean := countUp w.clean }
        else { w with garbled := countUp w.garbled }) }
  else { q with window := some { w with overrun := true } }

/-- The window with a report captured, when it holds no result yet (R74). -/
def OpenWindow.capture (w : OpenWindow) (r : ReportFields) : OpenWindow :=
  if w.captured.isNone then
    { w with captured := some { offset := r.offset.toNat, level := r.level.toNat } }
  else w

/-- A report that is not stale, handled by the open window's kind (R73, R74). -/
def Port.handleReport (q : Port) (w : OpenWindow) (r : ReportFields) (k : ReportKind) : Port :=
  match w.kind, k with
  | .invite, .hello => q.inviteReport w r k
  | .invite, .garbled => q.inviteReport w r k
  | .invite, _ => q
  | .loop, .loopback => { q with window := some (w.capture r) }
  | .loop, _ => q
  | _, .echo => if w.targetDrop = some r.dropId.toNat then { q with window := some (w.capture r) } else q
  | _, _ => q

/-- An arrival report at a port: discarded when its kind is none or it is stale (R72, R186). -/
def Port.arrival (q : Port) (r : ReportFields) : Port :=
  match q.window, reportKind r with
  | some w, some k =>
    if w.tag = r.tag.toNat ∧ r.offset.toNat ≤ Config.maxOffset then q.handleReport w r k else q
  | _, _ => q

/-- The row ARRIVAL_REPORT. -/
def execArrivalReport (p : Lane) (r : ReportFields) (s : State) : Result :=
  .next (if s.resetHeld then s else s.modPort p.val (fun q => q.arrival r)).settle

/-! ### Message takes (R78) -/

/-- A descriptor naming record `n` is filled from the record's content at the take on port `p`, or VOID (R78). -/
def filled (p : Nat) (d : Descriptor) (c : Record) : TakeAnswer :=
  if c.port ≠ p then TakeAnswer.ofKind .void
  else
    match d with
    | .name _ =>
      if c.state.activating then
        { kind := .name, dropId := c.dropId, serial := c.serial.getD 0, levelIndex := c.levelIndex, delay := 0 }
      else TakeAnswer.ofKind .void
    | .setDelay _ =>
      match c.ranging with
      | some g =>
        if c.dropId = 0 then TakeAnswer.ofKind .void
        else { TakeAnswer.ofKind .setDelay with dropId := c.dropId, delay := g.eqd }
      | none => TakeAnswer.ofKind .void
    | .level _ =>
      if c.dropId = 0 then TakeAnswer.ofKind .void
      else { TakeAnswer.ofKind .level with dropId := c.dropId, levelIndex := c.levelIndex }
    | .openDrop _ =>
      if c.state = .active then { TakeAnswer.ofKind .openDrop with dropId := c.dropId }
      else TakeAnswer.ofKind .void
    | .shut _ =>
      if c.state = .active ∨ c.dropId = 0 then TakeAnswer.ofKind .void
      else { TakeAnswer.ofKind .shut with dropId := c.dropId }
    | .release _ d => { TakeAnswer.ofKind .release with dropId := d }

/-- A record's content when a descriptor naming it is taken: outstanding falls, and a SET DELAY leaves it SYNCED (R78). -/
def Record.taken (c : Record) (d : Descriptor) : Record :=
  match d with
  | .setDelay _ => { c with outstanding := c.outstanding - 1, delaySync := .synced }
  | _ => { c with outstanding := c.outstanding - 1 }

/-- The lane shows an answer to its take (R186). -/
def State.answerTake (s : State) (p : Nat) (t : TakeAnswer) : State :=
  s.modPort p (fun q => { q with takeAnswer := t })

/-- The head descriptor, already removed from the queue, is handed over (R78, steps 2 to 5). -/
def State.handOver (s : State) (p : Nat) (d : Descriptor) : State :=
  match d.names with
  | none => s.answerTake p (filled p d { Record.vacant with port := p })
  | some r =>
    if s.verifies r then (s.modRecord r (fun c => c.taken d)).answerTake p (filled p d (s.record r))
    else (s.damage r).answerTake p (TakeAnswer.ofKind .void)

/-- A message take on port `p` (R78), with the freed place given to a WAITING record (R79; log entry 13). -/
def State.take (s : State) (p : Nat) : State :=
  match (s.port p).outbound with
  | [] => s.answerTake p (TakeAnswer.ofKind .empty)
  | d :: ds => ((s.modPort p (fun q => { q with outbound := ds })).handOver p d).fillSetDelay p

/-- The row MESSAGE_TAKE. -/
def execMessageTake (p : Lane) (s : State) : Result :=
  .next (if s.resetHeld then s.answerTake p.val (TakeAnswer.ofKind .empty) else s.take p.val).settle

/-- The row SET_DELAY_QUEUE: the message path serves the port's WAITING records while there is room (R79). -/
def execSetDelayQueue (p : Lane) (s : State) : Result :=
  .next (if s.resetHeld then s else s.fillSetDelay p.val).settle

/-! ### Admission lookups (R31) -/

/-- The lane shows an answer to its lookup (R186). -/
def State.answerLookup (s : State) (p : Nat) (b : Byte) : State :=
  s.modPort p (fun q => { q with lookupAnswer := b })

/-- The answer OPEN with a service class: 80h plus the class (R186). -/
def openAnswer (cls : Nat) : Byte := BitVec.ofNat 8 (128 + cls)

/-- The answer for a record that verifies (R31, step 5). -/
def Record.admission (c : Record) : Byte := if c.state = .active then openAnswer c.serviceClass else 0#8

/-- An admission lookup on port `p` with drop id `d` (R31). -/
def State.lookup (s : State) (p d : Nat) : State :=
  if (s.port p).state = .down then s.answerLookup p 0#8
  else if d = 0 ∨ Config.maxDropId < d then s.answerLookup p 0#8
  else
    match mapGet (s.port p).dropMap d with
    | none => s.answerLookup p 0#8
    | some r =>
      if s.verifies r then s.answerLookup p (s.record r).admission
      else (s.damage r).answerLookup p 0#8

/-- The row ADMISSION_LOOKUP. -/
def execAdmissionLookup (p : Lane) (d : Byte) (s : State) : Result :=
  .next (if s.resetHeld then s.answerLookup p.val 0#8 else s.lookup p.val d.toNat).settle

end Sys2Proof.Machine
end

