-- ==== Sys2Proof/Machine/Sequence.lean ====
section
/-! DEFINITION. The activation sequencer: ECHO and VERIFY closes, attempts, finish (chapter 7). The window arbiter hands a close its window
record after removing it (R65). -/

namespace Sys2Proof.Machine

/-- The arbiter's part of a close: the window record is removed and the gap counter set to 0 (R64, R65); what the owner then does
with the record is `owner`. Nothing closes where no window of the kind is open. -/
def State.closeOf (s : State) (p : Nat) (kind : WindowKind) (owner : State → OpenWindow → State) : State :=
  match (s.port p).window with
  | some w => if w.kind = kind then owner (s.dropWindow p) w else s
  | none => s

/-- The record's level condition is set from the service level condition of a code (R111, R127). -/
def State.setCondition (s : State) (p r code : Nat) : State :=
  s.modRecord r (fun c => { c with levelCondition := serviceCondition (s.port p).config code })

/-- The record's last level code is set from a captured code (R120, R122, R142, R156). -/
def State.setLastLevel (s : State) (r code : Nat) : State := s.modRecord r (fun c => { c with lastLevel := code })

/-- An attempt failure whose third ends the activation with `cause` (R124). -/
def State.attemptFailure (s : State) (p r : Nat) (cause : Cause) : State :=
  let s := s.modRecord r (fun c => { c with attempts := c.attempts + 1 })
  if (s.record r).attempts < 3 then
    ((s.enqueue p (.name r)).change r (fun c => { c.withoutRanging with state := .named })).entryToTail p r
  else s.failActivation p r cause

/-- Finish of an activation on the close's captured code (R125, R127). -/
def State.finish (s : State) (p r code : Nat) : State :=
  match finishCondition (s.port p).config code with
  | none => (s.setCondition p r code).failActivation p r .failedLevel
  | some cond =>
    let c := s.record r
    let s := s.removeEntry p r
    let ended (st : RecState) (cause : Cause) : State :=
      s.change r (fun c => { c with
        levelCondition := cond, failures := 0, misses := 0, state := st, cause := cause })
    if !insideBand c.band c.dropLength then ended .query .queried
    else if c.autoAdmit then (ended .active .activated).enqueue p (.openDrop r)
    else ended .ready .activated

/-- A levelling round begins: index, rounds, LEVEL, LEVELLING, AWAIT_VERIFY (R121, R123). `first` marks the round of an ECHO close, which
makes the record LEVELLING; a VERIFY close leaves it so and out of the changed set (log entry 24). -/
def State.levellingRound (s : State) (p r code index : Nat) (first : Bool) : State :=
  let update (c : Record) : Record := { c with
    levelIndex := index
    rounds := c.rounds + 1
    levelCondition := serviceCondition (s.port p).config code
    state := .levelling }
  let s := if first then s.change r update else s.modRecord r update
  (s.enqueue p (.level r)).setPhase p r .awaitVerify

/-- The level is evaluated: a levelling round where one can be made, and finish otherwise (R121, R123). -/
def State.evaluateLevel (s : State) (p r code : Nat) (first : Bool) : State :=
  let c := s.record r
  let k := levelCorrection (s.port p).config code c.levelIndex c.isLevelable
  if k.needed ∧ 0 < k.applied ∧ c.rounds < 2 then s.levellingRound p r code k.index first
  else s.finish p r code

/-- A round trip is recorded, and a SET DELAY made due by it is appended (R79, R121, R143). -/
def State.recordRanging (s : State) (p r : Nat) (g : Ranging) : State :=
  (s.modRecord r (fun c => c.withRanging g)).fillSetDelay p

/-- An ECHO close with a captured result (R120). -/
def State.echoCaptured (s : State) (p r : Nat) (e : Captured) : State :=
  let s := s.setLastLevel r e.level
  match reachOf (s.port p).config.teq (roundTrip (s.port p) e.offset 0) with
  | .early => (s.setCondition p r e.level).attemptFailure p r .failedEarly
  | .beyond => (s.setCondition p r e.level).failActivation p r .failedReach
  | .inReach g => (s.recordRanging p r g).evaluateLevel p r e.level true

/-- A VERIFY close with a captured result (R122, R123). -/
def State.verifyCaptured (s : State) (p r : Nat) (e : Captured) : State :=
  let s := s.setLastLevel r e.level
  match (s.record r).ranging with
  | none => s
  | some g =>
    let drift := driftOf (s.port p) e.offset g
    match classOf (s.port p).config drift with
    | .hold => s.evaluateLevel p r e.level false
    | .excess => (s.setCondition p r e.level).attemptFailure p r .failedDrift
    | .correct =>
      match shifted (s.port p).config.teq g drift with
      | .inReach g' => (s.recordRanging p r g').evaluateLevel p r e.level false
      | .beyond => (s.setCondition p r e.level).failActivation p r .failedReach
      | .early => (s.setCondition p r e.level).attemptFailure p r .failedEarly

/-- The checks of R118: the target verifies (log entry 10), has its entry in the granted phase and the record is in the state that goes
with it; otherwise the result is discarded. -/
def State.takeActivationClose (s : State) (p : Nat) (w : OpenWindow) (phase : Phase) (st : RecState)
    (captured : Nat → Captured → State) : State :=
  match w.target with
  | none => s
  | some r =>
    if !s.verifies r then s.damage r
    else if s.phaseOf p r = some phase ∧ (s.record r).state = st then
      match w.captured with
      | none => s.attemptFailure p r .failedNoEcho
      | some e => captured r e
    else s

/-- The activation sequencer's processing of an ECHO close (R118 to R121). -/
def State.echoClosed (p : Nat) (s : State) (w : OpenWindow) : State :=
  s.takeActivationClose p w .echoOpen .ranging (fun r e => s.echoCaptured p r e)

/-- The activation sequencer's processing of a VERIFY close (R118, R122, R123). -/
def State.verifyClosed (p : Nat) (s : State) (w : OpenWindow) : State :=
  s.takeActivationClose p w .verifyOpen .levelling (fun r e => s.verifyCaptured p r e)

/-- The row ECHO_CLOSE. -/
def execEchoClose (p : Lane) (s : State) : Result :=
  .next (if s.resetHeld then s else s.closeOf p.val .echo (State.echoClosed p.val)).settle

/-- The row VERIFY_CLOSE. -/
def execVerifyClose (p : Lane) (s : State) : Result :=
  .next (if s.resetHeld then s else s.closeOf p.val .verify (State.verifyClosed p.val)).settle

end Sys2Proof.Machine
end

