-- ==== Sys2Proof/Machine/Upkeep.lean ====
section
/-! DEFINITION. Upkeep: candidates and target choice (R138, R139), UPKEEP closes (R140 to R146) and the end of an upkeep period (R69). -/

namespace Sys2Proof.Machine

/-- A record is eligible for an echo-kind window (R67). -/
def Record.eligible (c : Record) : Bool := c.outstanding == 0 && c.delaySync == .synced

/-- A record is an upkeep candidate of port `p` (R138). -/
def Record.candidate (p : Nat) (c : Record) : Bool := c.port == p && c.state.ranged && c.eligible

/-- The record of lowest drop id among some (R139). R138 lets no two candidates share a drop id; where an undetected upset gives two of
them the same stored one, the lower record number is taken (DESIGN CHOICE, log entry 36). -/
def State.lowestDrop (s : State) : List Nat → Option Nat
  | [] => none
  | r :: rs =>
    match s.lowestDrop rs with
    | none => some r
    | some r' => if (s.record r').dropId < (s.record r).dropId then some r' else some r

/-- The port's candidates with misses above 0 (R67, R139). -/
def State.missedCandidates (s : State) (p : Nat) : List Nat :=
  s.recordsWhere (fun c => c.candidate p && decide (0 < c.misses))

/-- The port's candidates (R138). -/
def State.candidates (s : State) (p : Nat) : List Nat := s.recordsWhere (Record.candidate p)

/-- The upkeep target: a missed record first, otherwise the cursor walk (R139). -/
def State.upkeepTarget (s : State) (p : Nat) : Option Nat :=
  match s.lowestDrop (s.missedCandidates p) with
  | some r => some r
  | none =>
    match s.lowestDrop ((s.candidates p).filter (fun r => decide ((s.port p).cursor < (s.record r).dropId))) with
    | some r => some r
    | none => s.lowestDrop (s.candidates p)

/-- A rerange, or a loss where the activation queue is full (R144). -/
def State.rerange (s : State) (p r : Nat) : State :=
  if s.activationRoom p then s.reenter p r .reranged none else s.lose r .lostReach

/-- The service level step of a record that stays ranged (R109, R145). -/
def State.serveLevel (s : State) (p r code : Nat) : State :=
  let c := s.record r
  match serviceStep (s.port p).config code c.levelIndex c.isLevelable with
  | none => s
  | some i => (s.modRecord r (fun c => { c with levelIndex := i })).enqueue p (.level r)

/-- A miss (R141). -/
def State.upkeepMiss (s : State) (r : Nat) : State :=
  if (s.record r).misses + 1 < 3 then s.modRecord r (fun c => { c with misses := c.misses + 1 })
  else s.lose r .lostSilent

/-- A clean echo: misses 0, last level code, level condition, and the drift class (R142 to R145). -/
def State.cleanEcho (s : State) (p r : Nat) (e : Captured) : State :=
  let s := s.modRecord r (fun c => { c with
    misses := 0
    lastLevel := e.level
    levelCondition := serviceCondition (s.port p).config e.level })
  match (s.record r).ranging with
  | none => s
  | some g =>
    let drift := driftOf (s.port p) e.offset g
    match classOf (s.port p).config drift with
    | .hold => s.serveLevel p r e.level
    | .excess => s.rerange p r
    | .correct =>
      match shifted (s.port p).config.teq g drift with
      | .inReach g' => (s.recordRanging p r g').serveLevel p r e.level
      | _ => s.lose r .lostReach

/-- The upkeep scheduler's processing of an UPKEEP close: the target verifies (log entry 10), is on the port with the window's drop id and
is ranged; otherwise the result is discarded (R140). -/
def State.upkeepClosed (p : Nat) (s : State) (w : OpenWindow) : State :=
  match w.target with
  | none => s
  | some r =>
    if !s.verifies r then s.damage r
    else if (s.record r).port = p ∧ w.targetDrop = some (s.record r).dropId ∧ (s.record r).state.ranged then
      match w.captured with
      | none => s.upkeepMiss r
      | some e => s.cleanEcho p r e
    else s

/-- Port `p` has a record in QUERY, READY or ACTIVE (R69). -/
def State.hasRanged (s : State) (p : Nat) : Bool :=
  s.records.toList.any (fun x => x.content.port == p && x.content.state.ranged)

/-- The owed count grows by one, or UPKEEP_OVERRUN is set at 8 (R69). -/
def Port.owe (q : Port) : Port :=
  if q.owed < Config.owedLimit then { q with owed := q.owed + 1 }
  else { q with conditions := { q.conditions with upkeepOverrun := true } }

/-- The end of an upkeep period on port `p` (R69). -/
def State.periodEnd (s : State) (p : Nat) : State :=
  let ranged := s.hasRanged p
  s.modPort p (fun q => if ranged then { q with periodTimer := 0 }.owe else { q with periodTimer := 0 })

/-- The row UPKEEP_CLOSE. -/
def execUpkeepClose (p : Lane) (s : State) : Result :=
  .next (if s.resetHeld then s else s.closeOf p.val .upkeep (State.upkeepClosed p.val)).settle

/-- The row UPKEEP_PERIOD_END: a period ends on a port in RUN (R69; log entry 4). -/
def execUpkeepPeriodEnd (p : Lane) (s : State) : Result :=
  .next (if s.resetHeld ∨ (s.port p.val).state ≠ .run then s else s.periodEnd p.val).settle

end Sys2Proof.Machine
end

