-- ==== Sys2Proof/Machine/Changeover.lean ====
section
/-! DEFINITION. REFERENCE closes and the registry update of a changeover (R155 to R159), and LOOP closes of a calibration (R53, R54). -/

namespace Sys2Proof.Machine

/-! ### REFERENCE closes -/

/-- A record that the registry update puts out of reach is lost; its RELEASE is queued after the update (R157). -/
def State.loseAtChangeover (s : State) (p r : Nat) : State :=
  (s.freeDrop p (s.record r).dropId).change r (fun c => { c.withoutRanging with
    dropId := 0
    misses := 0
    state := .expected
    cause := .coLost })

/-- One record of the registry update, with the list of drop ids it has freed so far (R157, steps 1 to 4). -/
def State.updateRecord (p : Nat) (shift : Int) (acc : State × List Nat) (r : Nat) : State × List Nat :=
  let s := acc.1
  if !s.verifies r then (s.damage r, acc.2)
  else
    match (s.record r).ranging with
    | none => (s, acc.2)
    | some g =>
      match shifted (s.port p).config.teq g shift with
      | .inReach g' => (s.change r (fun c => { c.withRanging g' with cause := .coAdjusted }), acc.2)
      | _ => (s.loseAtChangeover p r, acc.2 ++ [(s.record r).dropId])

/-- The ranged records of port `p`, rising (R157), by port and state as stored: an upset that hides a record's port or state leaves it
unvisited (DEDUCED, log entry 28). -/
def State.rangedOf (s : State) (p : Nat) : List Nat := s.recordsWhere (fun c => c.port == p && c.state.ranged)

/-- The registry update: every ranged record shifted in rising order, then the RELEASEs, then SET DELAYs (R157). -/
def State.registryUpdate (s : State) (p : Nat) (shift : Int) : State :=
  let done := (s.rangedOf p).foldl (State.updateRecord p shift) (s, [])
  (eachNumber (fun s d => s.enqueue p (.release p d)) done.2 done.1).fillSetDelay p

/-- The changeover completes (R158). -/
def Port.changeoverComplete (shift : Int) (q : Port) : Port :=
  { q with
    changeover := { q.changeover.ended with lastOffset := some shift }
    state := .run
    owed := Config.owedLimit
    conditions := { q.conditions with changeoverDone := true } }

/-- A REFERENCE close with a clean echo on the reference `r`, which holds `g` (R156 to R158). -/
def State.completeChangeover (s : State) (p r : Nat) (e : Captured) (g : Ranging) : State :=
  let shift := driftOf (s.port p) e.offset g
  let s := (s.setLastLevel r e.level).setCondition p r e.level
  (s.registryUpdate p shift).modPort p (Port.changeoverComplete shift)

/-- Whether the target of a REFERENCE window is still the reference, on its port and drop id and ranged (R155, check 2). -/
def State.referenceStands (s : State) (p r : Nat) (w : OpenWindow) : Bool :=
  s.isReference p r && (s.record r).port == p && w.targetDrop == some (s.record r).dropId
    && (s.record r).state.ranged

/-- The changeover unit's processing of a REFERENCE close (R155). -/
def State.referenceClosed (p : Nat) (s : State) (w : OpenWindow) : State :=
  match w.target with
  | none => s.failChangeover p
  | some r =>
    if !s.verifies r then (s.damage r).failChangeover p
    else if !s.referenceStands p r w then s.failChangeover p
    else
      match w.captured, (s.record r).ranging with
      | some e, some g => s.completeChangeover p r e g
      | some _, none => s.failChangeover p
      | none, _ => if (s.port p).changeover.windows < 3 then s else s.failChangeover p

/-- The row REFERENCE_CLOSE. -/
def execReferenceClose (p : Lane) (s : State) : Result :=
  .next (if s.resetHeld then s else s.closeOf p.val .reference (State.referenceClosed p.val)).settle

/-! ### LOOP closes -/

/-- A calibration ends in STANDBY with its context emptied and one of its two flags set (R53, R54). -/
def Port.calibrationEnds (q : Port) (mean : Option Nat) : Port :=
  match mean with
  | some m => { q with
      state := .standby, calibration := [], loopOffset := m, calibrated := true
      conditions := { q.conditions with calibrationDone := true } }
  | none => { q with
      state := .standby, calibration := []
      conditions := { q.conditions with calibrationFailed := true } }

/-- The port controller's processing of a LOOP close (R53, R54). -/
def Port.loopClosed (q : Port) (captured : Option Captured) : Port :=
  match captured with
  | none => q.calibrationEnds none
  | some e =>
    if q.calibration.length + 1 < 4 then { q with calibration := q.calibration ++ [e.offset] }
    else q.calibrationEnds (calibrationMean (q.calibration ++ [e.offset]))

/-- The LOOP close of port `p` (R53). -/
def State.loopClosedAt (p : Nat) (s : State) (w : OpenWindow) : State :=
  s.modPort p (fun q => q.loopClosed w.captured)

/-- The row LOOP_CLOSE. -/
def execLoopClose (p : Lane) (s : State) : Result :=
  .next (if s.resetHeld then s else s.closeOf p.val .loop (State.loopClosedAt p.val)).settle

end Sys2Proof.Machine
end

