-- ==== Sys2Proof/Machine/Records.lean ====
section
/-! DEFINITION. The record commands: PLAN, AMEND, RETIRE, ADOPT, RETRY, RESTORE, PIN, UNPIN (chapter 1), CONFIRM, REJECT, ADMIT,
SUSPEND (chapter 2) and REDISCOVER (chapter 7). -/

namespace Sys2Proof.Machine

/-! ### PLAN and RESTORE (R12, R13, R19) -/

/-- Immediate naming: on the record's port when it is in RUN, with DEFERRED or PORT_FULL as R13 gives. -/
def State.nameAtOnce (s : State) (n : Nat) (cause : Cause) : State :=
  if (s.port (s.record n).port).state = .run then s.nameExpected (s.record n).port n cause none else s

/-- The content PLAN gives a record (R12): delay sync and outstanding as they stand, `old` being the content before. -/
def plannedContent (a : PlanArgs) (port : Nat) (levelable : Option Bool) (cause : Cause) (old : Record) : Record :=
  { Record.vacant with
    state := .expected
    plot := some a.plot.toNat
    port := port
    serial := givenSerial a
    preferred := givenPreferred a
    band := givenBand a
    serviceClass := a.serviceClass.toNat
    autoAdmit := a.autoAdmit == 1#8
    levelable := levelable
    delaySync := old.delaySync
    outstanding := old.outstanding
    cause := cause }

/-- PLAN of a serial in the stranger list acts as an adoption with immediate naming (R12, R13). -/
def State.planAdopting (s : State) (a : PlanArgs) (e : Stranger) (cause causeNamed : Cause) : State :=
  let n := a.record.toNat
  let s := s.change n (plannedContent a e.port (some e.levelable) cause)
  let s := ((s.indexPlot a.plot.toNat n).indexSerial e.serial n).removeStranger e.serial
  s.nameAtOnce n causeNamed

/-- PLAN without a serial, or with one that is not in the stranger list (R12). -/
def State.planPlain (s : State) (a : PlanArgs) (cause : Cause) : State :=
  let n := a.record.toNat
  let s := (s.change n (plannedContent a a.port.toNat none cause)).indexPlot a.plot.toNat n
  match givenSerial a with
  | none => s
  | some x => s.indexSerial x n

/-- The effect of PLAN and RESTORE; the three causes are those of a plain plan, an adoption and a naming (R12, R19). -/
def State.planRecord (s : State) (a : PlanArgs) (cause causeAdopted causeNamed : Cause) : State :=
  match (givenSerial a).bind s.stranger with
  | some e => s.planAdopting a e causeAdopted causeNamed
  | none => s.planPlain a cause

/-- Checks 5 to 7 of PLAN and RESTORE: the state the command needs, then plot and serial held by another record (R12, R19). -/
def planCheck (a : PlanArgs) (needed : RecState) (s : State) (c : Record) : Option Status :=
  if c.state ≠ needed then some .refusedState
  else if heldByOther s.plotIndex a.plot.toNat a.record.toNat then some .duplicate
  else
    match givenSerial a with
    | some x => if heldByOther s.serialIndex x.toNat a.record.toNat then some .duplicate else none
    | none => none

/-- PLAN (R12). -/
def doPlan (l : Link) (a : PlanArgs) : State → State × Reply :=
  recordCommand l .hostOnly a.record.toNat (planArgsOk a) (planCheck a .vacant)
    (fun s => s.planRecord a .planned .adopted .named)

/-- RESTORE (R19). -/
def doRestore (l : Link) (a : PlanArgs) : State → State × Reply :=
  recordCommand l .hostOnly a.record.toNat (planArgsOk a) (planCheck a .damaged)
    (fun s => s.planRecord a .restored .restored .restored)

/-! ### AMEND (R14, R15) -/

/-- The record after an AMEND's selected fields have changed together (R14, R15; log entry 14). -/
def amendedContent (a : AmendArgs) (c : Record) : Record :=
  { c with
    serviceClass := if selects a 0 then a.plan.serviceClass.toNat else c.serviceClass
    autoAdmit := if selects a 1 then a.plan.autoAdmit == 1#8 else c.autoAdmit
    band := if selects a 2 then givenBand a.plan else c.band
    preferred := if selects a 3 then givenPreferred a.plan else c.preferred
    plot := if selects a 4 then some a.plan.plot.toNat else c.plot
    serial := if selects a 5 then givenSerial a.plan else c.serial
    levelable := if selects a 5 then none else c.levelable
    port := if selects a 6 then a.plan.port.toNat else c.port
    lastHeard := if selects a 6 then none else c.lastHeard
    cause := .amended }

/-- A serial or a plot may be changed in EXPECTED and BARRED alone; nothing in VACANT and DAMAGED (R14). -/
def amendStateOk (a : AmendArgs) (st : RecState) : Bool :=
  match st with
  | .vacant | .damaged => false
  | .expected | .barred => true
  | _ => !(selects a 5 || selects a 6)

/-- Checks 5 to 7 of AMEND (R14). -/
def amendCheck (a : AmendArgs) (s : State) (c : Record) : Option Status :=
  let n := a.plan.record.toNat
  if !amendStateOk a c.state then some .refusedState
  else if c.pinned && (selects a 4 || selects a 5 || selects a 6) then some .pinned
  else if selects a 4 && heldByOther s.plotIndex a.plan.plot.toNat n then some .duplicate
  else if selects a 5 && (match givenSerial a.plan with
      | some x => heldByOther s.serialIndex x.toNat n
      | none => false) then some .duplicate
  else none

/-- A record in QUERY is resolved as at finish: ACTIVE with an OPEN, or READY (R15). -/
def State.resolveQuery (s : State) (n : Nat) : State :=
  let c := s.record n
  if c.autoAdmit then
    (s.change n (fun c => { c with state := .active, cause := .activated })).enqueue c.port (.openDrop n)
  else s.change n (fun c => { c with state := .ready, cause := .activated })

/-- The plot index follows an AMEND of the plot (R7). -/
def State.amendPlot (s : State) (a : AmendArgs) (old : Option Nat) : State :=
  if selects a 4 then (s.unindexPlot old).indexPlot a.plan.plot.toNat a.plan.record.toNat else s

/-- The serial index and the stranger list follow an AMEND of the serial (R15). -/
def State.amendSerial (s : State) (a : AmendArgs) (old : Option Serial) : State :=
  if selects a 5 then
    match givenSerial a.plan with
    | some x => ((s.unindexSerial old).indexSerial x a.plan.record.toNat).removeStranger x
    | none => s.unindexSerial old
  else s

/-- The effect of AMEND (R14, R15). -/
def State.amendRecord (s : State) (a : AmendArgs) : State :=
  let n := a.plan.record.toNat
  let c := s.record n
  let s := ((s.change n (amendedContent a)).amendPlot a c.plot).amendSerial a c.serial
  if selects a 2 ∧ c.state = .query ∧ insideBand (givenBand a.plan) c.dropLength then s.resolveQuery n else s

/-- AMEND (R14). -/
def doAmend (l : Link) (a : AmendArgs) : State → State × Reply :=
  recordCommand l .hostOnly a.plan.record.toNat (amendArgsOk a) (amendCheck a) (fun s => s.amendRecord a)

/-! ### RETIRE, ADOPT, RETRY, PIN, UNPIN (R16 to R20) -/

/-- The delay sync of a record that owes nothing: QUEUED while a SET DELAY naming it is queued (R16, R36). -/
def State.idleSync (s : State) (n : Nat) : DelaySync :=
  if s.setDelayQueued allPorts n then .queued else .synced

/-- The effect of RETIRE (R16, R159). -/
def State.retireRecord (s : State) (n : Nat) : State :=
  let c := s.record n
  let s := ((((s.releaseHeld n).unindexSerial c.serial).unindexPlot c.plot).removeEntry c.port n).clearTargets n
  let sync := s.idleSync n
  let s := s.change n (fun c => { Record.vacant with outstanding := c.outstanding, delaySync := sync })
  eachNumber (fun s p => s.failIfReference n p) allPorts s

/-- RETIRE (R16). -/
def doRetire (l : Link) (r : Half) : State → State × Reply :=
  recordCommand l .hostOnly r.toNat true
    (fun _ c => if c.state = .vacant then some .refusedState else if c.pinned then some .pinned else none)
    (fun s => s.retireRecord r.toNat)

/-- Checks 5 to 7 of ADOPT: the craft pin test refuses before R17 is applied (R172), and the stranger list is read before R17's own pin
test, which reads the entry's port (R10, step 6; log entry 32). -/
def adoptCheck (l : Link) (x : Serial) (s : State) (c : Record) : Option Status :=
  if c.state ≠ .expected then some .refusedState
  else if craftPinned l c then some .pinned
  else
    match s.stranger x with
    | none => some .noStranger
    | some e => if c.pinned && (c.serial.isSome || e.port != c.port) then some .pinned else none

/-- The effect of ADOPT (R17). -/
def State.adoptRecord (s : State) (n : Nat) (x : Serial) : State :=
  match s.stranger x with
  | none => s
  | some e =>
    let s := ((s.unindexSerial (s.record n).serial).indexSerial x n).removeStranger x
    let s := s.change n (fun c => { c with
      serial := some x
      port := e.port
      levelable := some e.levelable
      lastHeard := none
      cause := .adopted })
    s.nameAtOnce n .named

/-- ADOPT (R17). -/
def doAdopt (l : Link) (r : Half) (x : Serial) : State → State × Reply :=
  recordCommand l .crew r.toNat (x != 0) (adoptCheck l x) (fun s => s.adoptRecord r.toNat x)

/-- A command needs one state, and a craft command an unpinned record (R10, R172). -/
def needState (l : Link) (st : RecState) (_ : State) (c : Record) : Option Status :=
  if c.state ≠ st then some .refusedState else if craftPinned l c then some .pinned else none

/-- RETRY (R18). -/
def doRetry (l : Link) (r : Half) : State → State × Reply :=
  recordCommand l .crew r.toNat true (needState l .barred)
    (fun s => s.change r.toNat (fun c => { c with state := .expected, failures := 0, cause := .retried }))

/-- PIN and UNPIN are refused in VACANT and DAMAGED (R20). -/
def pinCheck (_ : State) (c : Record) : Option Status :=
  if c.state = .vacant ∨ c.state = .damaged then some .refusedState else none

/-- PIN (R20). -/
def doPin (l : Link) (r : Half) : State → State × Reply :=
  recordCommand l .hostOnly r.toNat true pinCheck (fun s => s.modRecord r.toNat (fun c => { c with pinned := true }))

/-- UNPIN (R20). -/
def doUnpin (l : Link) (r : Half) : State → State × Reply :=
  recordCommand l .hostOnly r.toNat true pinCheck (fun s => s.modRecord r.toNat (fun c => { c with pinned := false }))

/-! ### CONFIRM, REJECT, ADMIT, SUSPEND, REDISCOVER (R35 to R38, R129) -/

/-- A record becomes ACTIVE with a cause and an OPEN is queued for it (R34). -/
def State.activate (s : State) (n : Nat) (cause : Cause) : State :=
  (s.change n (fun c => { c with state := .active, cause := cause })).enqueue (s.record n).port (.openDrop n)

/-- CONFIRM (R35). -/
def doConfirm (l : Link) (r : Half) : State → State × Reply :=
  recordCommand l .crew r.toNat true (needState l .query)
    (fun s =>
      if (s.record r.toNat).autoAdmit then s.activate r.toNat .confirmed
      else s.change r.toNat (fun c => { c with state := .ready, cause := .confirmed }))

/-- Checks 5 to 8 of REJECT (R36). -/
def rejectCheck (n : Nat) (s : State) (c : Record) : Option Status :=
  if c.state ≠ .query then some .refusedState
  else if c.pinned then some .pinned
  else if s.isReference c.port n then some .busy
  else none

/-- The rejected record's serial goes to the stranger list (R8, R36). -/
def State.disown (s : State) (c : Record) : State :=
  match c.serial with
  | none => s
  | some x => (s.unindexSerial (some x)).appendStranger
      { serial := x, port := c.port, levelable := c.isLevelable, sightings := 1, lastFrame := (s.port c.port).frame }

/-- The effect of REJECT (R36). -/
def State.rejectRecord (s : State) (n : Nat) : State :=
  let c := s.record n
  let s := ((s.releaseHeld n).disown c).clearTargets n
  let sync := s.idleSync n
  s.change n (fun c => { c with
    state := .expected
    cause := .rejected
    dropId := 0
    serial := none
    levelable := none
    ranging := none
    lastHeard := none
    misses := 0
    attempts := 0
    rounds := 0
    delaySync := sync })

/-- REJECT (R36). -/
def doReject (l : Link) (r : Half) : State → State × Reply :=
  recordCommand l .crew r.toNat true (rejectCheck r.toNat) (fun s => s.rejectRecord r.toNat)

/-- ADMIT (R37). -/
def doAdmit (l : Link) (r : Half) : State → State × Reply :=
  recordCommand l .hostOnly r.toNat true (needState l .ready) (fun s => s.activate r.toNat .admitted)

/-- SUSPEND (R38). -/
def doSuspend (l : Link) (r : Half) : State → State × Reply :=
  recordCommand l .hostOnly r.toNat true (needState l .active)
    (fun s => (s.change r.toNat (fun c => { c with state := .ready, cause := .suspended })).enqueue
      (s.record r.toNat).port (.shut r.toNat))

/-- Checks 5 to 8 of REDISCOVER (R129). -/
def rediscoverCheck (l : Link) (n : Nat) (s : State) (c : Record) : Option Status :=
  if !c.state.ranged then some .refusedState
  else if craftPinned l c then some .pinned
  else if !s.activationRoom c.port || s.isReference c.port n then some .busy
  else none

/-- REDISCOVER (R129). -/
def doRediscover (l : Link) (r : Half) : State → State × Reply :=
  recordCommand l .crew r.toNat true (rediscoverCheck l r.toNat)
    (fun s => s.reenter (s.record r.toNat).port r.toNat .restarted none)

/-! ### The rows of the table -/

/-- The row PLAN. -/
def execPlan (l : Link) (tag : Byte) (a : PlanArgs) (s : State) : Result := linkCommand l tag (.plan a) (doPlan l a) s

/-- The row AMEND. -/
def execAmend (l : Link) (tag : Byte) (a : AmendArgs) (s : State) : Result := linkCommand l tag (.amend a) (doAmend l a) s

/-- The row RETIRE. -/
def execRetire (l : Link) (tag : Byte) (r : Half) (s : State) : Result := linkCommand l tag (.retire r) (doRetire l r) s

/-- The row ADOPT. -/
def execAdopt (l : Link) (tag : Byte) (r : Half) (x : Serial) (s : State) : Result :=
  linkCommand l tag (.adopt r x) (doAdopt l r x) s

/-- The row RETRY. -/
def execRetry (l : Link) (tag : Byte) (r : Half) (s : State) : Result := linkCommand l tag (.retry r) (doRetry l r) s

/-- The row RESTORE. -/
def execRestore (l : Link) (tag : Byte) (a : PlanArgs) (s : State) : Result := linkCommand l tag (.restore a) (doRestore l a) s

/-- The row PIN. -/
def execPin (l : Link) (tag : Byte) (r : Half) (s : State) : Result := linkCommand l tag (.pin r) (doPin l r) s

/-- The row UNPIN. -/
def execUnpin (l : Link) (tag : Byte) (r : Half) (s : State) : Result := linkCommand l tag (.unpin r) (doUnpin l r) s

/-- The row CONFIRM. -/
def execConfirm (l : Link) (tag : Byte) (r : Half) (s : State) : Result := linkCommand l tag (.confirm r) (doConfirm l r) s

/-- The row REJECT. -/
def execReject (l : Link) (tag : Byte) (r : Half) (s : State) : Result := linkCommand l tag (.reject r) (doReject l r) s

/-- The row ADMIT. -/
def execAdmitDrop (l : Link) (tag : Byte) (r : Half) (s : State) : Result := linkCommand l tag (.admitDrop r) (doAdmit l r) s

/-- The row SUSPEND. -/
def execSuspend (l : Link) (tag : Byte) (r : Half) (s : State) : Result := linkCommand l tag (.suspend r) (doSuspend l r) s

/-- The row REDISCOVER. -/
def execRediscover (l : Link) (tag : Byte) (r : Half) (s : State) : Result :=
  linkCommand l tag (.rediscover r) (doRediscover l r) s

end Sys2Proof.Machine
end

