-- ==== Sys2Proof/Machine/Discovery.lean ====
section
/-! DEFINITION. Discovery: INVITE closes (R85), the discovery due flag (R70), and the reports in processing with the registry step of
a HELLO (R86 to R96). -/

namespace Sys2Proof.Machine

/-! ### INVITE closes and the due flag -/

/-- The spread adaptation of an INVITE close, and the discovery timer set to 0 (R65, R85). -/
def Port.inviteClosed (q : Port) (w : OpenWindow) : Port :=
  let q := { q with discoveryTimer := 0 }
  if 0 < w.garbled ∨ w.overrun then { q with spread := min (q.spread + 1) Config.spreadLimit, lastEmpty := false }
  else if w.clean = 0 then
    if q.lastEmpty then { q with spread := q.spread - 1 } else { q with lastEmpty := true }
  else { q with lastEmpty := false }

/-- The discovery unit's processing of an INVITE close on port `p` (R85). -/
def State.inviteClosedAt (p : Nat) (s : State) (w : OpenWindow) : State := s.modPort p (fun q => q.inviteClosed w)

/-- The row INVITE_CLOSE. -/
def execInviteClose (p : Lane) (s : State) : Result :=
  .next (if s.resetHeld then s else s.closeOf p.val .invite (State.inviteClosedAt p.val)).settle

/-- Port `p` has a record in EXPECTED (R70). -/
def State.hasExpected (s : State) (p : Nat) : Bool :=
  s.records.toList.any (fun x => x.content.port == p && x.content.state == .expected)

/-- The discovery mode lets a timer that has reached the interval set the due flag (R70). -/
def State.modeInvites (s : State) (p : Nat) : Bool :=
  match (s.port p).config.mode with
  | .off => false
  | .always => true
  | .planned => s.hasExpected p

/-- The due flag is set on port `p` where the mode lets it (R70). -/
def State.makeDue (s : State) (p : Nat) : State :=
  if s.modeInvites p then s.modPort p (fun q => { q with due := true }) else s

/-- The row DISCOVERY_DUE: the timer reaches the interval on a port in RUN (R70; log entry 4). -/
def execDiscoveryDue (p : Lane) (s : State) : Result :=
  .next (if s.resetHeld ∨ (s.port p.val).state ≠ .run then s else s.makeDue p.val).settle

/-! ### Reports in processing (R86) -/

/-- The head report becomes the report in processing, in RUN and where none is in processing (R86). -/
def Port.beginReport (q : Port) : Port :=
  match q.arrivals, q.processing with
  | r :: rs, none => if q.state = .run then { q with arrivals := rs, processing := some r } else q
  | _, _ => q

/-- The row REPORT_PROCESSING_START. -/
def execReportProcessingStart (p : Lane) (s : State) : Result :=
  .next (if s.resetHeld then s else s.modPort p.val Port.beginReport).settle

/-! ### The registry step of a HELLO (R87 to R96) -/

/-- A restart during an activation: an attempt is counted, and the third fails the activation (R90). -/
def State.helloActivating (s : State) (p r : Nat) (levelable : Bool) : State :=
  let s := s.modRecord r (fun c => { c with attempts := c.attempts + 1 })
  if (s.record r).attempts < 3 then s.restart p r (some levelable) else s.failActivation p r .failedNoEcho

/-- A ranged record whose terminal has restarted, where the activation queue is full (R92). -/
def State.helloUnranged (s : State) (p r : Nat) : State :=
  ((s.freeDrop p (s.record r).dropId).change r (fun c => { c.withoutRanging with
    dropId := 0
    misses := 0
    state := .expected
    cause := .restarted })).flag p (fun c => { c with deferred := true })

/-- A ranged record whose terminal has restarted (R92). -/
def State.helloRanged (s : State) (p r : Nat) (levelable : Bool) : State :=
  if s.activationRoom p then s.reenter p r .restarted (some levelable) else s.helloUnranged p r

/-- A HELLO whose serial a record of its own port holds (R89 to R93). -/
def State.helloOwnPort (s : State) (p r : Nat) (levelable : Bool) : State :=
  match (s.record r).state with
  | .expected => s.nameExpected p r .named (some levelable)
  | .named | .ranging | .levelling => s.helloActivating p r levelable
  | .query | .ready | .active => s.helloRanged p r levelable
  | _ => s

/-- The record moves to the port of its HELLO and is handled there (R94). -/
def State.helloMove (s : State) (p r : Nat) (levelable : Bool) : State :=
  (s.change r (fun c => { c with port := p, lastHeard := none, cause := .moved })).nameExpected p r .moved
    (some levelable)

/-- The cause of a discrepancy that is reported and not followed (R95). -/
def wrongPortCause : RecState → Cause
  | .expected | .barred => .wrongTree
  | _ => .serialConflict

/-- A HELLO whose serial a record of another port holds (R94, R95). -/
def State.helloOtherPort (s : State) (p r : Nat) (levelable : Bool) : State :=
  let c := s.record r
  if s.phase = .build ∧ c.state = .expected ∧ !c.pinned then s.helloMove p r levelable
  else s.change r (fun c => { c with lastHeard := some p, cause := wrongPortCause c.state })

/-- An entry heard again on port `p` (R96). -/
def Stranger.sighted (e : Stranger) (p : Nat) (levelable : Bool) (frame : Nat) : Stranger :=
  { e with sightings := min (e.sightings + 1) 255, port := p, levelable := levelable, lastFrame := frame }

/-- A HELLO whose serial no record holds (R96). -/
def State.helloStranger (s : State) (p : Nat) (x : Serial) (levelable : Bool) : State :=
  let frame := (s.port p).frame
  match s.stranger x with
  | some _ =>
    { s with strangers := s.strangers.map (fun e => if e.serial = x then e.sighted p levelable frame else e) }
  | none =>
    { s.appendStranger { serial := x, port := p, levelable := levelable, sightings := 1, lastFrame := frame } with
      newStranger := true }

/-- The lookup of a HELLO's serial (R88). -/
def State.helloLookup (s : State) (p : Nat) (x : Serial) (levelable : Bool) : State :=
  match mapGet s.serialIndex x.toNat with
  | none => s.helloStranger p x levelable
  | some r =>
    if !s.verifies r then s.damage r
    else if (s.record r).port = p then s.helloOwnPort p r levelable
    else s.helloOtherPort p r levelable

/-- The heard list moves to a report's window (R87, step 1). -/
def Port.heardWindow (q : Port) (tag : Nat) : Port :=
  if q.heardTag = some tag then q else { q with heard := [], heardTag := some tag }

/-- A serial is recorded in the heard list, while it holds fewer than 16 (R87, step 3). -/
def Port.recordHeard (q : Port) (x : Serial) : Port :=
  if q.heard.length < Config.heardLimit then { q with heard := q.heard ++ [x] } else q

/-- The registry step of a HELLO report on port `p` (R87). -/
def State.hello (s : State) (p tag : Nat) (x : Serial) (levelable : Bool) : State :=
  let s := s.modPort p (fun q => q.heardWindow tag)
  if (s.port p).heard.contains x then s
  else (s.modPort p (fun q => q.recordHeard x)).helloLookup p x levelable

/-- The registry step of the report in processing on port `p`; it is cleared with the step (R86). -/
def State.registryStep (s : State) (p : Nat) : State :=
  match (s.port p).processing with
  | none => s
  | some r =>
    let s := s.modPort p (fun q => { q with processing := none })
    match r.hello with
    | none => s
    | some (x, levelable) => s.hello p r.tag x levelable

/-- The row REPORT_REGISTRY_STEP. -/
def execReportRegistryStep (p : Lane) (s : State) : Result :=
  .next (if s.resetHeld then s else s.registryStep p.val).settle

end Sys2Proof.Machine
end

