-- ==== Sys2Proof/Machine/Arbiter.lean ====
section
/-! DEFINITION. The window arbiter: requesters and grants (R63, R67, R68, R154), frame starts (R64, R70, R164, R175), and the integrity
scrubber's verification (R164). -/

namespace Sys2Proof.Machine

/-! ### Grants -/

/-- What an arbiter finds standing: a window kind and, for the echo kinds, its candidate target (R62, R67). -/
structure Requester where
  kind   : WindowKind
  target : Option Nat
  deriving DecidableEq, Repr

/-- The requester of an UPKEEP window for some choice of target (R67). -/
def upkeepRequest (target : Option Nat) : Option Requester :=
  target.map (fun r => { kind := .upkeep, target := some r })

/-- Requester 2: the oldest entry awaiting a window whose record is eligible (R67). -/
def State.activationRequest (s : State) (p : Nat) : Option Requester :=
  ((s.port p).activation.find? (fun e =>
    (e.phase == .awaitEcho || e.phase == .awaitVerify) && (s.record e.record).eligible)).map (fun e =>
      { kind := if e.phase = .awaitEcho then .echo else .verify, target := some e.record })

/-- Requester 1: upkeep owed in full (R67). -/
def State.fullUpkeepRequest (s : State) (p : Nat) : Option Requester :=
  if (s.port p).owed = Config.owedLimit then upkeepRequest (s.upkeepTarget p) else none

/-- Requester 3: upkeep of a missed record (R67). -/
def State.missedUpkeepRequest (s : State) (p : Nat) : Option Requester :=
  if 1 ≤ (s.port p).owed then upkeepRequest (s.lowestDrop (s.missedCandidates p)) else none

/-- Requester 4: discovery (R67). -/
def State.inviteRequest (s : State) (p : Nat) : Option Requester :=
  if (s.port p).due then some { kind := .invite, target := none } else none

/-- Requester 5: routine upkeep (R67). -/
def State.routineUpkeepRequest (s : State) (p : Nat) : Option Requester :=
  if 1 ≤ (s.port p).owed then upkeepRequest (s.upkeepTarget p) else none

/-- The first requester that stands in RUN (R67). -/
def State.runRequest (s : State) (p : Nat) : Option Requester :=
  (((s.fullUpkeepRequest p).or (s.activationRequest p)).or (s.missedUpkeepRequest p)).or
    ((s.inviteRequest p).or (s.routineUpkeepRequest p))

/-- The changeover unit's request for a REFERENCE window (R68, R154). -/
def State.referenceRequest (s : State) (p : Nat) : Option Requester :=
  match (s.port p).changeover.reference with
  | none => none
  | some r =>
    if (s.port p).changeover.windows < 3 ∧ (s.record r).eligible then some { kind := .reference, target := some r }
    else none

/-- The window record a grant creates (R61, R68, R84). -/
def State.openWindow (s : State) (p : Nat) (q : Requester) : OpenWindow where
  kind := q.kind
  tag := ((s.port p).tagCounter + 1) % 16
  target := q.target
  targetDrop := q.target.map (fun r => (s.record r).dropId)
  captured := none
  clean := 0
  garbled := 0
  overrun := false
  spread := if q.kind = .invite then (s.port p).spread else 0
  age := 0

/-- The tag counter advances and the window record is created (R63, R68). -/
def Port.granted (q : Port) (w : OpenWindow) : Port :=
  { q with tagCounter := (q.tagCounter + 1) % 16, window := some w }

/-- The heard list moves to a granted INVITE window when no report waits or is in processing (R84). -/
def Port.inviteGranted (q : Port) (tag : Nat) : Port :=
  let q := { q with due := false }
  if q.arrivals.isEmpty && q.processing.isNone then { q with heard := [], heardTag := some tag } else q

/-- The further effect of a grant on its requester (R68, R139, R154). -/
def State.grantEffect (s : State) (p : Nat) (w : OpenWindow) : State :=
  match w.kind, w.target with
  | .invite, _ => s.modPort p (fun q => q.inviteGranted w.tag)
  | .echo, some r => (s.setPhase p r .echoOpen).change r (fun c => { c with state := .ranging })
  | .verify, some r => s.setPhase p r .verifyOpen
  | .upkeep, some r =>
    s.modPort p (fun q => { q with owed := q.owed - 1, cursor := (s.record r).dropId })
  | .reference, _ =>
    s.modPort p (fun q => { q with changeover := { q.changeover with windows := q.changeover.windows + 1 } })
  | _, _ => s

/-- A grant, whole in one step (R68). -/
def State.grant (s : State) (p : Nat) (q : Requester) : State :=
  let w := s.openWindow p q
  (s.modPort p (fun x => x.granted w)).grantEffect p w

/-- In RUN: the candidate of the first standing requester is verified; a damaged one is handled and the arbiter goes on (R68, R139; log
entry 31). `fuel` bounds the candidates that can be found damaged. -/
def State.grantRun : Nat → State → Nat → State
  | 0, s, _ => s
  | fuel + 1, s, p =>
    match s.runRequest p with
    | none => s
    | some q =>
      match q.target with
      | none => s.grant p q
      | some r => if s.verifies r then s.grant p q else State.grantRun fuel (s.damage r) p

/-- In CHANGEOVER: the reference is verified; its damage fails the changeover and nothing is granted (R68, R154, R159). -/
def State.grantReference (s : State) (p : Nat) : State :=
  match s.referenceRequest p with
  | none => s
  | some q =>
    match q.target with
    | none => s
    | some r => if s.verifies r then s.grant p q else s.damage r

/-- The requesters of the port state are considered (R67, R68). -/
def State.considerGrant (s : State) (p : Nat) : State :=
  match (s.port p).state with
  | .run => State.grantRun (Config.records + 1) s p
  | .calibrating => s.grant p { kind := .loop, target := none }
  | .changeover => s.grantReference p
  | .down | .standby => s

/-- Step 5 of R64: no window is open and the gap counter is at least the traffic gap. -/
def State.grantStep (s : State) (p : Nat) : State :=
  if (s.port p).window.isNone ∧ (s.port p).config.gap ≤ (s.port p).gapCounter then s.considerGrant p else s

/-- The row WINDOW_GRANT: a grant is considered on the port as R64, step 5, does (log entry 4). -/
def execWindowGrant (p : Lane) (s : State) : Result :=
  .next (if s.resetHeld then s else s.grantStep p.val).settle

/-! ### The scrubber (R164) -/

/-- The record at the cursor is verified, the counter set to 0 and the cursor advanced (R164). -/
def State.scrub (s : State) : State :=
  { s.verifyOrDamage s.scrubCursor with scrubCounter := 0, scrubCursor := (s.scrubCursor + 1) % Config.records }

/-- The scrub interval counter counts a frame start on port 0's lane (R164). -/
def State.scrubCount (s : State) : State :=
  if s.scrubInterval ≤ s.scrubCounter + 1 then s.scrub else { s with scrubCounter := s.scrubCounter + 1 }

/-- The row SCRUB_VERIFY (R164; log entry 4). -/
def execScrubVerify (s : State) : Result := .next (if s.resetHeld then s else s.scrub).settle

/-! ### Closes and frame starts (R64) -/

/-- What the owner of a closed window does with its record (R65). -/
def State.closedBy (p : Nat) (s : State) (w : OpenWindow) : State :=
  match w.kind with
  | .invite => State.inviteClosedAt p s w
  | .echo => State.echoClosed p s w
  | .verify => State.verifyClosed p s w
  | .upkeep => State.upkeepClosed p s w
  | .reference => State.referenceClosed p s w
  | .loop => State.loopClosedAt p s w

/-- Steps 2 and 3 of R64: a window at its second frame start closes; one that is not closing grows older; where none was open the gap
counter grows. -/
def State.windowStep (s : State) (p : Nat) : State :=
  match (s.port p).window with
  | none => s.modPort p (fun q => { q with gapCounter := min (q.gapCounter + 1) Config.gapLimit })
  | some w =>
    if 1 ≤ w.age then State.closedBy p (s.dropWindow p) w
    else s.modPort p (fun q => { q with window := some { w with age := w.age + 1 } })

/-- The upkeep period timer counts a frame start in RUN (R69). -/
def State.periodStep (s : State) (p : Nat) : State :=
  if (s.port p).config.period ≤ (s.port p).periodTimer + 1 then s.periodEnd p
  else s.modPort p (fun q => { q with periodTimer := q.periodTimer + 1 })

/-- The discovery timer counts a frame start in RUN and is then compared with the interval (R70). -/
def State.discoveryStep (s : State) (p : Nat) : State :=
  let s := s.modPort p (fun q => { q with discoveryTimer := min (q.discoveryTimer + 1) Config.discoveryTimerLimit })
  if (s.port p).config.interval ≤ (s.port p).discoveryTimer then s.makeDue p else s

/-- An INVITE window is open on port `p`. -/
def State.inviteOpen (s : State) (p : Nat) : Bool :=
  match (s.port p).window with
  | some w => w.kind == .invite
  | none => false

/-- Step 4 of R64, in RUN; `invite` says that the frame start found an INVITE window open (R70; log entry 8). -/
def State.timerStep (s : State) (p : Nat) (invite : Bool) : State :=
  if (s.port p).state = .run then
    let s := s.periodStep p
    if invite then s else s.discoveryStep p
  else s

/-- The steps of R64 for a frame start on port `p` carrying frame number `n`. -/
def State.arbiterFrame (s : State) (p n : Nat) : State :=
  let invite := s.inviteOpen p
  let s := s.modPort p (fun q => { q with frame := n })
  ((s.windowStep p).timerStep p invite).grantStep p

end Sys2Proof.Machine
end

