-- ==== Sys2Proof/Machine/Links.lean ====
section
/-! DEFINITION. The link interface: frames on the two links (R174 to R176), the command arbiter (R177), replies leaving their paths
(R174, R175), and the frame start as a whole with the craft idle counter (R64, R164, R175). -/

namespace Sys2Proof.Machine

/-! ### Frames and their checks (R176) -/

/-- Steps 2 and 3 of R176: the code is listed and the arguments have its length. -/
def State.checkCommand (s : State) (l : Link) (tag code : Byte) (args : List Byte) : State :=
  match argLength code, parseCommand code args with
  | some n, some c => if args.length = n then s.queueCommand l tag c else s.immediate l tag .malformed
  | _, _ => s.immediate l tag .unknownCommand

/-- The length of a frame is good: the bytes are two more than the length field, which is at least 3 (R174, R175). -/
def lengthGood (bs : List Byte) : Bool :=
  let n := fieldAt bs 1 1
  decide (3 ≤ n) && decide (bs.length = n + 2)

/-- A complete frame whose tag has been received is checked on arrival (R176). -/
def State.checkFrame (s : State) (l : Link) (bs : List Byte) : State :=
  if !lengthGood bs || byteSum bs != 0 then s.immediate l (byteAt bs 2) .malformed
  else s.checkCommand l (byteAt bs 2) (byteAt bs 3) ((bs.drop 4).take (bs.length - 5))

/-! ### The host link (R174) -/

/-- The bytes of a select period: no command unless the first is the sync byte; discarded without reply when the period ends before
the tag (R174). Where the period began before the pin's release, its first byte after the release is taken as the first of the period, so an
A7h there is the sync byte (R182 reads two ways; DESIGN CHOICE, log entry 37). -/
def State.hostPeriod (s : State) (bs : List Byte) : State :=
  if bs.head? = some syncByte ∧ 3 ≤ bs.length then s.checkFrame .host bs else s

/-- A select period ends: no host frame is in assembly, and no reply has been shifted out in the next period (R173, R174). -/
def State.endPeriod (s : State) : State := { s with host := { s.host with assembly := none }, hostRead := false }

/-- The row HOST_SELECT_END: the period's bytes are those already in assembly and those given (R173, R174; log entry 20). -/
def execHostSelectEnd (bs : List Byte) (s : State) : Result :=
  .next (if s.resetHeld then s
    else (s.hostPeriod (s.host.assembly.getD [] ++ bs)).endPeriod).settle

/-- The head reply frame of a link leaves its path (R174, R175). -/
def State.dropReply (s : State) (l : Link) : State :=
  s.modLink l (fun k => { k with replies := k.replies.drop 1 })

/-- The last byte of the head reply has been shifted out to the host: it leaves the path, and the idle byte follows until the period
ends. One reply at most is shifted out in a period (R174; log entry 20). -/
def State.shiftReplyOut (s : State) : State :=
  if s.hostRead || s.host.replies.isEmpty then s else { s.dropReply .host with hostRead := true }

/-- The row HOST_REPLY_SHIFTED_OUT. -/
def execHostReplyShiftedOut (s : State) : Result := .next (if s.resetHeld then s else s.shiftReplyOut).settle

/-! ### The craft link (R175) -/

/-- The frame in assembly on the craft link ends: the link hunts again. -/
def State.endAssembly (s : State) : State := { s with craft := { s.craft with assembly := none }, craftIdle := 0 }

/-- A frame in assembly ends incomplete: MALFORMED when its tag has been received, no reply otherwise (R175). -/
def State.incomplete (s : State) (bs : List Byte) : State :=
  if 3 ≤ bs.length then s.endAssembly.immediate .craft (byteAt bs 2) .malformed else s.endAssembly

/-- A craft frame is complete: with its tag when its length field is bad, otherwise at its length (R175). -/
def craftComplete (bs : List Byte) : Bool :=
  decide (3 ≤ bs.length) && (decide (fieldAt bs 1 1 < 3) || decide (fieldAt bs 1 1 + 2 ≤ bs.length))

/-- A byte joins the frame in assembly, which is checked when complete (R175). -/
def State.assemble (s : State) (bs : List Byte) : State :=
  if craftComplete bs then s.endAssembly.checkFrame .craft bs
  else { s with craft := { s.craft with assembly := some bs }, craftIdle := 0 }

/-- A byte is received on the craft link (R175; log entry 21). -/
def State.craftByte (s : State) (b : Byte) (stopError : Bool) : State :=
  match s.craft.assembly with
  | none => if b = syncByte ∧ !stopError then s.assemble [b] else s
  | some bs => if stopError then s.incomplete bs else s.assemble (bs ++ [b])

/-- The row CRAFT_BYTE_RECEIVED. -/
def execCraftByteReceived (b : Byte) (stopError : Bool) (s : State) : Result :=
  .next (if s.resetHeld then s else s.craftByte b stopError).settle

/-- The gap on the craft link ends the frame in assembly, if there is one (R175). -/
def State.craftTimeout (s : State) : State :=
  match s.craft.assembly with
  | none => s
  | some bs => s.incomplete bs

/-- The row CRAFT_IDLE_TIMEOUT (R175; log entry 4). -/
def execCraftIdleTimeout (s : State) : Result := .next (if s.resetHeld then s else s.craftTimeout).settle

/-- The row CRAFT_REPLY_SENT (R175). -/
def execCraftReplySent (s : State) : Result := .next (if s.resetHeld then s else s.dropReply .craft).settle

/-- The craft idle counter counts a frame start on port 0's lane while a frame is in assembly (R175). -/
def State.craftIdleCount (s : State) : State :=
  match s.craft.assembly with
  | none => s
  | some bs =>
    if Config.craftIdleLimit ≤ s.craftIdle + 1 then s.incomplete bs else { s with craftIdle := s.craftIdle + 1 }

/-! ### The command arbiter (R177) -/

/-- A queued command carried out by the block that owns it (chapter 11, the commands). -/
def runCommand (l : Link) : Command → State → State × Reply
  | .plan a => doPlan l a
  | .amend a => doAmend l a
  | .retire r => doRetire l r
  | .adopt r x => doAdopt l r x
  | .retry r => doRetry l r
  | .restore a => doRestore l a
  | .pin r => doPin l r
  | .unpin r => doUnpin l r
  | .confirm r => doConfirm l r
  | .reject r => doReject l r
  | .admitDrop r => doAdmit l r
  | .suspend r => doSuspend l r
  | .rediscover r => doRediscover l r
  | .portEnable p => doPortEnable l p
  | .portDisable p => doPortDisable l p
  | .calibrate p => doCalibrate l p
  | .start p => doStart l p
  | .stop p => doStop l p
  | .portConfigure a => doPortConfigure l a
  | .sweep p => doSweep l p
  | .changeover p r => doChangeover l p r
  | .readRecord r => doReadRecord r
  | .findSerial x => doFindSerial x
  | .findPlot plot => doFindPlot plot
  | .strangers => doStrangers
  | .silenceMap p r => doSilenceMap p r
  | .dropMap p => doDropMap p
  | .activationQueue p => doActivationQueue p
  | .portStatus p => doPortStatus l p
  | .deviceStatus => doDeviceStatus
  | .changes => doChanges l
  | .scrubConfigure i => doScrubConfigure l i
  | .integrity => doIntegrity l
  | .phaseService => doPhaseService l
  | .softReset => doSoftReset l

/-- The other link. -/
def otherLink : Link → Link
  | .host => .craft
  | .craft => .host

/-- A link has a head command that can be taken: its reply path holds fewer than 8 frames (R177). -/
def State.takeable (s : State) (l : Link) : Bool := !(s.link l).queue.isEmpty && s.replyRoom l

/-- The link the arbiter serves next: the one not last served where both can be taken (R177). -/
def State.nextLink (s : State) : Option Link :=
  if s.takeable (otherLink s.lastServed) then some (otherLink s.lastServed)
  else if s.takeable s.lastServed then some s.lastServed
  else none

/-- The head command of a link's queue is taken and carried out, its reply appended (R177). -/
def State.takeCommand (s : State) (l : Link) : State :=
  match (s.link l).queue with
  | [] => s
  | c :: cs => (s.modLink l (fun k => { k with queue := cs })).answer l c.tag (runCommand l c.command)

/-- The command arbiter takes one command, if one can be taken (R177). -/
def State.arbitrate (s : State) : State :=
  match s.nextLink with
  | none => s
  | some l => s.takeCommand l

/-- The row COMMAND_TAKE. -/
def execCommandTake (s : State) : Result := .next (if s.resetHeld then s else s.arbitrate).settle

/-! ### Frame starts as a whole -/

/-- A frame start on a lane: the steps of R64, and on port 0's lane the scrub count (R164) and the craft idle count (R175)
after them (log entry 30). -/
def State.frameStart (s : State) (p n : Nat) : State :=
  if p = 0 then ((s.arbiterFrame p n).scrubCount).craftIdleCount else s.arbiterFrame p n

/-- The row FRAME_START. -/
def execFrameStart (p : Lane) (n : Half) (s : State) : Result :=
  .next (if s.resetHeld then s else s.frameStart p.val n.toNat).settle

end Sys2Proof.Machine
end

