-- ==== Sys2Proof/Machine/Dispatch.lean ====
section
/-! DEFINITION. One arm per row of spec/opcode_table.json, each a direct call of the row's own meaning. -/

namespace Sys2Proof.Machine

/-- The effect of a command or an event on everything but the queue. -/
def exec (i : Instr) (s : State) : Host.Outcome State Fault Refusal :=
  match i with
  | .plan l tag a => Sys2Proof.Machine.execPlan l tag a s
  | .amend l tag a => Sys2Proof.Machine.execAmend l tag a s
  | .retire l tag r => Sys2Proof.Machine.execRetire l tag r s
  | .adopt l tag r serial => Sys2Proof.Machine.execAdopt l tag r serial s
  | .retry l tag r => Sys2Proof.Machine.execRetry l tag r s
  | .restore l tag a => Sys2Proof.Machine.execRestore l tag a s
  | .pin l tag r => Sys2Proof.Machine.execPin l tag r s
  | .unpin l tag r => Sys2Proof.Machine.execUnpin l tag r s
  | .confirm l tag r => Sys2Proof.Machine.execConfirm l tag r s
  | .reject l tag r => Sys2Proof.Machine.execReject l tag r s
  | .admitDrop l tag r => Sys2Proof.Machine.execAdmitDrop l tag r s
  | .suspend l tag r => Sys2Proof.Machine.execSuspend l tag r s
  | .rediscover l tag r => Sys2Proof.Machine.execRediscover l tag r s
  | .portEnable l tag p => Sys2Proof.Machine.execPortEnable l tag p s
  | .portDisable l tag p => Sys2Proof.Machine.execPortDisable l tag p s
  | .calibrate l tag p => Sys2Proof.Machine.execCalibrate l tag p s
  | .start l tag p => Sys2Proof.Machine.execStart l tag p s
  | .stop l tag p => Sys2Proof.Machine.execStop l tag p s
  | .portConfigure l tag a => Sys2Proof.Machine.execPortConfigure l tag a s
  | .sweep l tag p => Sys2Proof.Machine.execSweep l tag p s
  | .changeover l tag p reference => Sys2Proof.Machine.execChangeover l tag p reference s
  | .readRecord l tag r => Sys2Proof.Machine.execReadRecord l tag r s
  | .findSerial l tag serial => Sys2Proof.Machine.execFindSerial l tag serial s
  | .findPlot l tag plot => Sys2Proof.Machine.execFindPlot l tag plot s
  | .strangers l tag => Sys2Proof.Machine.execStrangers l tag s
  | .silenceMap l tag p first => Sys2Proof.Machine.execSilenceMap l tag p first s
  | .dropMap l tag p => Sys2Proof.Machine.execDropMap l tag p s
  | .activationQueue l tag p => Sys2Proof.Machine.execActivationQueue l tag p s
  | .portStatus l tag p => Sys2Proof.Machine.execPortStatus l tag p s
  | .deviceStatus l tag => Sys2Proof.Machine.execDeviceStatus l tag s
  | .changes l tag => Sys2Proof.Machine.execChanges l tag s
  | .scrubConfigure l tag interval => Sys2Proof.Machine.execScrubConfigure l tag interval s
  | .integrity l tag => Sys2Proof.Machine.execIntegrity l tag s
  | .phaseService l tag => Sys2Proof.Machine.execPhaseService l tag s
  | .softReset l tag => Sys2Proof.Machine.execSoftReset l tag s
  | .hardResetAssert => Sys2Proof.Machine.execHardResetAssert s
  | .hardResetRelease => Sys2Proof.Machine.execHardResetRelease s
  | .storageUpset r image check => Sys2Proof.Machine.execStorageUpset r image check s
  | .frameStart p n => Sys2Proof.Machine.execFrameStart p n s
  | .windowGrant p => Sys2Proof.Machine.execWindowGrant p s
  | .inviteClose p => Sys2Proof.Machine.execInviteClose p s
  | .echoClose p => Sys2Proof.Machine.execEchoClose p s
  | .verifyClose p => Sys2Proof.Machine.execVerifyClose p s
  | .upkeepClose p => Sys2Proof.Machine.execUpkeepClose p s
  | .referenceClose p => Sys2Proof.Machine.execReferenceClose p s
  | .loopClose p => Sys2Proof.Machine.execLoopClose p s
  | .upkeepPeriodEnd p => Sys2Proof.Machine.execUpkeepPeriodEnd p s
  | .discoveryDue p => Sys2Proof.Machine.execDiscoveryDue p s
  | .scrubVerify => Sys2Proof.Machine.execScrubVerify s
  | .arrivalReport p r => Sys2Proof.Machine.execArrivalReport p r s
  | .reportProcessingStart p => Sys2Proof.Machine.execReportProcessingStart p s
  | .reportRegistryStep p => Sys2Proof.Machine.execReportRegistryStep p s
  | .messageTake p => Sys2Proof.Machine.execMessageTake p s
  | .setDelayQueue p => Sys2Proof.Machine.execSetDelayQueue p s
  | .admissionLookup p dropId => Sys2Proof.Machine.execAdmissionLookup p dropId s
  | .hostSelectEnd bytes => Sys2Proof.Machine.execHostSelectEnd bytes s
  | .hostReplyShiftedOut => Sys2Proof.Machine.execHostReplyShiftedOut s
  | .craftByteReceived b stopError => Sys2Proof.Machine.execCraftByteReceived b stopError s
  | .craftIdleTimeout => Sys2Proof.Machine.execCraftIdleTimeout s
  | .craftReplySent => Sys2Proof.Machine.execCraftReplySent s
  | .commandTake => Sys2Proof.Machine.execCommandTake s

end Sys2Proof.Machine
end

