-- ==== Sys2Proof/WellFormed.lean ====
section
/-! DEFINITION. Which terms of Instr stand for commands and events of the part. Every value of a link command's arguments and of a framer
item's fields can be carried by its frame or lane, and what the part answers to a value out of range is its meaning, not a
matter of form. Only STORAGE_UPSET has operands that its event rules out (R1, R163, R185; log entry 19). -/

namespace Sys2Proof

/-- An upset strikes one of the 480 records (R1, R163). -/
def upsetRecordOk (r : Nat) : Bool := decide (r < Config.records)

/-- The content an upset leaves is given as a record image of 41 bytes (R185). -/
def upsetImageOk (image : List Byte) : Bool := image.length == 41

/-- After an upset the content and the check word no longer agree (R163). -/
def upsetDisagrees (image : List Byte) (check : Half) : Bool :=
  (Machine.Record.ofImage image).checkWord != check

/-- Whether a term stands for a command or an event. -/
def Instr.wellFormed : Instr → Bool
  | .plan _ _ _ => true
  | .amend _ _ _ => true
  | .retire _ _ _ => true
  | .adopt _ _ _ _ => true
  | .retry _ _ _ => true
  | .restore _ _ _ => true
  | .pin _ _ _ => true
  | .unpin _ _ _ => true
  | .confirm _ _ _ => true
  | .reject _ _ _ => true
  | .admitDrop _ _ _ => true
  | .suspend _ _ _ => true
  | .rediscover _ _ _ => true
  | .portEnable _ _ _ => true
  | .portDisable _ _ _ => true
  | .calibrate _ _ _ => true
  | .start _ _ _ => true
  | .stop _ _ _ => true
  | .portConfigure _ _ _ => true
  | .sweep _ _ _ => true
  | .changeover _ _ _ _ => true
  | .readRecord _ _ _ => true
  | .findSerial _ _ _ => true
  | .findPlot _ _ _ => true
  | .strangers _ _ => true
  | .silenceMap _ _ _ _ => true
  | .dropMap _ _ _ => true
  | .activationQueue _ _ _ => true
  | .portStatus _ _ _ => true
  | .deviceStatus _ _ => true
  | .changes _ _ => true
  | .scrubConfigure _ _ _ => true
  | .integrity _ _ => true
  | .phaseService _ _ => true
  | .softReset _ _ => true
  | .hardResetAssert => true
  | .hardResetRelease => true
  | .storageUpset r image check => upsetRecordOk r && upsetImageOk image && upsetDisagrees image check
  | .frameStart _ _ => true
  | .windowGrant _ => true
  | .inviteClose _ => true
  | .echoClose _ => true
  | .verifyClose _ => true
  | .upkeepClose _ => true
  | .referenceClose _ => true
  | .loopClose _ => true
  | .upkeepPeriodEnd _ => true
  | .discoveryDue _ => true
  | .scrubVerify => true
  | .arrivalReport _ _ => true
  | .reportProcessingStart _ => true
  | .reportRegistryStep _ => true
  | .messageTake _ => true
  | .setDelayQueue _ => true
  | .admissionLookup _ _ => true
  | .hostSelectEnd _ => true
  | .hostReplyShiftedOut => true
  | .craftByteReceived _ _ => true
  | .craftIdleTimeout => true
  | .craftReplySent => true
  | .commandTake => true

end Sys2Proof
end

