-- ==== Sys2Proof/Safety.lean ====
section
/-! DEFINITION. The terms in which claims about the part are made: when a command is carried out, what it answers, which command a row
is, and the invariants of the machine. -/

namespace Sys2Proof.Machine

/-! ### Commands and their rows -/

/-- A command of link `l` is carried out: the hard-reset pin is not held and the link's reply path has room (R177, R182). -/
abbrev State.ready (s : State) (l : Link) : Prop :=
  s.resetHeld = false ∧ (s.link l).replies.length < Config.replyLimit

/-- A record command reaches its record: the number is one of the 480 and the record verifies (R10, checks 2 and 4). -/
abbrev State.sound (s : State) (r : Half) : Prop := r.toNat < Config.records ∧ s.verifies r.toNat = true

/-- What taking a command of link `l` leaves once its effect has given `s`: the link is the last-served one, the reply stands at the
tail of its path and the attention output follows (R177, R178). -/
def State.replied (s : State) (l : Link) (tag : Byte) (st : Status) (payload : List Byte) : State :=
  ({ s with lastServed := l }.appendReply l { tag := tag, status := st, payload := payload }).settle

/-- The row of the table that a link command is, from link `l` with a tag (log entry 1). -/
def commandRow (l : Link) (tag : Byte) : Command → Instr
  | .plan a => .plan l tag a
  | .amend a => .amend l tag a
  | .retire r => .retire l tag r
  | .adopt r x => .adopt l tag r x
  | .retry r => .retry l tag r
  | .restore a => .restore l tag a
  | .pin r => .pin l tag r
  | .unpin r => .unpin l tag r
  | .confirm r => .confirm l tag r
  | .reject r => .reject l tag r
  | .admitDrop r => .admitDrop l tag r
  | .suspend r => .suspend l tag r
  | .rediscover r => .rediscover l tag r
  | .portEnable p => .portEnable l tag p
  | .portDisable p => .portDisable l tag p
  | .calibrate p => .calibrate l tag p
  | .start p => .start l tag p
  | .stop p => .stop l tag p
  | .portConfigure a => .portConfigure l tag a
  | .sweep p => .sweep l tag p
  | .changeover p r => .changeover l tag p r
  | .readRecord r => .readRecord l tag r
  | .findSerial x => .findSerial l tag x
  | .findPlot plot => .findPlot l tag plot
  | .strangers => .strangers l tag
  | .silenceMap p r => .silenceMap l tag p r
  | .dropMap p => .dropMap l tag p
  | .activationQueue p => .activationQueue l tag p
  | .portStatus p => .portStatus l tag p
  | .deviceStatus => .deviceStatus l tag
  | .changes => .changes l tag
  | .scrubConfigure i => .scrubConfigure l tag i
  | .integrity => .integrity l tag
  | .phaseService => .phaseService l tag
  | .softReset => .softReset l tag

/-- The row of R172's table in which a command stands. -/
def commandPermit : Command → Permit
  | .readRecord _ | .findSerial _ | .findPlot _ | .dropMap _ | .silenceMap _ _ | .strangers | .activationQueue _
  | .portStatus _ | .deviceStatus => .read
  | .adopt _ _ | .confirm _ | .reject _ | .retry _ | .rediscover _ | .sweep _ => .crew
  | .plan _ | .amend _ | .retire _ | .restore _ | .pin _ | .unpin _ | .admitDrop _ | .suspend _ | .portEnable _
  | .portDisable _ | .calibrate _ | .start _ | .stop _ | .portConfigure _ | .changeover _ _ | .changes
  | .scrubConfigure _ | .integrity | .phaseService | .softReset => .hostOnly

/-- What R10 and the owning rules ask of a record command: its record, whether its other arguments lie in their ranges, and the
states in which it is permitted (R12, R14, R16 to R20, R35 to R38, R129). None for the other commands. -/
def recordDemand : Command → Option (Half × Bool × (RecState → Bool))
  | .plan a => some (a.record, planArgsOk a, fun st => st == .vacant)
  | .restore a => some (a.record, planArgsOk a, fun st => st == .damaged)
  | .amend a => some (a.plan.record, amendArgsOk a, fun st =>
      st != .vacant && st != .damaged && (st == .expected || st == .barred || !(selects a 5 || selects a 6)))
  | .retire r => some (r, true, fun st => st != .vacant)
  | .adopt r x => some (r, x != 0, fun st => st == .expected)
  | .retry r => some (r, true, fun st => st == .barred)
  | .pin r | .unpin r => some (r, true, fun st => st != .vacant && st != .damaged)
  | .confirm r | .reject r => some (r, true, fun st => st == .query)
  | .admitDrop r => some (r, true, fun st => st == .ready)
  | .suspend r => some (r, true, fun st => st == .active)
  | .rediscover r => some (r, true, fun st => st == .query || st == .ready || st == .active)
  | _ => none

/-- R43's table for the commands that change the port state: the status that refuses a command in a port state, none where it is
accepted. None as a whole for the other commands. -/
def portDemand : Command → Option (Byte × (PortState → Option Status))
  | .portEnable p => some (p, fun st => match st with
      | .down => none
      | .standby | .calibrating | .run | .changeover => some .refusedState)
  | .portDisable p | .calibrate p | .start p => some (p, fun st => match st with
      | .standby => none
      | .down | .run => some .refusedState
      | .calibrating | .changeover => some .busy)
  | .stop p => some (p, fun st => match st with
      | .calibrating | .run => none
      | .down | .standby => some .refusedState
      | .changeover => some .busy)
  | _ => none

/-! ### Queues and closes -/

/-- What descriptors offered one after another do to a port: those that find room join the outbound queue, and the rest are dropped with
OUTBOUND_OVERRUN (R77). -/
def Port.offered (q : Port) (ds : List Descriptor) : Port :=
  { q with
    outbound := q.outbound ++ ds.take (Config.outboundLimit - q.outbound.length)
    conditions := { q.conditions with
      outboundOverrun :=
        q.conditions.outboundOverrun || decide (Config.outboundLimit - q.outbound.length < ds.length) } }

/-- The row of the table that closes a window of a kind. -/
def closeRow (p : Lane) : WindowKind → Instr
  | .invite => .inviteClose p
  | .echo => .echoClose p
  | .verify => .verifyClose p
  | .upkeep => .upkeepClose p
  | .reference => .referenceClose p
  | .loop => .loopClose p

/-! ### Link frames -/

/-- A complete frame of good length that fails one of steps 1 to 3 of R176: it carries the tag and is answered with the status. -/
def turnedAway (bs : List Byte) (tag : Byte) (st : Status) : Prop :=
  ∃ (len code check : Byte) (args : List Byte),
    bs = syncByte :: len :: tag :: code :: (args ++ [check]) ∧ bs.length = len.toNat + 2
      ∧ ((bs.foldl (fun a b => a + b) 0#8 ≠ 0#8 ∧ st = .malformed)
        ∨ (bs.foldl (fun a b => a + b) 0#8 = 0#8 ∧ (∀ c, (commandBytes c).1 ≠ code) ∧ st = .unknownCommand)
        ∨ (bs.foldl (fun a b => a + b) 0#8 = 0#8
          ∧ (∃ c, (commandBytes c).1 = code ∧ args.length ≠ (commandBytes c).2.length) ∧ st = .malformed))

/-! ### Frames -/

/-- Every record but those of the list is stored as before, check word and all. -/
def State.recordsKept (s t : State) (but : List Nat) : Prop := ∀ n, n ∉ but → t.stored n = s.stored n

/-- Every port but those of the list is as before. -/
def State.portsKept (s t : State) (but : List Nat) : Prop := ∀ p, p ∉ but → t.port p = s.port p

/-! ### Invariants -/

/-- A list of numbers rises strictly. -/
abbrev rising (ns : List Nat) : Prop := ns.Pairwise (· < ·)

/-- Every record verifies (R162). -/
abbrev State.allVerify (s : State) : Prop := ∀ n, n < Config.records → s.verifies n = true

/-- The attention output is asserted exactly while one of R178's five conditions holds. -/
abbrev State.attentionTrue (s : State) : Prop :=
  s.attention = true ↔
    s.changed ≠ [] ∨ (∃ p, p < Config.ports ∧ (s.port p).conditions ≠ Conditions.clear) ∨ s.newStranger = true
      ∨ 0 < s.integrityCount ∨ s.host.replies ≠ []

/-- The integrity count lies in 0..15 and is nonzero exactly when a first damaged record is latched (R169). -/
abbrev State.integrityLatched (s : State) : Prop :=
  s.integrityCount ≤ Config.integrityLimit ∧ (s.integrityCount = 0 ↔ s.firstDamaged = none)

/-- The queues and counters of a port lie within their bounds (R42, R61, R64, R69, R70, R75, R76, R83, R114, R151), and its
configuration within its ranges (R48). -/
abbrev Port.bounded (q : Port) : Prop :=
  q.config.inRange = true ∧ q.loopOffset ≤ 4095 ∧ q.spread ≤ Config.spreadLimit
    ∧ q.discoveryTimer ≤ Config.discoveryTimerLimit ∧ q.tagCounter < 16 ∧ q.calibration.length ≤ 3
    ∧ q.gapCounter ≤ Config.gapLimit ∧ q.owed ≤ Config.owedLimit ∧ q.frame < 65536
    ∧ q.arrivals.length ≤ Config.arrivalLimit ∧ q.heard.length ≤ Config.heardLimit
    ∧ q.activation.length ≤ Config.activationLimit ∧ q.outbound.length ≤ Config.outboundLimit
    ∧ q.changeover.windows ≤ 3

/-- A link's command queue and reply path lie within their bounds (R173). -/
abbrev LinkState.bounded (k : LinkState) : Prop :=
  k.queue.length ≤ Config.commandLimit ∧ k.replies.length ≤ Config.replyLimit

/-- Every queue, list and counter lies within its bounds (R8, R42, R48, R61, R64, R69, R70, R75, R76, R83, R114, R151, R164,
R173). -/
abbrev State.bounded (s : State) : Prop :=
  (∀ p, p < Config.ports → (s.port p).bounded) ∧ s.strangers.length ≤ Config.strangerLimit
    ∧ s.host.bounded ∧ s.craft.bounded ∧ s.craftIdle ≤ Config.craftIdleLimit
    ∧ s.scrubCursor < Config.records ∧ 1 ≤ s.scrubInterval ∧ s.scrubInterval ≤ 255 ∧ s.scrubCounter ≤ 255

/-- The window kinds a port state permits (R62). -/
def PortState.permits : PortState → WindowKind → Bool
  | .run, .invite | .run, .echo | .run, .verify | .run, .upkeep => true
  | .changeover, .reference => true
  | .calibrating, .loop => true
  | _, _ => false

/-- A window is open only in a state that permits its kind (R61, R62), and a changeover is in progress exactly in CHANGEOVER
(R151). -/
abbrev Port.lawful (q : Port) : Prop :=
  (∀ w, q.window = some w → q.state.permits w.kind = true)
    ∧ (q.changeover.reference.isSome = true ↔ q.state = .changeover)
    ∧ q.changeover.previousFeed.isSome = q.changeover.reference.isSome

/-- Every port's window and changeover go with its state (R61, R62, R151). -/
abbrev State.lawful (s : State) : Prop := ∀ p, p < Config.ports → (s.port p).lawful

/-- The drop maps, the indexes and the changed set rise strictly, so no key and no number stands in one of them twice (R5, R6, R7,
R27). -/
abbrev State.mapsRise (s : State) : Prop :=
  rising (s.serialIndex.map Prod.fst) ∧ rising (s.plotIndex.map Prod.fst) ∧ rising s.changed
    ∧ ∀ p, p < Config.ports → rising ((s.port p).dropMap.map Prod.fst)

/-! ### Records and what refers to them -/

/-- The fields of one record go together: what its state says of its drop id, round trip, plot and serial (R2), the failure count (R3),
a WAITING delay sync and the EqD it waits to hand over (R79), and the ranges of R1. -/
abbrev Record.tidy (c : Record) : Prop :=
  c.port ≤ 3 ∧ c.dropId ≤ Config.maxDropId
    ∧ (∀ d, c.preferred = some d → 1 ≤ d ∧ d ≤ Config.maxDropId)
    ∧ (c.dropId ≠ 0 ↔ c.state.activating = true ∨ c.state.ranged = true)
    ∧ (c.ranging.isSome = true ↔ c.state = .levelling ∨ c.state.ranged = true)
    ∧ (c.plot = none ↔ c.state = .vacant ∨ c.state = .damaged)
    ∧ (c.state = .vacant ∨ c.state = .damaged → c.serial = none)
    ∧ (c.state.activating = true ∨ c.state.ranged = true → c.serial.isSome = true)
    ∧ (c.delaySync = .waiting → c.ranging.isSome = true)
    ∧ c.failures ≤ 3 ∧ (c.failures = 3 ↔ c.state = .barred)

/-- A port's drop map holds exactly the drop ids of that port's records (R2, R27). -/
abbrev State.dropMapsTied (s : State) : Prop :=
  ∀ p d n, p < Config.ports →
    (mapGet (s.port p).dropMap d = some n
      ↔ n < Config.records ∧ (s.record n).port = p ∧ (s.record n).dropId = d ∧ d ≠ 0)

/-- The indexes hold exactly the serials and the plots of the records, and no stranger's serial is in the index (R6, R7, R8). -/
abbrev State.indexesTied (s : State) : Prop :=
  (∀ k n, mapGet s.serialIndex k = some n
      ↔ n < Config.records ∧ ∃ x, (s.record n).serial = some x ∧ x.toNat = k)
    ∧ (∀ k n, mapGet s.plotIndex k = some n ↔ n < Config.records ∧ (s.record n).plot = some k)
    ∧ ∀ e ∈ s.strangers, mapGet s.serialIndex e.serial.toNat = none ∧ e.port ≤ 3

/-- At most one SET DELAY names a record (R76). -/
abbrev State.oneSetDelay (s : State) : Prop :=
  ∀ n, (allPorts.map (fun p => (s.port p).outbound.countP (fun d => d.isSetDelayOf n))).sum ≤ 1

/-- A record counts the descriptors that name it, is QUEUED exactly while a SET DELAY names it, and at most one does (R4, R76). -/
abbrev State.queuesTied (s : State) : Prop :=
  (∀ n, n < Config.records →
      (s.record n).outstanding = s.queuedNaming allPorts n
        ∧ ((s.record n).delaySync = .queued ↔ s.setDelayQueued allPorts n = true))
    ∧ s.oneSetDelay

/-- The EqD and the drop length of a record go with its round trip and its port's Teq (R102, R103). -/
abbrev State.rangingTied (s : State) : Prop :=
  ∀ n g, n < Config.records → (s.record n).ranging = some g →
    g.roundTrip + g.eqd = (s.port (s.record n).port).config.teq ∧ g.length = (g.roundTrip * 817 + 5000) / 10000

/-- The record state that goes with an activation phase (R114). -/
def Phase.recordState : Phase → RecState
  | .awaitEcho => .named
  | .echoOpen => .ranging
  | .awaitVerify | .verifyOpen => .levelling

/-- The entries of a port are distinct records of that port, each in the state of its phase, and every record under activation has one
(R114). -/
abbrev State.entriesTied (s : State) : Prop :=
  (∀ p, p < Config.ports →
      ((s.port p).activation.map (fun e => e.record)).Nodup
        ∧ ∀ e ∈ (s.port p).activation, e.record < Config.records ∧ (s.record e.record).port = p
          ∧ (s.record e.record).state = e.phase.recordState)
    ∧ ∀ n, n < Config.records → (s.record n).state.activating = true →
        ∃ e ∈ (s.port (s.record n).port).activation, e.record = n

/-- The records agree with themselves and with every map, index, queue and entry that refers to them. -/
abbrev State.tied (s : State) : Prop :=
  (∀ n, n < Config.records → (s.record n).tidy)
    ∧ s.dropMapsTied ∧ s.indexesTied ∧ s.queuesTied ∧ s.rangingTied ∧ s.entriesTied

end Sys2Proof.Machine
end

