-- ==== Sys2Proof/Certificates/Slice0/Obligations.lean ====
section
/-! DEFINITION. The statements about the part, for the provers. A reply's payload is written with the codes of R184; `replied` appends
a reply and lets the attention output follow; `freshRecord` stores a content with its own check word (R162). -/

section
open Sys2Proof Sys2Proof.Machine

/-! ### The step, the resets and the encodings -/

/-- One step takes the command at the front of the queue and carries it out with the queue's rest; with nothing waiting the part
idles (the model's queue: log entries 1 and 3). -/
def Obligations.StepTakesTheFront : Prop :=
  (∀ (c : Instr) (rest : List Instr) (s : State), s.pending = c :: rest →
      step s = exec c { s with pending := rest })
    ∧ ∀ s : State, s.pending = [] → step s = .next s

/-- R25: what a hard reset leaves in the registry. -/
def Obligations.HardResetEmptiesTheRegistry : Prop :=
  (∀ n, n < 480 →
      (State.reset.record n).state = .vacant ∧ (State.reset.record n).port = 0 ∧ (State.reset.record n).dropId = 0
        ∧ (State.reset.record n).serviceClass = 0 ∧ (State.reset.record n).autoAdmit = false
        ∧ (State.reset.record n).pinned = false ∧ (State.reset.record n).levelIndex = 0
        ∧ (State.reset.record n).levelCondition = .normal ∧ (State.reset.record n).lastLevel = 0
        ∧ (State.reset.record n).attempts = 0 ∧ (State.reset.record n).rounds = 0
        ∧ (State.reset.record n).misses = 0 ∧ (State.reset.record n).failures = 0
        ∧ (State.reset.record n).delaySync = .synced ∧ (State.reset.record n).outstanding = 0
        ∧ (State.reset.record n).cause = .retired
        ∧ (State.reset.record n).plot = none ∧ (State.reset.record n).serial = none
        ∧ (State.reset.record n).preferred = none ∧ (State.reset.record n).band = none
        ∧ (State.reset.record n).levelable = none ∧ (State.reset.record n).ranging = none
        ∧ (State.reset.record n).lastHeard = none
        ∧ (State.reset.stored n).check = checkOf (State.reset.record n).image)
    ∧ State.reset.serialIndex = [] ∧ State.reset.plotIndex = [] ∧ State.reset.strangers = []
    ∧ State.reset.changed = [] ∧ State.reset.phase = .build
    ∧ ∀ p, p < 4 → (State.reset.port p).dropMap = []

/-- R59: what a hard reset leaves in the port controllers, with the windows, queues, cursors and contexts of R82, R83, R136, R149,
R161, and the links and the scrubber of R164, R169, R173. -/
def Obligations.HardResetStopsEveryPort : Prop :=
  (∀ p, p < 4 →
      (State.reset.port p).state = .down
        ∧ (State.reset.port p).config =
          { teq := 200000, tr := 35000, lo := 48, hi := 96, floor := 16, ceiling := 140, initIndex := 4,
            mode := .planned, interval := 64, initSpread := 2, period := 40, hold := 2, limit := 32, gap := 2 }
        ∧ (State.reset.port p).loopOffset = 0 ∧ (State.reset.port p).calibrated = false
        ∧ (State.reset.port p).feed = .a ∧ (State.reset.port p).spread = 2
        ∧ (State.reset.port p).discoveryTimer = 0 ∧ (State.reset.port p).due = false
        ∧ (State.reset.port p).tagCounter = 0 ∧ (State.reset.port p).conditions.byte = 0
        ∧ (State.reset.port p).calibration = [] ∧ (State.reset.port p).window = none
        ∧ (State.reset.port p).gapCounter = 0 ∧ (State.reset.port p).owed = 0
        ∧ (State.reset.port p).periodTimer = 0 ∧ (State.reset.port p).frame = 0
        ∧ (State.reset.port p).arrivals = [] ∧ (State.reset.port p).outbound = []
        ∧ (State.reset.port p).processing = none ∧ (State.reset.port p).heard = []
        ∧ (State.reset.port p).heardTag = none ∧ (State.reset.port p).lastEmpty = false
        ∧ (State.reset.port p).activation = [] ∧ (State.reset.port p).cursor = 0
        ∧ (State.reset.port p).changeover = ChangeoverContext.clear)
    ∧ State.reset.scrubCursor = 0 ∧ State.reset.scrubCounter = 0 ∧ State.reset.scrubInterval = 4
    ∧ State.reset.integrityCount = 0 ∧ State.reset.firstDamaged = none
    ∧ (∀ l, (State.reset.link l).queue = [] ∧ (State.reset.link l).replies = []
        ∧ (State.reset.link l).assembly = none)
    ∧ State.reset.craftIdle = 0 ∧ State.reset.lastServed = .craft

/-- The invariants of the machine hold after a hard reset, and the records agree with all that refers to them. -/
def Obligations.ResetMeetsTheInvariants : Prop :=
  State.reset.attentionTrue ∧ State.reset.integrityLatched ∧ State.reset.bounded ∧ State.reset.allVerify
    ∧ State.reset.lawful ∧ State.reset.mapsRise ∧ State.reset.oneSetDelay
    ∧ State.reset.tied

/-- Every link command is read back, with all its arguments, from the code and the argument bytes that R184 gives it, and its
argument bytes have the length of R184's table. -/
def Obligations.CommandBytesReadBack : Prop :=
  ∀ c : Command,
    parseCommand (commandBytes c).1 (commandBytes c).2 = some c
      ∧ argLength (commandBytes c).1 = some (commandBytes c).2.length

/-- A record whose fields fit the widths of R185, and whose enumerations hold codes of R184's lists, is read back from its
41-byte image. -/
def Obligations.RecordImageReadsBack : Prop :=
  ∀ r : Record,
    (∀ c, r.state ≠ .invalid c) → (∀ c, r.cause ≠ .invalid c) → (∀ c, r.levelCondition ≠ .invalid c) →
    (∀ c, r.delaySync ≠ .invalid c) →
    (∀ x, r.plot = some x → x < 65536) → r.port < 256 → (∀ x, r.preferred = some x → x < 256) → r.dropId < 256 →
    (∀ b, r.band = some b → b.dmin < 65536 ∧ b.dmax < 65536) → r.serviceClass < 256 →
    (∀ g, r.ranging = some g → g.roundTrip < 16777216 ∧ g.eqd < 16777216 ∧ g.length < 65536) →
    r.levelIndex < 256 → r.lastLevel < 256 → r.attempts < 256 → r.rounds < 256 → r.misses < 256 →
    r.failures < 256 → r.outstanding < 65536 → (∀ x, r.lastHeard = some x → x < 256) →
    r.image.length = 41 ∧ Record.ofImage r.image = r

/-- A frame that the host writes in one select period, as R183 lays it out, queues exactly its command at the tail of the host queue;
where the queue holds 4 commands it is answered LINK_FULL instead (R174, R176). A period that does not begin with the sync byte, or
ends before the tag, has no effect; a bad length, a bad check and an argument field of another length than the code's are answered
MALFORMED, and a code that no command has UNKNOWN_COMMAND. An answer that finds 8 frames on the reply path is dropped. With the period's
end no reply has been shifted out in the next.
The bytes of a select period come with its end, and the mark of a reply shifted out is the model's own (log entry 20); which byte
begins a period that straddles the pin's release is log entry 37. -/
def Obligations.HostFrameQueuesItsCommand : Prop :=
  (∀ (c : Command) (tag : Byte), ∃ check : Byte,
    commandFrame c tag =
        0xA7#8 :: BitVec.ofNat 8 ((commandBytes c).2.length + 3) :: tag :: (commandBytes c).1
          :: ((commandBytes c).2 ++ [check])
      ∧ (commandFrame c tag).foldl (fun a b => a + b) 0#8 = 0#8)
  ∧ ∀ (s : State) (answered : Byte → Status → State), s.resetHeld = false → s.host.assembly = none →
    answered = (fun tag st =>
      { s with
        host := { s.host with
          replies := if s.host.replies.length < 8 then
              s.host.replies ++ [{ tag := tag, status := st, payload := [] }]
            else s.host.replies }
        hostRead := false }) →
    (∀ (c : Command) (tag : Byte),
      (s.host.queue.length < 4 →
        exec (.hostSelectEnd (commandFrame c tag)) s = .next
          ({ s with
            host := { s.host with queue := s.host.queue ++ [{ tag := tag, command := c }] }
            hostRead := false } : State).settle)
      ∧ (4 ≤ s.host.queue.length →
        exec (.hostSelectEnd (commandFrame c tag)) s = .next (answered tag .linkFull).settle))
    ∧ ∀ bs : List Byte,
      ((bs.head? ≠ some 0xA7#8 ∨ bs.length < 3) →
        exec (.hostSelectEnd bs) s = .next ({ s with hostRead := false } : State).settle)
      ∧ (∀ len tag rest, bs = 0xA7#8 :: len :: tag :: rest → (len.toNat < 3 ∨ bs.length ≠ len.toNat + 2) →
        exec (.hostSelectEnd bs) s = .next (answered tag .malformed).settle)
      ∧ (∀ tag st, turnedAway bs tag st → exec (.hostSelectEnd bs) s = .next (answered tag st).settle)

/-! ### The links -/

/-- The craft link assembles a frame byte by byte: a byte before the last joins the frame in assembly and restarts the idle
counter, and the last one queues the command, or is answered LINK_FULL where the queue holds 4 (R175, R176). A length field below 3 makes
the frame complete with its tag and MALFORMED; a bad check and an argument field of another length than the code's are answered MALFORMED,
and a code that no command has UNKNOWN_COMMAND. An answer that finds 8 frames on the reply path is dropped.
The corners of the assembly are log entry 21. -/
def Obligations.CraftBytesAssembleAFrame : Prop :=
  (∀ (c : Command) (tag : Byte) (s : State) (before after : List Byte) (b : Byte),
    s.resetHeld = false → before ++ b :: after = commandFrame c tag →
    s.craft.assembly = (if before = [] then none else some before) → s.craft.queue.length < 4 →
    exec (.craftByteReceived b false) s = .next
      (if after = [] then
        ({ s with
          craft := { s.craft with assembly := none, queue := s.craft.queue ++ [{ tag := tag, command := c }] }
          craftIdle := 0 } : State)
      else { s with craft := { s.craft with assembly := some (before ++ [b]) }, craftIdle := 0 }).settle)
  ∧ ∀ (s : State) (before bs : List Byte) (b : Byte) (answered : Byte → Status → State),
    s.resetHeld = false → s.craft.assembly = (if before = [] then none else some before) → bs = before ++ [b] →
    bs.head? = some 0xA7#8 →
    answered = (fun tag st =>
      { s with
        craft := { s.craft with
          assembly := none
          replies := if s.craft.replies.length < 8 then
              s.craft.replies ++ [{ tag := tag, status := st, payload := [] }]
            else s.craft.replies }
        craftIdle := 0 }) →
    ((bs.length ≤ 2 ∨ ∃ len tag rest, bs = 0xA7#8 :: len :: tag :: rest ∧ 3 ≤ len.toNat ∧ bs.length < len.toNat + 2) →
      exec (.craftByteReceived b false) s = .next
        ({ s with craft := { s.craft with assembly := some bs }, craftIdle := 0 } : State).settle)
    ∧ (∀ len tag, bs = [0xA7#8, len, tag] → len.toNat < 3 →
      exec (.craftByteReceived b false) s = .next (answered tag .malformed).settle)
    ∧ (∀ tag st, turnedAway bs tag st →
      exec (.craftByteReceived b false) s = .next (answered tag st).settle)
    ∧ (∀ c tag, bs = commandFrame c tag → 4 ≤ s.craft.queue.length →
      exec (.craftByteReceived b false) s = .next (answered tag .linkFull).settle)

/-- A gap on the craft link, or a byte with a stop-bit error, ends the frame in assembly, with a MALFORMED reply when its tag has been
received, which is dropped where the reply path holds 8 frames (R175, R176); with no frame in assembly nothing happens, and the errored
byte is discarded. A byte that is not the sync byte is discarded while the link hunts.
The row ends the frame at whatever idle count it is sent, since its moment is the sender's (log entry 4); the corners of the assembly are
log entry 21. -/
def Obligations.CraftGapEndsTheFrame : Prop :=
  ∀ s : State, s.resetHeld = false →
    (s.craft.assembly = none → ∀ b : Byte, b ≠ 0xA7#8 → exec (.craftByteReceived b false) s = .next s.settle)
    ∧ ∀ (b : Byte) (i : Instr), (i = .craftIdleTimeout ∨ i = .craftByteReceived b true) →
      (s.craft.assembly = none → exec i s = .next s.settle)
      ∧ (∀ bs, s.craft.assembly = some bs → bs.length ≤ 2 →
          exec i s = .next
            ({ s with craft := { s.craft with assembly := none }, craftIdle := 0 } : State).settle)
      ∧ (∀ b0 b1 tag bs, s.craft.assembly = some (b0 :: b1 :: tag :: bs) →
          exec i s = .next
            ({ s with
              craft := { s.craft with
                assembly := none
                replies := if s.craft.replies.length < 8 then
                    s.craft.replies ++ [{ tag := tag, status := .malformed, payload := [] }]
                  else s.craft.replies }
              craftIdle := 0 } : State).settle)

/-- A reply whose last byte has left is removed from the head of its link's path, and nothing else changes but the attention output
(R174, R175, R178). Its bytes are those of R183, with the status codes counting from 0 in the order of R177's table (R184). On the host
link the idle byte follows it until the period ends, and no second reply is shifted out in the same
period; where there is no reply to shift out, nothing changes.
That a reply has been shifted out in the period is a mark of the model's own (log entry 20). -/
def Obligations.SentRepliesLeaveTheirPath : Prop :=
  (∀ f : ReplyFrame, ∃ check : Byte,
    f.bytes =
        0xA7#8 :: BitVec.ofNat 8 ((f.payload.length + 3) / 256) :: BitVec.ofNat 8 (f.payload.length + 3) :: f.tag
          :: BitVec.ofNat 8 ([Status.ok, .busy, .refusedState, .noSuchRecord, .outOfRange, .duplicate, .pinned,
            .notPermitted, .damaged, .notCalibrated, .rangedPresent, .noStranger, .notFound, .linkFull, .malformed,
            .unknownCommand].idxOf f.status)
          :: (f.payload ++ [check])
      ∧ f.bytes.foldl (fun a b => a + b) 0#8 = 0#8)
  ∧ ∀ (s : State) (f : ReplyFrame) (fs : List ReplyFrame), s.resetHeld = false →
    (s.hostRead = false → s.host.replies = f :: fs →
      s.hostShiftsOut = f.bytes
        ∧ exec .hostReplyShiftedOut s = .next
          ({ s with host := { s.host with replies := fs }, hostRead := true } : State).settle)
    ∧ ((s.hostRead = true ∨ s.host.replies = []) →
      s.hostShiftsOut = [0xFF#8] ∧ exec .hostReplyShiftedOut s = .next s.settle)
    ∧ (s.craft.replies = f :: fs →
      exec .craftReplySent s = .next ({ s with craft := { s.craft with replies := fs } } : State).settle)
    ∧ (s.craft.replies = [] → exec .craftReplySent s = .next s.settle)

/-- R177: of two links that both have a command that can be taken, the arbiter serves the one not last served; of one it takes that
one; the command leaves its queue and does what its row of the table does, which sets the last-served link and puts the reply on the
command's own link. Where no link has room for a reply, or none has a command, nothing is taken.
A row of the table that meets a full reply path waits in its link's command queue, and is dropped where that is full (log entry 2). -/
def Obligations.TheArbiterAlternates : Prop :=
  (∀ (l : Link) (q : QueuedCommand) (qs : List QueuedCommand) (s : State),
    s.ready l → (s.link l).queue = q :: qs →
    (l ≠ s.lastServed ∨ (s.link (otherLink l)).queue = [] ∨ 8 ≤ (s.link (otherLink l)).replies.length) →
    ∃ t f, exec .commandTake s = .next t
      ∧ exec (commandRow l q.tag q.command) (s.modLink l (fun k => { k with queue := qs })) = .next t
      ∧ t.lastServed = l ∧ (t.link l).queue = qs ∧ t.link (otherLink l) = s.link (otherLink l)
      ∧ (t.link l).replies = (s.link l).replies ++ [f] ∧ f.tag = q.tag)
    ∧ (∀ s : State, (∀ l, (s.link l).queue = [] ∨ 8 ≤ (s.link l).replies.length) →
      exec .commandTake s = .next s.settle)
    ∧ (∀ (l : Link) (tag : Byte) (c : Command) (s : State), s.resetHeld = false → 8 ≤ (s.link l).replies.length →
      ((s.link l).queue.length < 4 →
        exec (commandRow l tag c) s = .next
          (s.modLink l (fun k => { k with queue := k.queue ++ [{ tag := tag, command := c }] })).settle)
      ∧ (4 ≤ (s.link l).queue.length → exec (commandRow l tag c) s = .next s.settle))

/-- R172: a command that the table does not permit from the craft link in the present phase is answered NOT_PERMITTED, with no
payload and nothing else changed. -/
def Obligations.CraftLinkIsLimited : Prop :=
  ∀ (tag : Byte) (c : Command) (s : State), s.ready .craft →
    (commandPermit c = .hostOnly ∨ (commandPermit c = .crew ∧ s.phase = .service)) →
    exec (commandRow .craft tag c) s = .next (s.replied .craft tag .notPermitted [])

/-! ### Checks that record commands and port commands share -/

/-- R10 and R11: checks 2 to 5 of every record command in their order. A number above 479 and an argument out of range are answered
without a state, damage is handled and answered DAMAGED, and a state in which the command is not permitted gives
REFUSED_STATE with the state as it stands. Then checks 6 to 8 of the commands that have them: PINNED of RETIRE, REJECT, AMEND and
ADOPT and of the craft link (R14, R16, R17, R36, R172), DUPLICATE of PLAN, RESTORE and AMEND (R12, R14, R19), NO_STRANGER of ADOPT
(R17) and BUSY of REJECT (R36).
Of ADOPT the craft pin test comes before the stranger list (R172), and the stranger list before R17's own pin test (log entry 32).
The bytes of a field that AMEND does not select are not tested (log entry 38). -/
def Obligations.RecordCommandsAreChecked : Prop :=
  (∀ (l : Link) (tag : Byte) (c : Command) (r : Half) (argsOk : Bool) (states : RecState → Bool) (s : State),
    s.ready l → permitted l s.phase (commandPermit c) = true → recordDemand c = some (r, argsOk, states) →
    (480 ≤ r.toNat → exec (commandRow l tag c) s = .next (s.replied l tag .noSuchRecord []))
    ∧ (r.toNat < 480 → argsOk = false → exec (commandRow l tag c) s = .next (s.replied l tag .outOfRange []))
    ∧ (r.toNat < 480 → argsOk = true → s.verifies r.toNat = false →
        exec (commandRow l tag c) s = .next ((s.damage r.toNat).replied l tag .damaged
          [RecState.damaged.code, RecState.damaged.code, Cause.damaged.code]))
    ∧ (s.sound r → argsOk = true → states (s.record r.toNat).state = false →
        exec (commandRow l tag c) s = .next (s.replied l tag .refusedState
          [(s.record r.toNat).state.code, (s.record r.toNat).state.code, (s.record r.toNat).cause.code])))
  ∧ ∀ (l : Link) (tag : Byte) (r : Half) (s : State) (n : Nat) (c : Record) (held : NumMap → Nat → Prop)
      (refused : Status → Instr → Prop),
    s.ready l → s.sound r → n = r.toNat → c = s.record n →
    held = (fun m k => ∃ other, mapGet m k = some other ∧ other ≠ n) →
    refused = (fun st i => exec i s = .next (s.replied l tag st [c.state.code, c.state.code, c.cause.code])) →
    (c.pinned = true → l = .host → c.state ≠ .vacant → refused .pinned (.retire l tag r))
    ∧ (c.pinned = true → permitted l s.phase .crew = true → c.state = .query → refused .pinned (.reject l tag r))
    ∧ (c.pinned = true → l = .craft → s.phase = .build →
        (c.state = .barred → refused .pinned (.retry l tag r))
        ∧ (c.state = .query → refused .pinned (.confirm l tag r))
        ∧ (c.state.ranged = true → refused .pinned (.rediscover l tag r))
        ∧ (∀ x, x ≠ 0 → c.state = .expected → refused .pinned (.adopt l tag r x)))
    ∧ (∀ x e, x ≠ 0 → c.pinned = true → l = .host → c.state = .expected → s.stranger x = some e →
        (c.serial ≠ none ∨ e.port ≠ c.port) → refused .pinned (.adopt l tag r x))
    ∧ (∀ x, x ≠ 0 → permitted l s.phase .crew = true → (l = .host ∨ c.pinned = false) → c.state = .expected →
        s.stranger x = none → refused .noStranger (.adopt l tag r x))
    ∧ (permitted l s.phase .crew = true → c.state = .query → c.pinned = false →
        (s.port c.port).changeover.reference = some n → refused .busy (.reject l tag r))
    ∧ (∀ a : PlanArgs, a.record = r → planArgsOk a = true → l = .host →
        (held s.plotIndex a.plot.toNat ∨ ∃ x, givenSerial a = some x ∧ held s.serialIndex x.toNat) →
        (c.state = .vacant → refused .duplicate (.plan l tag a))
        ∧ (c.state = .damaged → refused .duplicate (.restore l tag a)))
    ∧ (∀ a : AmendArgs, a.plan.record = r → amendArgsOk a = true → l = .host → c.state ≠ .vacant → c.state ≠ .damaged →
        (c.state = .expected ∨ c.state = .barred ∨ (selects a 5 = false ∧ selects a 6 = false)) →
        (c.pinned = true → (selects a 4 = true ∨ selects a 5 = true ∨ selects a 6 = true) →
          refused .pinned (.amend l tag a))
        ∧ (c.pinned = false →
            ((selects a 4 = true ∧ held s.plotIndex a.plan.plot.toNat)
              ∨ (selects a 5 = true ∧ ∃ x, givenSerial a.plan = some x ∧ held s.serialIndex x.toNat)) →
          refused .duplicate (.amend l tag a)))

/-- R43: a port command that changes the port state is refused from the states of the table, with the port state as it stands, and a
port above 3 with no state; START on an uncalibrated port gives NOT_CALIBRATED. -/
def Obligations.PortCommandsAreChecked : Prop :=
  ∀ (tag : Byte) (c : Command) (p : Byte) (table : PortState → Option Status) (s : State),
    s.ready .host → portDemand c = some (p, table) →
    (4 ≤ p.toNat → exec (commandRow .host tag c) s = .next (s.replied .host tag .outOfRange []))
    ∧ (∀ st, p.toNat < 4 → table (s.port p.toNat).state = some st →
        exec (commandRow .host tag c) s = .next (s.replied .host tag st [(s.port p.toNat).state.code]))
    ∧ (p.toNat < 4 → c = .start p → (s.port p.toNat).state = .standby → (s.port p.toNat).calibrated = false →
        exec (commandRow .host tag c) s = .next (s.replied .host tag .notCalibrated [PortState.standby.code]))

/-! ### Shared operations -/

/-- R77: a descriptor that finds room joins the tail and is counted in the record it names; one that finds 64 is dropped and sets
OUTBOUND_OVERRUN. Nothing else changes. The count does not make a record verify that did not (log entry 6). -/
def Obligations.DescriptorsJoinOrAreDropped : Prop :=
  ∀ (s t : State) (p : Nat) (d : Descriptor), p < 4 → t = s.enqueue p d →
    ((s.port p).outbound.length < 64 →
      t.port p = { s.port p with outbound := (s.port p).outbound ++ [d] }
        ∧ (∀ r, r < 480 → d.names = some r →
            t.record r = { s.record r with outstanding := (s.record r).outstanding + 1 }
              ∧ t.verifies r = s.verifies r)
        ∧ s.recordsKept t d.names.toList)
    ∧ (64 ≤ (s.port p).outbound.length →
      t.port p = { s.port p with conditions := { (s.port p).conditions with outboundOverrun := true } }
        ∧ s.recordsKept t [])
    ∧ s.portsKept t [p] ∧ t = { s with records := t.records, ports := t.ports }

/-- R165, R166 and R169: damage handling leaves the record DAMAGED with a check word of its own, in the changed set, in no map, no index and
no activation queue, and the target of no window; what it keeps is kept as read where it lies in range; the finding is counted and the
first latched. On each port whose drop map names the record a RELEASE is queued for each of its drop ids, or dropped with OUTBOUND_OVERRUN;
a changeover that referred to it fails and its REFERENCE window is abandoned (R66, R159). Every other field of every port, and everything
else, stays as it is. -/
def Obligations.DamageHandlingTakesTheRecordOut : Prop :=
  ∀ (s t : State) (r : Nat), r < 480 → t = s.damage r →
    t.record r =
        { Record.vacant with
          state := .damaged
          cause := .damaged
          port := if (s.record r).port ≤ 3 then (s.record r).port else 0
          serviceClass := if (s.record r).serviceClass ≤ 7 then (s.record r).serviceClass else 0
          autoAdmit := (s.record r).autoAdmit
          levelIndex := if (s.record r).levelIndex ≤ 7 then (s.record r).levelIndex else 0
          levelCondition := match (s.record r).levelCondition with
            | .weak => .weak
            | .hot => .hot
            | _ => .normal
          lastLevel := if (s.record r).lastLevel ≤ 255 then (s.record r).lastLevel else 0
          outstanding := (allPorts.map (fun p => countNaming (s.port p).outbound r)).sum
          delaySync := if allPorts.any (fun p => (s.port p).outbound.contains (.setDelay r)) then .queued
            else .synced }
      ∧ t.verifies r = true ∧ t.changed = insertNumber s.changed r
      ∧ t.serialIndex = s.serialIndex.filter (fun e => e.2 ≠ r)
      ∧ t.plotIndex = s.plotIndex.filter (fun e => e.2 ≠ r)
      ∧ t.integrityCount = (if s.integrityCount < 15 then s.integrityCount + 1 else s.integrityCount)
      ∧ t.firstDamaged = (if s.integrityCount = 0 then some r else s.firstDamaged)
      ∧ (∀ (p : Nat) (q freed : Port) (ds : List Nat) (referenceOpen : Prop), p < 4 → q = s.port p →
          ds = (q.dropMap.filter (fun e => e.2 == r)).map (fun e => e.1) →
          freed =
            { q.offered (ds.map (Descriptor.release p)) with
              dropMap := q.dropMap.filter (fun e => !ds.contains e.1)
              activation := q.activation.filter (fun e => e.record ≠ r)
              window := q.window.map (fun w => if w.target = some r then { w with target := none } else w) } →
          referenceOpen = (∃ w, q.window = some w ∧ w.kind = .reference) →
          (∀ d, (d, r) ∉ (t.port p).dropMap)
            ∧ (q.changeover.reference ≠ some r → t.port p = freed)
            ∧ (q.changeover.reference = some r →
                (referenceOpen → (t.port p).window = none ∧ (t.port p).gapCounter = 0)
                  ∧ (¬ referenceOpen → (t.port p).window = freed.window ∧ (t.port p).gapCounter = q.gapCounter)
                  ∧ t.port p =
                    { freed with
                      state := .run
                      feed := q.changeover.previousFeed.getD q.feed
                      changeover := { q.changeover with reference := none, previousFeed := none, windows := 0 }
                      conditions := { freed.conditions with changeoverFailed := true }
                      window := (t.port p).window
                      gapCounter := (t.port p).gapCounter }))
      ∧ s.recordsKept t [r]
      ∧ t =
          { s with
            records := t.records
            ports := t.ports
            serialIndex := t.serialIndex
            plotIndex := t.plotIndex
            changed := t.changed
            integrityCount := t.integrityCount
            firstDamaged := t.firstDamaged }

/-- R28: allocation takes the preferred drop id when it is free, otherwise the lowest free one of 1..126, and fails when none is
free. -/
def Obligations.AllocationTakesPreferredThenLowest : Prop :=
  ∀ (s : State) (p : Nat) (pref : Option Nat),
    (∀ d, pref = some d → s.dropFree p d = true → s.allocate p pref = some d)
    ∧ ((∀ d, pref = some d → s.dropFree p d = false) →
        (∀ d, s.allocate p pref = some d ↔
          1 ≤ d ∧ d ≤ 126 ∧ s.dropFree p d = true ∧ ∀ d', 1 ≤ d' → d' < d → s.dropFree p d' = false)
        ∧ (s.allocate p pref = none ↔ ∀ d, 1 ≤ d → d ≤ 126 → s.dropFree p d = false))

/-- R13 and R89: the naming of an EXPECTED record: DEFERRED where the activation queue holds 8 entries, PORT_FULL where no drop id is free,
and otherwise the drop id, the initial level index, NAMED, a NAME and an entry at the tail. -/
def Obligations.NamingGivesADropId : Prop :=
  ∀ (s t : State) (p r : Nat) (cause : Cause) (heard : Option Bool), p < 4 → r < 480 → s.verifies r = true →
    t = s.nameExpected p r cause heard →
    (8 ≤ (s.port p).activation.length → t = s.flag p (fun c => { c with deferred := true }))
    ∧ ((s.port p).activation.length < 8 → s.allocate p (s.record r).preferred = none →
      t = s.flag p (fun c => { c with portFull := true }))
    ∧ (∀ d, (s.port p).activation.length < 8 → s.allocate p (s.record r).preferred = some d →
      t.record r =
          { s.record r with
            state := .named
            cause := cause
            dropId := d
            levelable := if heard.isSome then heard else (s.record r).levelable
            levelIndex := (s.port p).config.initIndex
            attempts := 0
            rounds := 0
            lastHeard := none
            outstanding := (s.record r).outstanding + (if (s.port p).outbound.length < 64 then 1 else 0) }
        ∧ t.verifies r = true
        ∧ t.port p =
            { (s.port p).offered [.name r] with
              dropMap := mapPut (s.port p).dropMap d r
              activation := (s.port p).activation ++ [{ record := r, phase := .awaitEcho }] }
        ∧ s.recordsKept t [r] ∧ s.portsKept t [p]
        ∧ t = { s with records := t.records, ports := t.ports, changed := insertNumber s.changed r })

/-- R66: abandonment removes the window and sets the gap counter to 0, with the effect on the owner that the kind has. An ECHO or VERIFY
window without a target, or whose target has no entry in the open phase, has no owner to return to. A record that goes back to NAMED
verifies afterwards exactly when it did before (log entry 6). -/
def Obligations.AbandonmentReturnsTheOwner : Prop :=
  ∀ (s t gone : State) (p : Nat) (w : OpenWindow), p < 4 → (s.port p).window = some w → t = s.abandon p →
    gone = s.modPort p (fun q => { q with window := none, gapCounter := 0 }) →
    (w.kind = .invite → t = gone.modPort p (fun q => { q with arrivals := [], discoveryTimer := 0 }))
      ∧ (w.kind = .loop → t = gone.modPort p (fun q => { q with calibration := [] }))
      ∧ ((w.kind = .upkeep ∨ w.kind = .reference) → t = gone)
      ∧ (∀ r, r < 480 → w.kind = .echo → w.target = some r → s.phaseOf p r = some .echoOpen →
          t.record r = { s.record r with state := .named } ∧ t.verifies r = s.verifies r
            ∧ t.port p = { gone.port p with
                activation := (s.port p).activation.map (fun e =>
                  if e.record = r then { e with phase := .awaitEcho } else e) }
            ∧ s.recordsKept t [r] ∧ s.portsKept t [p]
            ∧ t = { s with records := t.records, ports := t.ports, changed := insertNumber s.changed r })
      ∧ (∀ r, w.kind = .verify → w.target = some r → s.phaseOf p r = some .verifyOpen →
          t = gone.modPort p (fun q =>
            { q with activation := q.activation.map (fun e =>
                if e.record = r then { e with phase := .awaitVerify } else e) }))
      ∧ ((w.kind = .echo ∨ w.kind = .verify) → w.target = none → t = gone)
      ∧ (∀ r, w.target = some r →
          ((w.kind = .echo ∧ s.phaseOf p r ≠ some .echoOpen) ∨ (w.kind = .verify ∧ s.phaseOf p r ≠ some .verifyOpen)) →
          t = gone)

/-- R126: an activation failure releases the drop id, removes the entry and counts a failure; the third makes the record BARRED.
The record verifies afterwards exactly when it did before (log entry 6), and keeps its last heard port (log entry 33). -/
def Obligations.ActivationFailureReleasesTheDrop : Prop :=
  ∀ (s t : State) (p r : Nat) (cause : Cause), p < 4 → r < 480 → (s.record r).port = p → (s.record r).dropId ≠ 0 →
    t = s.failActivation p r cause →
    t.record r =
        { s.record r with
          state := if (s.record r).failures + 1 = 3 then .barred else .expected
          cause := if (s.record r).failures + 1 = 3 then .barred else cause
          failures := (s.record r).failures + 1
          dropId := 0
          ranging := none
          delaySync := match (s.record r).delaySync with
            | .waiting => .synced
            | d => d }
      ∧ t.verifies r = s.verifies r
      ∧ t.port p =
          { (s.port p).offered [.release p (s.record r).dropId] with
            dropMap := mapErase (s.port p).dropMap (s.record r).dropId
            activation := (s.port p).activation.filter (fun e => e.record ≠ r) }
      ∧ s.recordsKept t [r] ∧ s.portsKept t [p]
      ∧ t = { s with records := t.records, ports := t.ports, changed := insertNumber s.changed r }

/-- R124: an attempt failure that is not the third names the terminal again from the tail of the queue; the third fails the
activation with the cause of its kind (R126). A record named again keeps its last heard port (log entry 33), and verifies
afterwards exactly when it did before (log entry 6). -/
def Obligations.AttemptFailureNamesAgain : Prop :=
  ∀ (s t : State) (p r : Nat) (cause : Cause), p < 4 → r < 480 → t = s.attemptFailure p r cause →
    ((s.record r).attempts + 1 < 3 →
      t.record r =
          { s.record r with
            state := .named
            attempts := (s.record r).attempts + 1
            ranging := none
            delaySync := match (s.record r).delaySync with
              | .waiting => .synced
              | d => d
            outstanding := (s.record r).outstanding + (if (s.port p).outbound.length < 64 then 1 else 0) }
        ∧ t.verifies r = s.verifies r
        ∧ t.port p =
            { (s.port p).offered [.name r] with
              activation :=
                (s.port p).activation.filter (fun e => e.record ≠ r) ++ [{ record := r, phase := .awaitEcho }] }
        ∧ s.recordsKept t [r] ∧ s.portsKept t [p]
        ∧ t = { s with records := t.records, ports := t.ports, changed := insertNumber s.changed r })
    ∧ (3 ≤ (s.record r).attempts + 1 →
      t = (s.modRecord r (fun c => { c with attempts := c.attempts + 1 })).failActivation p r cause)

/-! ### Record commands -/

/-- R12 and R19: PLAN of a VACANT record and RESTORE of a DAMAGED one, with no serial or with one that no stranger holds: the plan's fields,
EXPECTED, and both indexes entered.
A link command's row is carried out when it is sent (log entry 1). -/
def Obligations.PlanAndRestoreFillTheRecord : Prop :=
  ∀ (restore : Bool) (tag : Byte) (a : PlanArgs) (s : State),
    s.ready .host → s.sound a.record → planArgsOk a = true →
    (s.record a.record.toNat).state = (if restore then .damaged else .vacant) →
    heldByOther s.plotIndex a.plot.toNat a.record.toNat = false →
    (∀ x, givenSerial a = some x →
      heldByOther s.serialIndex x.toNat a.record.toNat = false ∧ s.stranger x = none) →
    exec (if restore then .restore .host tag a else .plan .host tag a) s = .next
      (({ (s.freshRecord a.record.toNat
            { state := .expected
              plot := some a.plot.toNat
              port := a.port.toNat
              serial := givenSerial a
              preferred := givenPreferred a
              dropId := 0
              band := givenBand a
              serviceClass := a.serviceClass.toNat
              autoAdmit := a.autoAdmit == 1#8
              pinned := false
              levelable := none
              ranging := none
              levelIndex := 0
              levelCondition := .normal
              lastLevel := 0
              attempts := 0
              rounds := 0
              misses := 0
              failures := 0
              delaySync := (s.record a.record.toNat).delaySync
              outstanding := (s.record a.record.toNat).outstanding
              lastHeard := none
              cause := if restore then .restored else .planned }).noteChanged a.record.toNat with
          plotIndex := mapPut s.plotIndex a.plot.toNat a.record.toNat
          serialIndex := match givenSerial a with
            | some x => mapPut s.serialIndex x.toNat a.record.toNat
            | none => s.serialIndex } : State).replied .host tag .ok
        [if restore then RecState.damaged.code else RecState.vacant.code, RecState.expected.code,
          if restore then Cause.restored.code else Cause.planned.code])

/-- R12, R13 and R19: with a serial of the stranger list, PLAN and RESTORE adopt it: the record takes the entry's port and levelable flag,
the entry leaves the list, and on a port in RUN the record is named at once. -/
def Obligations.PlanAndRestoreAdoptAStranger : Prop :=
  ∀ (restore : Bool) (tag : Byte) (a : PlanArgs) (x : Serial) (e : Stranger) (s base t : State),
    s.ready .host → s.sound a.record → planArgsOk a = true →
    (s.record a.record.toNat).state = (if restore then .damaged else .vacant) →
    heldByOther s.plotIndex a.plot.toNat a.record.toNat = false → givenSerial a = some x →
    heldByOther s.serialIndex x.toNat a.record.toNat = false → s.stranger x = some e →
    base = { (s.freshRecord a.record.toNat
        { Record.vacant with
          state := .expected
          plot := some a.plot.toNat
          port := e.port
          serial := some x
          preferred := givenPreferred a
          band := givenBand a
          serviceClass := a.serviceClass.toNat
          autoAdmit := a.autoAdmit == 1#8
          levelable := some e.levelable
          delaySync := (s.record a.record.toNat).delaySync
          outstanding := (s.record a.record.toNat).outstanding
          cause := if restore then .restored else .adopted }).noteChanged a.record.toNat with
      plotIndex := mapPut s.plotIndex a.plot.toNat a.record.toNat
      serialIndex := mapPut s.serialIndex x.toNat a.record.toNat
      strangers := s.strangers.filter (fun y => y.serial != x) } →
    t = (if (s.port e.port).state = .run
      then base.nameExpected e.port a.record.toNat (if restore then .restored else .named) none else base) →
    exec (if restore then .restore .host tag a else .plan .host tag a) s = .next (t.replied .host tag .ok
      [if restore then RecState.damaged.code else RecState.vacant.code,
        (t.record a.record.toNat).state.code, (t.record a.record.toNat).cause.code])

/-- R14 and R15: an accepted AMEND changes all its selected fields together, lets the indexes and the stranger list follow, and
resolves a QUERY record whose new band holds its length (a selected field counts as changed: log entry 14; the bytes of the others are
not tested: log entry 38). -/
def Obligations.AmendChangesItsSelection : Prop :=
  ∀ (tag : Byte) (a : AmendArgs) (s base t : State) (n : Nat) (c c' : Record),
    s.ready .host → s.sound a.plan.record → amendArgsOk a = true → n = a.plan.record.toNat → c = s.record n →
    c.state ≠ .vacant → c.state ≠ .damaged →
    (c.state = .expected ∨ c.state = .barred ∨ (selects a 5 = false ∧ selects a 6 = false)) →
    (c.pinned = false ∨ (selects a 4 = false ∧ selects a 5 = false ∧ selects a 6 = false)) →
    (selects a 4 = true → heldByOther s.plotIndex a.plan.plot.toNat n = false) →
    (selects a 5 = true → ∀ x, givenSerial a.plan = some x → heldByOther s.serialIndex x.toNat n = false) →
    c' = { c with
      serviceClass := if selects a 0 then a.plan.serviceClass.toNat else c.serviceClass
      autoAdmit := if selects a 1 then a.plan.autoAdmit == 1#8 else c.autoAdmit
      band := if selects a 2 then givenBand a.plan else c.band
      preferred := if selects a 3 then givenPreferred a.plan else c.preferred
      plot := if selects a 4 then some a.plan.plot.toNat else c.plot
      serial := if selects a 5 then givenSerial a.plan else c.serial
      levelable := if selects a 5 then none else c.levelable
      port := if selects a 6 then a.plan.port.toNat else c.port
      lastHeard := if selects a 6 then none else c.lastHeard
      cause := .amended } →
    base = { (s.freshRecord n c').noteChanged n with
      plotIndex :=
        if selects a 4 then
          mapPut (match c.plot with
            | some q => mapErase s.plotIndex q
            | none => s.plotIndex) a.plan.plot.toNat n
        else s.plotIndex
      serialIndex :=
        if selects a 5 then
          match c.serial, givenSerial a.plan with
          | none, none => s.serialIndex
          | some y, none => mapErase s.serialIndex y.toNat
          | none, some x => mapPut s.serialIndex x.toNat n
          | some y, some x => mapPut (mapErase s.serialIndex y.toNat) x.toNat n
        else s.serialIndex
      strangers :=
        match selects a 5, givenSerial a.plan with
        | true, some x => s.strangers.filter (fun y => y.serial != x)
        | _, _ => s.strangers } →
    t = (if selects a 2 = true ∧ c.state = .query ∧ insideBand (givenBand a.plan) c.dropLength = true then
        if c'.autoAdmit then
          (base.freshRecord n { c' with state := .active, cause := .activated }).enqueue c.port (.openDrop n)
        else base.freshRecord n { c' with state := .ready, cause := .activated }
      else base) →
    exec (.amend .host tag a) s = .next
      (t.replied .host tag .ok [c.state.code, (t.record n).state.code, (t.record n).cause.code])

/-- R16: RETIRE empties a record but for what its queued descriptors still owe, releases its drop id, and takes it out of the
indexes, the activation queue and the windows; a changeover that referred to it fails, back to
its previous feed, and its REFERENCE window is abandoned (R66, R159). A RELEASE that finds 64 descriptors is dropped with OUTBOUND_OVERRUN
(R77). -/
def Obligations.RetireEmptiesTheRecord : Prop :=
  ∀ (tag : Byte) (r : Half) (s : State) (n : Nat) (c : Record),
    s.ready .host → s.sound r → n = r.toNat → c = s.record n → c.state ≠ .vacant → c.pinned = false → c.port < 4 →
    ∃ t, exec (.retire .host tag r) s = .next t
      ∧ t.record n =
          { Record.vacant with
            outstanding := c.outstanding
            delaySync := if s.setDelayQueued allPorts n then .queued else .synced }
      ∧ t.verifies n = true
      ∧ (∀ (p : Nat) (q freed : Port) (referenceOpen : Prop), p < 4 → q = s.port p →
          freed =
            { q.offered (if p = c.port ∧ c.dropId ≠ 0 then [.release p c.dropId] else []) with
              dropMap := if p = c.port ∧ c.dropId ≠ 0 then mapErase q.dropMap c.dropId else q.dropMap
              activation := if p = c.port then q.activation.filter (fun e => e.record ≠ n) else q.activation
              window := q.window.map (fun w => if w.target = some n then { w with target := none } else w) } →
          referenceOpen = (∃ w, q.window = some w ∧ w.kind = .reference) →
          (q.changeover.reference ≠ some n → t.port p = freed)
            ∧ (q.changeover.reference = some n →
                (referenceOpen → (t.port p).window = none ∧ (t.port p).gapCounter = 0)
                  ∧ (¬ referenceOpen → (t.port p).window = freed.window ∧ (t.port p).gapCounter = q.gapCounter)
                  ∧ t.port p =
                    { freed with
                      state := .run
                      feed := q.changeover.previousFeed.getD q.feed
                      changeover := { q.changeover with reference := none, previousFeed := none, windows := 0 }
                      conditions := { freed.conditions with changeoverFailed := true }
                      window := (t.port p).window
                      gapCounter := (t.port p).gapCounter }))
      ∧ s.recordsKept t [n]
      ∧ t =
          { s with
            records := t.records
            ports := t.ports
            changed := insertNumber s.changed n
            serialIndex := match c.serial with
              | some x => mapErase s.serialIndex x.toNat
              | none => s.serialIndex
            plotIndex := match c.plot with
              | some x => mapErase s.plotIndex x
              | none => s.plotIndex
            host := { s.host with replies := s.host.replies ++
              [{ tag := tag, status := .ok, payload := [c.state.code, RecState.vacant.code, Cause.retired.code] }] }
            lastServed := .host
            attention := t.attention }

/-- R17: ADOPT gives a stranger's serial, port and levelable flag to an EXPECTED record, and on a port in RUN the record is named at
once. A pinned record is adopted by the host alone, as an open plot on the stranger's own port. -/
def Obligations.AdoptGivesTheStrangersSerial : Prop :=
  ∀ (l : Link) (tag : Byte) (r : Half) (x : Serial) (e : Stranger) (s base t : State) (n : Nat) (c : Record),
    s.ready l → permitted l s.phase .crew = true → s.sound r → x ≠ 0 → n = r.toNat → c = s.record n →
    c.state = .expected → s.stranger x = some e →
    (c.pinned = false ∨ (l = .host ∧ c.serial = none ∧ e.port = c.port)) →
    base = { (s.freshRecord n { c with
        serial := some x
        port := e.port
        levelable := some e.levelable
        lastHeard := none
        cause := .adopted }).noteChanged n with
      serialIndex := mapPut (match c.serial with
        | some y => mapErase s.serialIndex y.toNat
        | none => s.serialIndex) x.toNat n
      strangers := s.strangers.filter (fun y => y.serial != x) } →
    t = (if (s.port e.port).state = .run then base.nameExpected e.port n .named none else base) →
    exec (.adopt l tag r x) s = .next (t.replied l tag .ok
      [RecState.expected.code, (t.record n).state.code, (t.record n).cause.code])

/-- R18 and R20: RETRY makes a BARRED record EXPECTED with failures 0 and enters it in the changed set; PIN and UNPIN set and clear the
pinned flag and do not. -/
def Obligations.RetryPinAndUnpin : Prop :=
  ∀ (l : Link) (tag : Byte) (r : Half) (s : State) (n : Nat) (c : Record),
    s.ready l → s.sound r → n = r.toNat → c = s.record n →
    (c.state = .barred → permitted l s.phase .crew = true → (l = .host ∨ c.pinned = false) →
      exec (.retry l tag r) s = .next
        (((s.freshRecord n { c with state := .expected, failures := 0, cause := .retried }).noteChanged n).replied
          l tag .ok [RecState.barred.code, RecState.expected.code, Cause.retried.code]))
    ∧ (c.state ≠ .vacant → c.state ≠ .damaged → l = .host →
      exec (.pin l tag r) s = .next ((s.freshRecord n { c with pinned := true }).replied l tag .ok
        [c.state.code, c.state.code, c.cause.code])
      ∧ exec (.unpin l tag r) s = .next ((s.freshRecord n { c with pinned := false }).replied l tag .ok
        [c.state.code, c.state.code, c.cause.code]))

/-- R35, R37, R38: CONFIRM settles a QUERY record as ACTIVE with an OPEN, or as READY; ADMIT makes a READY record ACTIVE with an OPEN;
SUSPEND makes an ACTIVE record READY with a SHUT. -/
def Obligations.AdmissionCommandsMoveTheRecord : Prop :=
  ∀ (l : Link) (tag : Byte) (r : Half) (s : State) (n : Nat) (c : Record),
    s.ready l → s.sound r → n = r.toNat → c = s.record n →
    (c.state = .query → permitted l s.phase .crew = true → (l = .host ∨ c.pinned = false) → c.autoAdmit = true →
      exec (.confirm l tag r) s = .next
        ((((s.freshRecord n { c with state := .active, cause := .confirmed }).noteChanged n).enqueue c.port
          (.openDrop n)).replied l tag .ok [RecState.query.code, RecState.active.code, Cause.confirmed.code]))
    ∧ (c.state = .query → permitted l s.phase .crew = true → (l = .host ∨ c.pinned = false) →
        c.autoAdmit = false →
      exec (.confirm l tag r) s = .next
        (((s.freshRecord n { c with state := .ready, cause := .confirmed }).noteChanged n).replied l tag .ok
          [RecState.query.code, RecState.ready.code, Cause.confirmed.code]))
    ∧ (c.state = .ready → l = .host →
      exec (.admitDrop l tag r) s = .next
        ((((s.freshRecord n { c with state := .active, cause := .admitted }).noteChanged n).enqueue c.port
          (.openDrop n)).replied l tag .ok [RecState.ready.code, RecState.active.code, Cause.admitted.code]))
    ∧ (c.state = .active → l = .host →
      exec (.suspend l tag r) s = .next
        ((((s.freshRecord n { c with state := .ready, cause := .suspended }).noteChanged n).enqueue c.port
          (.shut n)).replied l tag .ok [RecState.active.code, RecState.ready.code, Cause.suspended.code]))

/-- R36: REJECT releases the drop id, moves the serial to the tail of the stranger list, and leaves an EXPECTED open plot; NEW_STRANGER
is not set. -/
def Obligations.RejectDisownsTheTerminal : Prop :=
  ∀ (l : Link) (tag : Byte) (r : Half) (x : Serial) (s : State) (n : Nat) (c : Record),
    s.ready l → permitted l s.phase .crew = true → s.sound r → n = r.toNat → c = s.record n → c.state = .query →
    c.pinned = false → (s.port c.port).changeover.reference ≠ some n → c.port < 4 → c.dropId ≠ 0 →
    c.serial = some x →
    ∃ t, exec (.reject l tag r) s = .next t
      ∧ t.record n =
          { c with
            state := .expected
            cause := .rejected
            dropId := 0
            serial := none
            levelable := none
            ranging := none
            lastHeard := none
            misses := 0
            attempts := 0
            rounds := 0
            delaySync := if s.setDelayQueued allPorts n then .queued else .synced }
      ∧ t.verifies n = true
      ∧ (∀ p, p < 4 →
          t.port p =
            { (s.port p).offered (if p = c.port then [.release p c.dropId] else []) with
              dropMap := if p = c.port then mapErase (s.port p).dropMap c.dropId else (s.port p).dropMap
              window := (s.port p).window.map (fun w =>
                if w.target = some n then { w with target := none } else w) })
      ∧ s.recordsKept t [n]
      ∧ (t.link l).replies = (s.link l).replies ++
          [{ tag := tag, status := .ok,
             payload := [RecState.query.code, RecState.expected.code, Cause.rejected.code] }]
      ∧ t.modLink l (fun k => { k with replies := (s.link l).replies }) =
          { s with
            records := t.records
            ports := t.ports
            changed := insertNumber s.changed n
            serialIndex := mapErase s.serialIndex x.toNat
            strangers := (if s.strangers.length < 16 then s.strangers else s.strangers.drop 1) ++
              [{ serial := x, port := c.port, levelable := c.levelable.getD false, sightings := 1,
                 lastFrame := (s.port c.port).frame }]
            lastServed := l
            attention := t.attention }

/-- R129: REDISCOVER sends a ranged record back to its first window with its drop id, a SHUT ahead of the NAME where it was ACTIVE; it is
refused with BUSY where the activation queue is full or the record is a changeover's reference. Its last heard port is kept (log entry
33). -/
def Obligations.RediscoverStartsAgain : Prop :=
  ∀ (l : Link) (tag : Byte) (r : Half) (s : State) (n p : Nat) (c : Record) (named : List Descriptor),
    s.ready l → permitted l s.phase .crew = true → s.sound r → n = r.toNat → c = s.record n → p = c.port → p < 4 →
    c.state.ranged = true → (l = .host ∨ c.pinned = false) →
    named = (if c.state = .active then [.shut n] else []) ++ [.name n] →
    (((s.port p).activation.length < 8 ∧ (s.port p).changeover.reference ≠ some n) →
      ∃ t, exec (.rediscover l tag r) s = .next t
        ∧ t.record n =
            { c with
              state := .named
              cause := .restarted
              ranging := none
              delaySync := match c.delaySync with
                | .waiting => .synced
                | d => d
              attempts := 0
              rounds := 0
              misses := 0
              outstanding := c.outstanding + min named.length (64 - (s.port p).outbound.length) }
        ∧ t.verifies n = true
        ∧ t.port p =
            { (s.port p).offered named with
              activation := (s.port p).activation ++ [{ record := n, phase := .awaitEcho }] }
        ∧ s.recordsKept t [n] ∧ s.portsKept t [p]
        ∧ (t.link l).replies = (s.link l).replies ++
            [{ tag := tag, status := .ok, payload := [c.state.code, RecState.named.code, Cause.restarted.code] }]
        ∧ t.modLink l (fun k => { k with replies := (s.link l).replies }) =
            { s with
              records := t.records
              ports := t.ports
              changed := insertNumber s.changed n
              lastServed := l
              attention := t.attention })
    ∧ ((8 ≤ (s.port p).activation.length ∨ (s.port p).changeover.reference = some n) →
      exec (.rediscover l tag r) s = .next (s.replied l tag .busy [c.state.code, c.state.code, c.cause.code]))

/-! ### Port commands -/

/-- R44, R46, R52, R71: PORT ENABLE, START and CALIBRATE change the port state as R42's table says and nothing else of the port but the
discovery timer at START and the calibration context at CALIBRATE; SWEEP sets the due flag, and is refused for a port above 3 and in DOWN
(no payload: log entry 17). -/
def Obligations.PortsAreEnabledStartedAndCalibrated : Prop :=
  (∀ (l : Link) (tag p : Byte) (s : State), s.ready l → permitted l s.phase .crew = true →
    (4 ≤ p.toNat → exec (.sweep l tag p) s = .next (s.replied l tag .outOfRange []))
    ∧ (p.toNat < 4 → (s.port p.toNat).state = .down →
      exec (.sweep l tag p) s = .next (s.replied l tag .refusedState []))
    ∧ (p.toNat < 4 → (s.port p.toNat).state ≠ .down →
      exec (.sweep l tag p) s = .next
        ((s.modPort p.toNat (fun q => { q with due := true })).replied l tag .ok
          [(s.port p.toNat).state.code, 1#8])))
  ∧ ∀ (tag p : Byte) (s : State), s.ready .host → p.toNat < 4 →
    ((s.port p.toNat).state = .down →
      exec (.portEnable .host tag p) s = .next
        ((s.modPort p.toNat (fun q => { q with state := .standby })).replied .host tag .ok
          [PortState.down.code, PortState.standby.code]))
    ∧ ((s.port p.toNat).state = .standby → (s.port p.toNat).calibrated = true →
      exec (.start .host tag p) s = .next
        ((s.modPort p.toNat (fun q => { q with state := .run, discoveryTimer := 0 })).replied .host tag .ok
          [PortState.standby.code, PortState.run.code]))
    ∧ ((s.port p.toNat).state = .standby →
      exec (.calibrate .host tag p) s = .next
        ((s.modPort p.toNat (fun q => { q with state := .calibrating, calibration := [] })).replied .host tag .ok
          [PortState.standby.code, PortState.calibrating.code]))

/-- R47 and R55: STOP abandons the open window and takes the port to STANDBY with its reports and its due flag gone; a calibration
that it ends has failed. -/
def Obligations.StopTakesThePortToStandby : Prop :=
  ∀ (tag p : Byte) (s : State), s.ready .host → p.toNat < 4 →
    ((s.port p.toNat).state = .run ∨ (s.port p.toNat).state = .calibrating) →
    exec (.stop .host tag p) s = .next
      (((s.abandon p.toNat).modPort p.toNat (fun q =>
        { q with
          state := .standby
          due := false
          arrivals := []
          processing := none
          heard := []
          heardTag := none
          calibration := []
          conditions := { q.conditions with
            calibrationFailed :=
              q.conditions.calibrationFailed || (s.port p.toNat).state == .calibrating } })).replied
        .host tag .ok [(s.port p.toNat).state.code, PortState.standby.code])

/-- R45: PORT DISABLE of a port whose drop map and records agree and verify: every record with a drop id on it becomes EXPECTED with cause
PORT_DOWN, and its map, queues, reports, owed count and cursor are empty. A record that only loses descriptors keeps all but its
outstanding count, and one that loses its SET DELAY waits for another or gets it on its own port (R79, R80), unless yet another
port's queue holds one for it (R76). The changed set gains the records that become EXPECTED, and no others (R5).
Which records the command visits, and when, is log entry 11. -/
def Obligations.PortDisableEndsService : Prop :=
  ∀ (tag b : Byte) (s : State) (p : Nat) (others : List Nat) (away : Nat → Prop) (left served : Nat → List Nat),
    s.ready .host → p = b.toNat → p < 4 → (s.port p).state = .standby → s.allVerify →
    (∀ d r, (d, r) ∈ (s.port p).dropMap →
      r < 480 ∧ d ≠ 0 ∧ (s.record r).port = p ∧ (s.record r).dropId = d) →
    (∀ r, r < 480 → (s.record r).port ≤ 3
      ∧ ((s.record r).dropId = 0 → (s.record r).ranging = none ∧ (s.record r).delaySync ≠ .waiting)) →
    others = allPorts.filter (fun x => x != p) →
    away = (fun r => r < 480 ∧ ((s.record r).port ≠ p ∨ (s.record r).dropId = 0)) →
    left = (fun x => (List.range 480).filter (fun r =>
      (s.record r).port == x && decide (0 < countNaming (s.port p).outbound r) && !s.setDelayQueued others r
        && (if (s.port p).outbound.contains (.setDelay r) then (s.record r).ranging.isSome
          else (s.record r).delaySync == .waiting))) →
    served = (fun x => (left x).take (64 - (s.port x).outbound.length)) →
    ∃ t, exec (.portDisable .host tag b) s = .next t
      ∧ t.port p =
          { s.port p with
            state := .down
            arrivals := []
            processing := none
            heard := []
            heardTag := none
            activation := []
            outbound := []
            owed := 0
            cursor := 0
            dropMap := [] }
      ∧ (∀ x, x < 4 → x ≠ p →
          t.port x = { s.port x with outbound := (s.port x).outbound ++ (served x).map Descriptor.setDelay })
      ∧ (∀ r, r < 480 → (s.record r).port = p → (s.record r).dropId ≠ 0 →
          t.record r =
              { s.record r with
                state := .expected
                cause := .portDown
                dropId := 0
                ranging := none
                attempts := 0
                rounds := 0
                misses := 0
                outstanding := s.queuedNaming others r
                delaySync := if s.setDelayQueued others r then .queued else .synced })
      ∧ (∀ n, n ∈ t.changed ↔
          n ∈ s.changed ∨ (n < 480 ∧ (s.record n).port = p ∧ (s.record n).dropId ≠ 0))
      ∧ (∀ r, away r → countNaming (s.port p).outbound r = 0 → t.stored r = s.stored r)
      ∧ (∀ r, away r → r ∈ served (s.record r).port →
          t.record r =
            { s.record r with
              outstanding := (s.record r).outstanding - countNaming (s.port p).outbound r + 1
              delaySync := .queued })
      ∧ (∀ r, away r → r ∉ served (s.record r).port →
          t.record r =
            { s.record r with
              outstanding := (s.record r).outstanding - countNaming (s.port p).outbound r
              delaySync :=
                if (s.port p).outbound.contains (.setDelay r) then
                  if (s.record r).ranging.isSome then .waiting else .synced
                else (s.record r).delaySync })
      ∧ t.allVerify
      ∧ t =
          { s with
            records := t.records
            ports := t.ports
            changed := t.changed
            host := { s.host with replies := s.host.replies ++
              [{ tag := tag, status := .ok, payload := [PortState.standby.code, PortState.down.code] }] }
            lastServed := .host
            attention := t.attention }

/-- R43, R49 to R51: an accepted PORT CONFIGURE sets the items of its selection together, and no other, with k where the initial spread
exponent is set, and answers the configuration and the feed as they then stand. Refused are a port above 3, an empty selection, an item
out of its range and a failed cross-check with OUT_OF_RANGE, a port that works with BUSY, and a change of Teq, TR or feed while a record
of the port holds a round trip with RANGED_PRESENT. The selection bit of each item and its bytes are those of R184; the order of the
checks is log entry 32, and that the bytes of an item that is not selected are not tested is log entry 38. -/
def Obligations.PortConfigureSetsItsSelection : Prop :=
  ∀ (tag : Byte) (a : ConfigArgs) (s : State) (q : Port) (item : Nat → Nat → Nat → Nat) (set : PortConfig) (feed : Feed)
      (good changed : Prop),
    s.ready .host → q = s.port a.port.toNat →
    item = (fun bit given held => if a.selection.getLsbD bit then given else held) →
    set =
      { teq := item 0 a.teq.toNat q.config.teq
        tr := item 1 a.tr.toNat q.config.tr
        lo := item 2 a.lo.toNat q.config.lo
        hi := item 3 a.hi.toNat q.config.hi
        floor := item 4 a.floor.toNat q.config.floor
        ceiling := item 5 a.ceiling.toNat q.config.ceiling
        initIndex := item 6 a.initIndex.toNat q.config.initIndex
        mode := if a.selection.getLsbD 7 then
            if a.mode = 0#8 then .off else if a.mode = 1#8 then .planned else .always
          else q.config.mode
        interval := item 8 a.interval.toNat q.config.interval
        initSpread := item 9 a.spread.toNat q.config.initSpread
        period := item 10 a.period.toNat q.config.period
        hold := item 11 a.hold.toNat q.config.hold
        limit := item 12 a.limit.toNat q.config.limit
        gap := item 13 a.gap.toNat q.config.gap } →
    feed = (if a.selection.getLsbD 14 then if a.feed = 0#8 then .a else .b else q.feed) →
    (good ↔
      (0 < a.selection.toNat ∧ a.selection.toNat < 32768)
        ∧ (a.selection.getLsbD 7 = true → a.mode.toNat ≤ 2) ∧ (a.selection.getLsbD 14 = true → a.feed.toNat ≤ 1)
        ∧ (1 ≤ set.teq ∧ set.teq ≤ 240000) ∧ (20000 ≤ set.tr ∧ set.tr ≤ 40000) ∧ (set.lo < set.hi ∧ set.hi ≤ 255)
        ∧ set.floor ≤ set.lo ∧ (set.hi ≤ set.ceiling ∧ set.ceiling ≤ 255) ∧ set.initIndex ≤ 7
        ∧ (16 ≤ set.interval ∧ set.interval ≤ 4096) ∧ set.initSpread ≤ 6 ∧ (8 ≤ set.period ∧ set.period ≤ 65535)
        ∧ set.hold ≤ 8 ∧ (set.hold < set.limit ∧ set.limit ≤ 256) ∧ set.gap ≤ 8) →
    (changed ↔ set.teq ≠ q.config.teq ∨ set.tr ≠ q.config.tr ∨ feed ≠ q.feed) →
    (4 ≤ a.port.toNat → exec (.portConfigure .host tag a) s = .next (s.replied .host tag .outOfRange []))
    ∧ (a.port.toNat < 4 → ¬ good → exec (.portConfigure .host tag a) s = .next (s.replied .host tag .outOfRange []))
    ∧ (a.port.toNat < 4 → good → q.state ≠ .down → q.state ≠ .standby →
      exec (.portConfigure .host tag a) s = .next (s.replied .host tag .busy [q.state.code]))
    ∧ (a.port.toNat < 4 → good → (q.state = .down ∨ q.state = .standby) →
      (∀ n, changed → n < 480 → (s.record n).port = a.port.toNat → (s.record n).ranging.isSome = true →
        exec (.portConfigure .host tag a) s = .next (s.replied .host tag .rangedPresent [q.state.code]))
      ∧ ((¬ changed ∨ ∀ n, n < 480 → (s.record n).port = a.port.toNat → (s.record n).ranging = none) →
        exec (.portConfigure .host tag a) s = .next
          ((s.modPort a.port.toNat (fun q =>
            { q with
              config := set
              feed := feed
              spread := if a.selection.getLsbD 9 then a.spread.toNat else q.spread })).replied .host tag .ok
            (beBytes 3 set.teq ++ beBytes 2 set.tr ++ beBytes 1 set.lo ++ beBytes 1 set.hi ++ beBytes 1 set.floor
              ++ beBytes 1 set.ceiling ++ beBytes 1 set.initIndex
              ++ [match set.mode with
                | .off => 0#8
                | .planned => 1#8
                | .always => 2#8]
              ++ beBytes 2 set.interval ++ beBytes 1 set.initSpread ++ beBytes 2 set.period ++ beBytes 1 set.hold
              ++ beBytes 2 set.limit ++ beBytes 1 set.gap
              ++ [match feed with
                | .a => 0#8
                | .b => 1#8]))))

/-- R128, R152 and R153: CHANGEOVER with a ranged SYNCED reference abandons the window, restarts every activation in queue order, switches
the feed and enters CHANGEOVER; a damaged, unfit or unready reference is refused as R152 says. A restarted record gets a NAME (or
OUTBOUND_OVERRUN where the queue is full), loses its round trip and becomes NAMED with cause RESTARTED, and its entry waits for an ECHO
window in its place. It keeps its last heard port (log entry 33), and verifies afterwards exactly when it did before (log entry 6). A port
above 3, a record number above 479 and a port that is not in RUN are refused before the reference is read.
The order of its checks is log entry 32. -/
def Obligations.ChangeoverBegins : Prop :=
  (∀ (s t : State) (p r : Nat), p < 4 → r < 480 → t = s.restart p r none →
    t.record r =
        { s.record r with
          state := .named
          cause := .restarted
          ranging := none
          delaySync := match (s.record r).delaySync with
            | .waiting => .synced
            | d => d
          outstanding := (s.record r).outstanding + (if (s.port p).outbound.length < 64 then 1 else 0) }
      ∧ t.verifies r = s.verifies r
      ∧ t.port p =
          { (s.port p).offered [.name r] with
            activation := (s.port p).activation.map (fun e =>
              if e.record = r then { e with phase := .awaitEcho } else e) }
      ∧ s.recordsKept t [r] ∧ s.portsKept t [p]
      ∧ t = { s with records := t.records, ports := t.ports, changed := insertNumber s.changed r })
  ∧ (∀ (s : State) (p : Nat), s.restartEntries p =
      ((s.port p).activation.map (fun e => e.record)).foldl (fun s r => s.restart p r none) s)
  ∧ ∀ (tag p : Byte) (r : Half) (s : State),
    s.ready .host →
    (4 ≤ p.toNat → exec (.changeover .host tag p r) s = .next (s.replied .host tag .outOfRange []))
    ∧ (p.toNat < 4 → 480 ≤ r.toNat → exec (.changeover .host tag p r) s = .next (s.replied .host tag .noSuchRecord []))
    ∧ (p.toNat < 4 → r.toNat < 480 → ((s.port p.toNat).state = .down ∨ (s.port p.toNat).state = .standby) →
      exec (.changeover .host tag p r) s = .next (s.replied .host tag .refusedState [(s.port p.toNat).state.code]))
    ∧ (p.toNat < 4 → r.toNat < 480 → ((s.port p.toNat).state = .calibrating ∨ (s.port p.toNat).state = .changeover) →
      exec (.changeover .host tag p r) s = .next (s.replied .host tag .busy [(s.port p.toNat).state.code]))
    ∧ (p.toNat < 4 → r.toNat < 480 → (s.port p.toNat).state = .run →
      ((s.verifies r.toNat = true ∧ (s.record r.toNat).port = p.toNat ∧ (s.record r.toNat).state.ranged = true
          ∧ (s.record r.toNat).delaySync = .synced) →
        exec (.changeover .host tag p r) s = .next
          ((((s.abandon p.toNat).restartEntries p.toNat).modPort p.toNat (fun q =>
            { q with
              state := .changeover
              feed := q.feed.other
              changeover := { q.changeover with
                reference := some r.toNat, previousFeed := some q.feed, windows := 0 }
              arrivals := []
              processing := none
              heard := []
              heardTag := none })).replied .host tag .ok
            [PortState.run.code, PortState.changeover.code, (s.port p.toNat).feed.other.code]))
      ∧ (s.verifies r.toNat = false →
        exec (.changeover .host tag p r) s = .next ((s.damage r.toNat).replied .host tag .damaged
          [((s.damage r.toNat).port p.toNat).state.code]))
      ∧ ((s.verifies r.toNat = true ∧
          ((s.record r.toNat).port ≠ p.toNat ∨ (s.record r.toNat).state.ranged = false)) →
        exec (.changeover .host tag p r) s = .next (s.replied .host tag .refusedState [PortState.run.code]))
      ∧ ((s.verifies r.toNat = true ∧ (s.record r.toNat).port = p.toNat ∧ (s.record r.toNat).state.ranged = true
          ∧ (s.record r.toNat).delaySync ≠ .synced) →
        exec (.changeover .host tag p r) s = .next (s.replied .host tag .busy [PortState.run.code])))

/-! ### Reads -/

/-- R21, R22, R185: READ RECORD answers the image, the check word and the activation phase; FIND SERIAL and FIND PLOT answer what the
indexes hold; none changes anything of a record that verifies. A record that fails verification is handled as damage and answered DAMAGED
with what it holds then, and a number above 479 is refused.
The layout of the payloads is log entry 17, and what a DAMAGED reply carries is log entry 29. -/
def Obligations.ReadsShowTheRecord : Prop :=
  ∀ (l : Link) (tag : Byte) (s : State), s.ready l →
    (∀ r : Half, s.sound r →
      exec (.readRecord l tag r) s = .next (s.replied l tag .ok
        ((s.record r.toNat).image ++ beBytes 2 (s.stored r.toNat).check.toNat
          ++ [match s.phaseAnywhere r.toNat with
              | some ph => ph.code
              | none => 0xFF#8])))
    ∧ (∀ r : Half, 480 ≤ r.toNat → exec (.readRecord l tag r) s = .next (s.replied l tag .noSuchRecord []))
    ∧ (∀ (r : Half) (u : State), s.verifies r.toNat = false → u = s.damage r.toNat →
      exec (.readRecord l tag r) s = .next (u.replied l tag .damaged
        ((u.record r.toNat).image ++ beBytes 2 (u.stored r.toNat).check.toNat ++ [0xFF#8])))
    ∧ (∀ (x : Serial) (n : Nat) (u : State), mapGet s.serialIndex x.toNat = some n → s.verifies n = false →
        u = s.damage n →
      exec (.findSerial l tag x) s = .next (u.replied l tag .damaged
        (beBytes 2 n ++ [RecState.damaged.code] ++ beBytes 1 (u.record n).port ++ List.replicate 3 0#8)))
    ∧ (∀ (plot : Half) (n : Nat) (u : State), 1 ≤ plot.toNat → plot.toNat ≤ 9999 →
        mapGet s.plotIndex plot.toNat = some n → s.verifies n = false → u = s.damage n →
      exec (.findPlot l tag plot) s = .next (u.replied l tag .damaged
        (beBytes 2 n ++ [RecState.damaged.code] ++ beBytes 1 (u.record n).port ++ List.replicate 9 0#8)))
    ∧ (∀ (x : Serial) (n : Nat), mapGet s.serialIndex x.toNat = some n → s.verifies n = true →
      exec (.findSerial l tag x) s = .next (s.replied l tag .ok
        (beBytes 2 n ++ [(s.record n).state.code] ++ beBytes 1 (s.record n).port
          ++ optionalItem 2 (s.record n).plot)))
    ∧ (∀ (x : Serial) (e : Stranger), mapGet s.serialIndex x.toNat = none → s.stranger x = some e →
      exec (.findSerial l tag x) s = .next (s.replied l tag .notFound
        ([1#8] ++ beBytes 1 e.port ++ beBytes 1 e.sightings ++ beBytes 2 e.lastFrame)))
    ∧ (∀ x : Serial, mapGet s.serialIndex x.toNat = none → s.stranger x = none →
      exec (.findSerial l tag x) s = .next (s.replied l tag .notFound [0#8]))
    ∧ (∀ (plot : Half) (n : Nat), 1 ≤ plot.toNat → plot.toNat ≤ 9999 → mapGet s.plotIndex plot.toNat = some n →
        s.verifies n = true →
      exec (.findPlot l tag plot) s = .next (s.replied l tag .ok
        (beBytes 2 n ++ [(s.record n).state.code] ++ beBytes 1 (s.record n).port
          ++ optionalItem 8 ((s.record n).serial.map BitVec.toNat))))
    ∧ (∀ plot : Half, 1 ≤ plot.toNat → plot.toNat ≤ 9999 → mapGet s.plotIndex plot.toNat = none →
      exec (.findPlot l tag plot) s = .next (s.replied l tag .notFound []))
    ∧ (∀ plot : Half, plot.toNat = 0 ∨ 9999 < plot.toNat →
      exec (.findPlot l tag plot) s = .next (s.replied l tag .outOfRange []))

/-- R23, R58, R180: STRANGERS and DEVICE STATUS change nothing; PORT STATUS returns the condition flags and clears them from the host link,
and leaves them set from the craft link.
The layout of the payloads is log entry 17. -/
def Obligations.StatusReadsAnswer : Prop :=
  ∀ (l : Link) (tag : Byte) (s : State) (status : Port → List Byte), s.ready l →
    status = (fun q =>
      [match q.state with
        | .down => 0#8
        | .standby => 1#8
        | .calibrating => 2#8
        | .run => 3#8
        | .changeover => 4#8]
        ++ optionalItem 1 (if q.state = .calibrating then some q.calibration.length else none)
        ++ beBytes 3 q.config.teq ++ beBytes 2 q.config.tr ++ beBytes 1 q.config.lo ++ beBytes 1 q.config.hi
        ++ beBytes 1 q.config.floor ++ beBytes 1 q.config.ceiling ++ beBytes 1 q.config.initIndex
        ++ [q.config.mode.code] ++ beBytes 2 q.config.interval ++ beBytes 1 q.config.initSpread
        ++ beBytes 2 q.config.period ++ beBytes 1 q.config.hold ++ beBytes 2 q.config.limit ++ beBytes 1 q.config.gap
        ++ [q.feed.code] ++ beBytes 2 q.loopOffset ++ [flagByte q.calibrated]
        ++ beBytes 1 q.spread ++ beBytes 2 q.discoveryTimer ++ [flagByte q.due] ++ beBytes 1 q.tagCounter
        ++ (match q.window with
          | none => [0#8, 0#8]
          | some w => [w.kind.code] ++ beBytes 1 w.tag)
        ++ beBytes 1 q.owed ++ beBytes 1 q.dropMap.length ++ beBytes 1 q.activation.length
        ++ beBytes 1 q.arrivals.length ++ beBytes 1 q.outbound.length
        ++ (match q.changeover.lastOffset with
          | none => [0#8] ++ beBytes 4 0
          | some x => [1#8] ++ beBytes 4 (BitVec.ofInt 32 x).toNat)
        ++ [bitsByte [q.conditions.upkeepOverrun, q.conditions.outboundOverrun, q.conditions.portFull,
          q.conditions.deferred, q.conditions.calibrationDone, q.conditions.calibrationFailed,
          q.conditions.changeoverDone, q.conditions.changeoverFailed]]) →
    exec (.strangers l tag) s = .next (s.replied l tag .ok
      ((s.strangers.map (fun e => beBytes 8 e.serial.toNat ++ beBytes 1 e.port ++ [flagByte e.levelable]
          ++ beBytes 1 e.sightings ++ beBytes 2 e.lastFrame)).flatten ++ beBytes 1 s.strangers.length))
    ∧ exec (.deviceStatus l tag) s = .next (s.replied l tag .ok
      ([s.phase.code, flagByte s.newStranger,
          (s.port 0).state.code, (s.port 0).conditions.byte, (s.port 1).state.code, (s.port 1).conditions.byte,
          (s.port 2).state.code, (s.port 2).conditions.byte, (s.port 3).state.code, (s.port 3).conditions.byte]
        ++ beBytes 1 s.integrityCount ++ optionalItem 2 s.firstDamaged ++ beBytes 2 s.changed.length
        ++ beBytes 1 s.strangers.length ++ beBytes 1 s.scrubInterval
        ++ beBytes 1 s.host.queue.length ++ beBytes 1 s.craft.queue.length))
    ∧ (∀ p : Byte, p.toNat < 4 → l = .craft →
      exec (.portStatus l tag p) s = .next (s.replied l tag .ok (status (s.port p.toNat))))
    ∧ (∀ p : Byte, p.toNat < 4 → l = .host →
      exec (.portStatus l tag p) s = .next
        ((s.modPort p.toNat (fun q => { q with conditions := Conditions.clear })).replied l tag .ok
          (status (s.port p.toNat))))
    ∧ (∀ p : Byte, 4 ≤ p.toNat → exec (.portStatus l tag p) s = .next (s.replied l tag .outOfRange []))

/-- R24: the items of SILENCE MAP are maximal runs in ascending order that hold exactly the silent numbers, read once every record of the
scan that fails verification is handled as damage, lowest first (R167). A port above 3 and a starting number above 479 are refused.
The layout of the payload is log entry 17; what the scan verifies is log entry 18; the order of the two refusals is log entry 32. -/
def Obligations.SilenceMapReportsMaximalRuns : Prop :=
  (∀ ns : List Nat, rising ns →
      ((runsOf ns).map (fun i => List.range' i.1 (i.2 + 1 - i.1))).flatten = ns
        ∧ (∀ i ∈ runsOf ns, i.1 ≤ i.2)
        ∧ (runsOf ns).Pairwise (fun i j => i.2 + 1 < j.1))
    ∧ ∀ (l : Link) (tag p : Byte) (first : Half) (s : State), s.ready l →
        (4 ≤ p.toNat → exec (.silenceMap l tag p first) s = .next (s.replied l tag .outOfRange []))
        ∧ (p.toNat < 4 → 480 ≤ first.toNat →
          exec (.silenceMap l tag p first) s = .next (s.replied l tag .noSuchRecord []))
        ∧ ∀ (u : State) (silent : List Nat), p.toNat < 4 → first.toNat < 480 →
          u = ((List.range 480).filter (fun n => decide (first.toNat ≤ n) && !s.verifies n)).foldl State.damage s →
          silent = (List.range 480).filter (fun n => decide (first.toNat ≤ n)
            && ((u.record n).port == p.toNat && (u.record n).state != .vacant && (u.record n).state != .active)) →
          exec (.silenceMap l tag p first) s = .next (u.replied l tag .ok
            ((((runsOf silent).take 32).map (fun i => beBytes 2 i.1 ++ beBytes 2 i.2)).flatten
              ++ [flagByte (decide (32 < (runsOf silent).length))]
              ++ optionalItem 2 (((runsOf silent).drop 32).head?.map (fun i => i.1))))

/-- R40 and R135: DROP MAP and ACTIVATION QUEUE answer the port's map and queue once every record they name is verified in their order; one
that fails is handled as damage, and its entry is omitted from the reply and from the count. A port above 3 is refused. Nothing else
changes.
The layout of the payloads is log entry 17. -/
def Obligations.DropMapAndActivationQueueAreRead : Prop :=
  ∀ (l : Link) (tag b : Byte) (s : State) (q : Port) (handled : List Nat → State), s.ready l → q = s.port b.toNat →
    handled = (fun ns => ns.foldl (fun u n => if u.verifies n then u else u.damage n) s) →
    (4 ≤ b.toNat →
      exec (.dropMap l tag b) s = .next (s.replied l tag .outOfRange [])
        ∧ exec (.activationQueue l tag b) s = .next (s.replied l tag .outOfRange []))
    ∧ (∀ (u : State) (held : NumMap), b.toNat < 4 → u = handled (q.dropMap.map (fun e => e.2)) →
        held = (u.port b.toNat).dropMap →
      exec (.dropMap l tag b) s = .next (u.replied l tag .ok
        (beBytes 1 held.length
          ++ (held.map (fun e => beBytes 1 e.1 ++ beBytes 2 e.2 ++ [(s.record e.2).state.code])).flatten))
      ∧ (rising (q.dropMap.map Prod.fst) → held = q.dropMap.filter (fun e => s.verifies e.2)))
    ∧ (∀ (u : State) (es : List ActivationEntry), b.toNat < 4 → u = handled (q.activation.map (fun e => e.record)) →
        es = q.activation.filter (fun e => s.verifies e.record) →
      exec (.activationQueue l tag b) s = .next (u.replied l tag .ok
        (beBytes 1 es.length
          ++ (es.map (fun e =>
              beBytes 2 e.record ++ [e.phase.code, (s.record e.record).state.code]
                ++ beBytes 1 (s.record e.record).dropId ++ optionalItem 2 (s.record e.record).plot
                ++ beBytes 1 (s.record e.record).attempts ++ beBytes 1 (s.record e.record).rounds
                ++ beBytes 2 (s.record e.record).outstanding ++ [(s.record e.record).delaySync.code]
                ++ beBytes 1 (s.record e.record).levelIndex)).flatten)))

/-! ### Device commands and the board -/

/-- R164, R170, R171, R179: SCRUB CONFIGURE, INTEGRITY, PHASE SERVICE and CHANGES from the host. A chosen record that fails verification is
handled as damage and reported as the handling leaves it, and its number is removed like the others.
The layout of the payloads is log entry 17. -/
def Obligations.DeviceCommandsAnswer : Prop :=
  ∀ (tag : Byte) (s : State), s.ready .host →
    (∀ i : Byte, i ≠ 0 →
      exec (.scrubConfigure .host tag i) s = .next
        (({ s with scrubInterval := i.toNat } : State).replied .host tag .ok [i]))
    ∧ exec (.scrubConfigure .host tag 0#8) s = .next (s.replied .host tag .outOfRange [])
    ∧ exec (.integrity .host tag) s = .next
        (({ s with integrityCount := 0, firstDamaged := none } : State).replied .host tag .ok
          (beBytes 1 s.integrityCount ++ optionalItem 2 s.firstDamaged))
    ∧ exec (.phaseService .host tag) s = .next
        (({ s with phase := .service } : State).replied .host tag .ok [s.phase.code, SitePhase.service.code])
    ∧ (∀ (chosen : List Nat) (u : State) (payload : List Byte), rising s.changed → chosen = s.changed.take 64 →
      u = (chosen.filter (fun n => !s.verifies n)).foldl State.damage s →
      payload = beBytes 1 chosen.length
        ++ (chosen.map (fun n => beBytes 2 n ++ [(u.record n).state.code, (u.record n).cause.code])).flatten
        ++ beBytes 2 (s.changed.drop 64).length
        ++ [(u.port 0).conditions.byte, (u.port 1).conditions.byte, (u.port 2).conditions.byte,
          (u.port 3).conditions.byte, flagByte s.newStranger] →
      ∃ t, exec (.changes .host tag) s = .next t
        ∧ (∀ p, p < 4 → t.port p = { u.port p with conditions := Conditions.clear })
        ∧ t =
            { u with
              changed := s.changed.drop 64
              newStranger := false
              ports := t.ports
              host := { s.host with
                replies := s.host.replies ++ [{ tag := tag, status := .ok, payload := payload }] }
              lastServed := .host
              attention := t.attention })

/-- R26, R60, R82, R181: SOFT RESET of a part whose records all verify and whose open ECHO windows await records in RANGING, as R116 has
it. The activations give up their drop ids, and where the records agree with the queues each outbound queue then holds their RELEASEs
in rising record number and behind them the SET DELAYs of the WAITING records (R41, R79, R82). The changed set gains the records that were
under activation, and no others (R5).
The order of its parts is log entry 12. -/
def Obligations.SoftResetKeepsTheRegistry : Prop :=
  ∀ (tag : Byte) (s : State), s.ready .host → s.allVerify →
    (∀ p w r, p < 4 → (s.port p).window = some w → w.kind = .echo → w.target = some r →
      s.phaseOf p r = some .echoOpen → (s.record r).state = .ranging) →
    ∃ t, exec (.softReset .host tag) s = .next t
      ∧ (∀ p, p < 4 →
          (t.port p).state = (if (s.port p).state = .down then .down else .standby)
            ∧ (t.port p).feed = (s.port p).changeover.previousFeed.getD (s.port p).feed
            ∧ (t.port p).conditions = Conditions.clear ∧ (t.port p).spread = (s.port p).config.initSpread
            ∧ (t.port p).discoveryTimer = 0 ∧ (t.port p).due = false ∧ (t.port p).tagCounter = 0
            ∧ (t.port p).calibration = [] ∧ (t.port p).window = none ∧ (t.port p).gapCounter = 0
            ∧ (t.port p).owed = 0 ∧ (t.port p).periodTimer = 0 ∧ (t.port p).arrivals = []
            ∧ (t.port p).processing = none ∧ (t.port p).heard = [] ∧ (t.port p).heardTag = none
            ∧ (t.port p).lastEmpty = false ∧ (t.port p).activation = [] ∧ (t.port p).cursor = 0
            ∧ (t.port p).changeover = ChangeoverContext.clear
            ∧ (t.port p).config = (s.port p).config ∧ (t.port p).loopOffset = (s.port p).loopOffset
            ∧ (t.port p).calibrated = (s.port p).calibrated ∧ (t.port p).frame = (s.port p).frame)
      ∧ (∀ r, r < 480 → (s.record r).state.activating = true →
          t.record r =
              { s.record r with
                state := .expected
                cause := .restarted
                dropId := 0
                ranging := none
                attempts := 0
                rounds := 0
                delaySync := .synced
                outstanding := 0 })
      ∧ (∀ n, n ∈ t.changed ↔ n ∈ s.changed ∨ (n < 480 ∧ (s.record n).state.activating = true))
      ∧ (∀ r, r < 480 → (s.record r).state.ranged = true →
          t.record r =
              { s.record r with
                misses := 0
                outstanding := (t.record r).outstanding
                delaySync := (t.record r).delaySync })
      ∧ (∀ r, r < 480 → (s.record r).state.activating = false → (s.record r).state.ranged = false →
          (s.record r).ranging = none → ((s.record r).delaySync = .synced ∨ (s.record r).delaySync = .queued) →
          t.record r =
              { s.record r with
                outstanding := 0
                delaySync := if (s.record r).delaySync = .queued then .synced else (s.record r).delaySync })
      ∧ (∀ p d n, p < 4 → d ≠ 0 →
          (n < 480 → (s.record n).state.activating = true → (s.record n).port = p → (s.record n).dropId = d →
            mapGet (t.port p).dropMap d = none)
          ∧ ((∀ n, n < 480 → (s.record n).state.activating = true → (s.record n).port = p → (s.record n).dropId ≠ d) →
            mapGet (t.port p).dropMap d = mapGet (s.port p).dropMap d))
      ∧ (∀ (releases : Nat → List Descriptor) (waits served : Nat → List Nat), s.tied →
          releases = (fun p => ((List.range 480).filter (fun n =>
              (s.record n).port == p && (s.record n).state.activating)).map (fun n =>
                Descriptor.release p (s.record n).dropId)) →
          waits = (fun p => (List.range 480).filter (fun n =>
              (s.record n).port == p && (s.record n).state.ranged
                && ((s.record n).delaySync == .waiting || (s.record n).delaySync == .queued))) →
          served = (fun p => (waits p).take (64 - (releases p).length)) →
          (∀ p, p < 4 →
              (t.port p).outbound = (releases p).take 64 ++ (served p).map Descriptor.setDelay)
            ∧ ∀ n, n < 480 → (s.record n).state.ranged = true →
                (n ∈ served (s.record n).port →
                  (t.record n).delaySync = .queued ∧ (t.record n).outstanding = 1)
                ∧ (n ∉ served (s.record n).port → (t.record n).outstanding = 0
                  ∧ (t.record n).delaySync =
                      if n ∈ waits (s.record n).port then .waiting else (s.record n).delaySync))
      ∧ t.allVerify
      ∧ t =
          { s with
            records := t.records
            ports := t.ports
            changed := t.changed
            strangers := []
            newStranger := false
            integrityCount := 0
            firstDamaged := none
            scrubCursor := 0
            scrubCounter := 0
            host := { s.host with replies := s.host.replies ++ [{ tag := tag, status := .ok, payload := [] }] }
            lastServed := .host
            attention := t.attention }

/-- R182: asserting the hard-reset pin gives the part its hard reset values, whatever it held, and its release lets it go on from
them. While it is held, events and commands do nothing: takes are answered EMPTY and lookups CLOSED.
What a row does while the pin is held is log entry 23. -/
def Obligations.TheHardResetPinHoldsThePart : Prop :=
  ∀ s : State,
    exec .hardResetAssert s = .next { State.reset with resetHeld := true, pending := s.pending }
    ∧ exec .hardResetRelease s = .next ({ s with resetHeld := false } : State).settle
    ∧ (s.resetHeld = true →
        (∀ (l : Link) (tag : Byte) (c : Command), exec (commandRow l tag c) s = .next s.settle)
        ∧ (∀ (p : Lane) (n : Half), exec (.frameStart p n) s = .next s.settle)
        ∧ (∀ (p : Lane) (r : ReportFields), exec (.arrivalReport p r) s = .next s.settle)
        ∧ (∀ bs : List Byte, exec (.hostSelectEnd bs) s = .next s.settle)
        ∧ (∀ (b : Byte) (e : Bool), exec (.craftByteReceived b e) s = .next s.settle)
        ∧ (∀ i, i ∈ [Instr.scrubVerify, .hostReplyShiftedOut, .craftIdleTimeout, .craftReplySent, .commandTake] →
            exec i s = .next s.settle)
        ∧ (∀ (p : Lane) (i : Instr),
            i ∈ [Instr.windowGrant p, .inviteClose p, .echoClose p, .verifyClose p, .upkeepClose p,
              .referenceClose p, .loopClose p, .upkeepPeriodEnd p, .discoveryDue p, .reportProcessingStart p,
              .reportRegistryStep p, .setDelayQueue p] →
            exec i s = .next s.settle)
        ∧ (∀ p : Lane, exec (.messageTake p) s = .next
            (s.modPort p.val (fun q => { q with takeAnswer := TakeAnswer.ofKind .empty })).settle)
        ∧ (∀ (p : Lane) (d : Byte), exec (.admissionLookup p d) s = .next
            (s.modPort p.val (fun q => { q with lookupAnswer := 0#8 })).settle))

/-- R163: an upset leaves one record with content and check word that do not agree, and changes nothing else; what is no upset is
stopped (the model's choice, log entry 19). -/
def Obligations.AnUpsetStrikesOneRecord : Prop :=
  ∀ (r : Nat) (image : List Byte) (check : Half) (s : State),
    ((Instr.storageUpset r image check).wellFormed = true → s.resetHeld = false →
      exec (.storageUpset r image check) s = .next
          (s.store r { content := Record.ofImage image, check := check }).settle
        ∧ (s.store r { content := Record.ofImage image, check := check }).verifies r = false)
    ∧ (480 ≤ r → exec (.storageUpset r image check) s = .fault (.noSuchRecord r))
    ∧ (r < 480 → image.length ≠ 41 → exec (.storageUpset r image check) s = .refused .notAnImage)
    ∧ (r < 480 → image.length = 41 → (Record.ofImage image).checkWord = check →
      exec (.storageUpset r image check) s = .refused .notAnUpset)

/-! ### Frame starts and the window arbiter -/

/-- R64, R69, R70, R164, R175: a frame start sets the frame number and, where no window is open, lets the gap counter grow; an open window
that is not closing waits; the timers count in RUN; port 0's lane also drives the scrubber and the craft idle count. The first clauses
give the whole next state of frame starts that do one thing. The last takes every frame start apart into its steps in their order: the
gap, the window's age or the close of its kind, the end of an upkeep period, the due flag, the grant, the scrub and the end of an idle
craft frame, each as its own row of the table does it.
The timers, the due flag and the grant see the port as the close left it (log entry 9).
The due flag is left alone while the frame start finds an INVITE window open (log entry 8). The window's age is the model's own field
(log entry 7), what one row takes of a frame start is its choice (log entry 4), and the order on port 0's lane is log entry 30. -/
def Obligations.FrameStartsTimeTheWindow : Prop :=
  ∀ (p : Lane) (n : Half) (s : State) (q : Port), s.resetHeld = false → q = s.port p.val →
    (p ≠ 0 → q.window = none → (q.state = .down ∨ q.state = .standby) →
      exec (.frameStart p n) s = .next (s.modPort p.val (fun q =>
        { q with frame := n.toNat, gapCounter := min (q.gapCounter + 1) 8 })).settle)
    ∧ (∀ w, p ≠ 0 → q.window = some w → w.age = 0 → q.state ≠ .run →
      exec (.frameStart p n) s = .next (s.modPort p.val (fun q =>
        { q with frame := n.toNat, window := some { w with age := 1 } })).settle)
    ∧ (∀ w, p ≠ 0 → q.window = some w → w.age = 0 → q.state = .run → q.periodTimer + 1 < q.config.period →
        (w.kind = .invite ∨ min (q.discoveryTimer + 1) 4096 < q.config.interval) →
      exec (.frameStart p n) s = .next (s.modPort p.val (fun q =>
        { q with
          frame := n.toNat
          window := some { w with age := 1 }
          periodTimer := q.periodTimer + 1
          discoveryTimer := if w.kind = .invite then q.discoveryTimer
            else min (q.discoveryTimer + 1) 4096 })).settle)
    ∧ (∀ w, p ≠ 0 → q.window = some w → 1 ≤ w.age → w.kind = .loop → q.state = .calibrating → 1 ≤ q.config.gap →
      exec (.frameStart p n) s = exec (.loopClose p) (s.modPort p.val (fun q => { q with frame := n.toNat })))
    ∧ (p = 0 → q.window = none → (q.state = .down ∨ q.state = .standby) → s.craft.assembly = none →
      (s.scrubCounter + 1 < s.scrubInterval →
        exec (.frameStart p n) s = .next ({ s.modPort 0 (fun q =>
            { q with frame := n.toNat, gapCounter := min (q.gapCounter + 1) 8 }) with
          scrubCounter := s.scrubCounter + 1 } : State).settle)
      ∧ (s.scrubInterval ≤ s.scrubCounter + 1 → s.verifies s.scrubCursor = true →
        exec (.frameStart p n) s = .next ({ s.modPort 0 (fun q =>
            { q with frame := n.toNat, gapCounter := min (q.gapCounter + 1) 8 }) with
          scrubCounter := 0
          scrubCursor := (s.scrubCursor + 1) % 480 } : State).settle))
    ∧ ∃ s1 s2 s3 s4 s5 s6 : State,
      (q.window = none →
        s1 = s.modPort p.val (fun q => { q with frame := n.toNat, gapCounter := min (q.gapCounter + 1) 8 }))
      ∧ (∀ w, q.window = some w → w.age = 0 →
        s1 = s.modPort p.val (fun q => { q with frame := n.toNat, window := some { w with age := 1 } }))
      ∧ (∀ w, q.window = some w → 1 ≤ w.age →
        exec (closeRow p w.kind) (s.modPort p.val (fun q => { q with frame := n.toNat })) = .next s1.settle)
      ∧ ((s1.port p.val).state ≠ .run → s2 = s1 ∧ s3 = s2)
      ∧ ((s1.port p.val).state = .run →
        ((s1.port p.val).periodTimer + 1 < (s1.port p.val).config.period →
          s2 = s1.modPort p.val (fun q => { q with periodTimer := q.periodTimer + 1 }))
        ∧ ((s1.port p.val).config.period ≤ (s1.port p.val).periodTimer + 1 →
          exec (.upkeepPeriodEnd p) s1 = .next s2.settle)
        ∧ ((∃ w, q.window = some w ∧ w.kind = .invite) → s3 = s2)
        ∧ (∀ counted : State, (∀ w, q.window = some w → w.kind ≠ .invite) →
          counted = s2.modPort p.val (fun q => { q with discoveryTimer := min (q.discoveryTimer + 1) 4096 }) →
          ((counted.port p.val).discoveryTimer < (counted.port p.val).config.interval → s3 = counted)
          ∧ ((counted.port p.val).config.interval ≤ (counted.port p.val).discoveryTimer →
            exec (.discoveryDue p) counted = .next s3.settle)))
      ∧ exec (.windowGrant p) s3 = .next s4.settle
      ∧ (p ≠ 0 → s5 = s4 ∧ s6 = s5)
      ∧ (p = 0 →
        (s4.scrubCounter + 1 < s4.scrubInterval → s5 = { s4 with scrubCounter := s4.scrubCounter + 1 })
        ∧ (s4.scrubInterval ≤ s4.scrubCounter + 1 → exec .scrubVerify s4 = .next s5.settle)
        ∧ (s5.craft.assembly = none → s6 = s5)
        ∧ (s5.craft.assembly ≠ none → s5.craftIdle + 1 < 80 → s6 = { s5 with craftIdle := s5.craftIdle + 1 })
        ∧ (s5.craft.assembly ≠ none → 80 ≤ s5.craftIdle + 1 → exec .craftIdleTimeout s5 = .next s6.settle))
      ∧ exec (.frameStart p n) s = .next s6.settle

/-- R63, R68, R84, R139, R154: a grant advances the tag, opens the window of the requester's kind with its target, and has the effect on
the requester that its kind has; nothing is granted while a window is open or the gap is short, or where no requester stands.
A candidate that fails verification is handled as damage, and in RUN the requesters are considered again over what the handling left (log
entry 31); a damaged reference fails the changeover and nothing is granted (R159).
The lane shows the open window as R186 lays it out, and four zeros while none is open (the three behind the kind: log entry 35).
The row may be sent at any moment (log entry 4), and the window's age, 0 at the grant, is the model's own field (log entry 7). -/
def Obligations.GrantsOpenWindows : Prop :=
  ∀ (p : Lane) (s : State) (q : Port) (opened : WindowKind → Option Nat → OpenWindow),
    s.resetHeld = false → q = s.port p.val →
    opened = (fun kind target =>
      { kind := kind
        tag := (q.tagCounter + 1) % 16
        target := target
        targetDrop := target.map (fun r => (s.record r).dropId)
        captured := none
        clean := 0
        garbled := 0
        overrun := false
        spread := if kind = .invite then q.spread else 0
        age := 0 }) →
    (∀ u : State, u.grantShown p.val =
      match (u.port p.val).window with
      | none => [0#8, 0#8, 0#8, 0#8]
      | some w =>
        [match w.kind with
          | .invite => 1#8
          | .echo => 2#8
          | .verify => 3#8
          | .upkeep => 4#8
          | .reference => 5#8
          | .loop => 6#8,
          BitVec.ofNat 8 w.tag,
          match w.kind with
          | .invite => 127#8
          | .loop => 0#8
          | .echo | .verify | .upkeep | .reference => BitVec.ofNat 8 (w.targetDrop.getD 0),
          if w.kind = .invite then BitVec.ofNat 8 w.spread else 0#8])
    ∧ ((q.window ≠ none ∨ q.gapCounter < q.config.gap ∨ q.state = .down ∨ q.state = .standby) →
      exec (.windowGrant p) s = .next s.settle)
    ∧ (q.window = none → q.config.gap ≤ q.gapCounter →
      (q.state = .calibrating →
        exec (.windowGrant p) s = .next (s.modPort p.val (fun q =>
          { q with tagCounter := (q.tagCounter + 1) % 16, window := some (opened .loop none) })).settle)
      ∧ (∀ r, q.state = .changeover → q.changeover.reference = some r →
        (q.changeover.windows < 3 → (s.record r).outstanding = 0 → (s.record r).delaySync = .synced →
            s.verifies r = true →
          exec (.windowGrant p) s = .next (s.modPort p.val (fun q =>
            { q with
              tagCounter := (q.tagCounter + 1) % 16
              window := some (opened .reference (some r))
              changeover := { q.changeover with windows := q.changeover.windows + 1 } })).settle)
        ∧ (q.changeover.windows < 3 → (s.record r).outstanding = 0 → (s.record r).delaySync = .synced →
            s.verifies r = false →
          exec (.windowGrant p) s = .next (s.damage r).settle)
        ∧ ((3 ≤ q.changeover.windows ∨ (s.record r).outstanding ≠ 0 ∨ (s.record r).delaySync ≠ .synced) →
          exec (.windowGrant p) s = .next s.settle))
      ∧ (q.state = .run →
        (s.runRequest p.val = none → exec (.windowGrant p) s = .next s.settle)
        ∧ (s.runRequest p.val = some { kind := .invite, target := none } →
          exec (.windowGrant p) s = .next (s.modPort p.val (fun q =>
            { q with
              tagCounter := (q.tagCounter + 1) % 16
              window := some (opened .invite none)
              due := false
              heard := if q.arrivals = [] ∧ q.processing = none then [] else q.heard
              heardTag := if q.arrivals = [] ∧ q.processing = none then some ((q.tagCounter + 1) % 16)
                else q.heardTag })).settle)
        ∧ (∀ kind r, s.runRequest p.val = some { kind := kind, target := some r } → s.verifies r = false →
          exec (.windowGrant p) s = exec (.windowGrant p) (s.damage r))
        ∧ (∀ r, s.runRequest p.val = some { kind := .echo, target := some r } → s.verifies r = true →
          exec (.windowGrant p) s = .next
            (((s.modPort p.val (fun q =>
              { q with
                tagCounter := (q.tagCounter + 1) % 16
                window := some (opened .echo (some r))
                activation := q.activation.map (fun e =>
                  if e.record = r then { e with phase := .echoOpen } else e) })).freshRecord r
              { s.record r with state := .ranging }).noteChanged r).settle)
        ∧ (∀ r, s.runRequest p.val = some { kind := .verify, target := some r } → s.verifies r = true →
          exec (.windowGrant p) s = .next
            (s.modPort p.val (fun q =>
              { q with
                tagCounter := (q.tagCounter + 1) % 16
                window := some (opened .verify (some r))
                activation := q.activation.map (fun e =>
                  if e.record = r then { e with phase := .verifyOpen } else e) })).settle)
        ∧ (∀ r, s.runRequest p.val = some { kind := .upkeep, target := some r } → s.verifies r = true →
          exec (.windowGrant p) s = .next
            (s.modPort p.val (fun q =>
              { q with
                tagCounter := (q.tagCounter + 1) % 16
                window := some (opened .upkeep (some r))
                owed := q.owed - 1
                cursor := (s.record r).dropId })).settle)))

/-- R67, R138, R139: which requester stands first in RUN, and which record an UPKEEP window goes to: the missed one of lowest drop id, or
the first drop id above the cursor, or the lowest. -/
def Obligations.RequestersStandInOrder : Prop :=
  ∀ (s : State) (p : Nat) (q : Port) (able fit missed : Nat → Prop) (awaits : ActivationEntry → Prop),
    q = s.port p →
    able = (fun r => (s.record r).outstanding = 0 ∧ (s.record r).delaySync = .synced) →
    fit = (fun r => r < 480 ∧ (s.record r).port = p ∧ (s.record r).state.ranged = true ∧ able r) →
    missed = (fun r => fit r ∧ 0 < (s.record r).misses) →
    awaits = (fun e => (e.phase = .awaitEcho ∨ e.phase = .awaitVerify) ∧ able e.record) →
    (s.upkeepTarget p = none ↔ ∀ r, ¬ fit r)
    ∧ (∀ r, s.upkeepTarget p = some r → fit r
        ∧ ((∃ r', missed r') → missed r ∧ ∀ r', missed r' → (s.record r).dropId ≤ (s.record r').dropId)
        ∧ ((¬ ∃ r', missed r') → (∃ r', fit r' ∧ q.cursor < (s.record r').dropId) →
          q.cursor < (s.record r).dropId
            ∧ ∀ r', fit r' → q.cursor < (s.record r').dropId → (s.record r).dropId ≤ (s.record r').dropId)
        ∧ ((¬ ∃ r', missed r') → (¬ ∃ r', fit r' ∧ q.cursor < (s.record r').dropId) →
          ∀ r', fit r' → (s.record r).dropId ≤ (s.record r').dropId))
    ∧ (∀ r, q.owed = 8 → s.upkeepTarget p = some r →
      s.runRequest p = some { kind := .upkeep, target := some r })
    ∧ ((q.owed ≠ 8 ∨ ∀ r, ¬ fit r) →
      (∀ before e after, q.activation = before ++ e :: after → (∀ x ∈ before, ¬ awaits x) → awaits e →
        s.runRequest p = some
          { kind := if e.phase = .awaitEcho then .echo else .verify, target := some e.record })
      ∧ ((∀ e ∈ q.activation, ¬ awaits e) →
        (∀ r, 1 ≤ q.owed → (∃ r', missed r') → s.upkeepTarget p = some r →
          s.runRequest p = some { kind := .upkeep, target := some r })
        ∧ ((q.owed = 0 ∨ ¬ ∃ r', missed r') →
          (q.due = true → s.runRequest p = some { kind := .invite, target := none })
          ∧ (q.due = false →
            (∀ r, 1 ≤ q.owed → s.upkeepTarget p = some r →
              s.runRequest p = some { kind := .upkeep, target := some r })
            ∧ ((q.owed = 0 ∨ ∀ r, ¬ fit r) → s.runRequest p = none)))))

/-! ### Closes -/

/-- R85: an INVITE close removes the window, sets gap counter and discovery timer to 0 and adapts the spread exponent to what the window
heard. A close row of any kind does nothing where no window of its kind is open.
The row closes the window at whatever moment it is sent (log entry 4). -/
def Obligations.InviteCloseAdaptsTheSpread : Prop :=
  ∀ (p : Lane) (s : State), s.resetHeld = false →
    (∀ w, (s.port p.val).window = some w → w.kind = .invite →
      exec (.inviteClose p) s = .next (s.modPort p.val (fun q =>
        { q with
          window := none
          gapCounter := 0
          discoveryTimer := 0
          spread :=
            if 0 < w.garbled ∨ w.overrun = true then min (q.spread + 1) 6
            else if w.clean = 0 ∧ q.lastEmpty = true then q.spread - 1
            else q.spread
          lastEmpty := decide (w.garbled = 0 ∧ w.overrun = false ∧ w.clean = 0) })).settle)
    ∧ ∀ kind : WindowKind, (∀ w, (s.port p.val).window = some w → w.kind ≠ kind) →
      exec (closeRow p kind) s = .next s.settle

/-- R118 to R121 and R124 to R127: an ECHO close: the discards (of a target cleared or out of its phase, and of one found damaged), the attempt and activation failures, and a round trip in reach with what
follows it: a levelling round up or down, a finish that is NORMAL, WEAK or HOT, and a level that is UNUSABLE (R107, R110). The SET
DELAY of R79 joins the queue where there is room, and otherwise the record waits; what finds the queue full after it is dropped with
OUTBOUND_OVERRUN (R77). The clauses on a round trip in reach take a record without a SET DELAY in any queue (R76), and a port that has no
other WAITING record while its queue has room, so that the place is this record's.
The row closes the window at whatever moment it is sent (log entry 4), the close verifies its target first (log entry 10), and the level
code 0 is WEAK whatever lo is (log entry 34). -/
def Obligations.EchoCloseRangesTheTerminal : Prop :=
  ∀ (p : Lane) (s base : State) (w : OpenWindow) (q : Port) (service : Nat → LevelCondition),
    s.resetHeld = false → q = s.port p.val → q.window = some w → w.kind = .echo →
    base = s.modPort p.val (fun q => { q with window := none, gapCounter := 0 }) →
    service = (fun code =>
      if code = 0 ∨ code < q.config.lo then .weak else if code ≤ q.config.hi then .normal else .hot) →
    (w.target = none → exec (.echoClose p) s = .next base.settle)
    ∧ ∀ (r : Nat) (c : Record), w.target = some r → r < 480 → c = s.record r →
      (s.verifies r = false → exec (.echoClose p) s = .next (base.damage r).settle)
      ∧ (s.verifies r = true → (s.phaseOf p.val r ≠ some .echoOpen ∨ c.state ≠ .ranging) →
        exec (.echoClose p) s = .next base.settle)
      ∧ (s.verifies r = true → s.phaseOf p.val r = some .echoOpen → c.state = .ranging →
        (w.captured = none → exec (.echoClose p) s = .next (base.attemptFailure p.val r .failedNoEcho).settle)
        ∧ (∀ (e : Captured) (rtt : Int), w.captured = some e → rtt = (e.offset : Int) - q.config.tr - q.loopOffset →
          (rtt < 0 →
            exec (.echoClose p) s = .next ((base.freshRecord r
              { c with lastLevel := e.level, levelCondition := service e.level }).attemptFailure
                p.val r .failedEarly).settle)
          ∧ ((q.config.teq : Int) < rtt →
            exec (.echoClose p) s = .next ((base.freshRecord r
              { c with lastLevel := e.level, levelCondition := service e.level }).failActivation
                p.val r .failedReach).settle)
          ∧ (∀ (x : Nat) (g : Ranging) (sent : List Descriptor) (heardAt : Record) (inside stuck : Prop),
            rtt = (x : Int) → x ≤ q.config.teq →
            g = { roundTrip := x, eqd := q.config.teq - x, length := (x * 817 + 5000) / 10000 } →
            c.delaySync = .synced → c.port = p.val → s.setDelayQueued allPorts r = false →
            (64 ≤ q.outbound.length ∨ ∀ n, n < 480 → (s.record n).port = p.val → (s.record n).delaySync ≠ .waiting) →
            sent = (if q.outbound.length < 64 then [.setDelay r] else []) →
            heardAt = { c with
              lastLevel := e.level
              ranging := some g
              delaySync := if q.outbound.length < 64 then .queued else .waiting } →
            inside = (q.config.lo ≤ e.level ∧ e.level ≤ q.config.hi) →
            stuck = (c.levelable ≠ some true ∨ 2 ≤ c.rounds ∨ (e.level < q.config.lo ∧ 7 ≤ c.levelIndex)
              ∨ (q.config.lo ≤ e.level ∧ c.levelIndex = 0)) →
            (∀ (st : RecState) (opens : List Descriptor), 0 < e.level →
              (inside ∨ (stuck ∧ q.config.floor ≤ e.level ∧ e.level ≤ q.config.ceiling)) →
              st = (if insideBand c.band g.length = false then .query else if c.autoAdmit then .active else .ready) →
              opens = (if st = .active then [.openDrop r] else []) →
              exec (.echoClose p) s = .next
                (((base.modPort p.val (fun q =>
                  { q.offered (sent ++ opens) with
                    activation := q.activation.filter (fun e => e.record ≠ r) })).freshRecord r
                  { heardAt with
                    state := st
                    cause := if st = .query then .queried else .activated
                    levelCondition :=
                      if e.level < q.config.lo then .weak else if e.level ≤ q.config.hi then .normal else .hot
                    failures := 0
                    misses := 0
                    outstanding := c.outstanding + min (sent ++ opens).length (64 - q.outbound.length) }).noteChanged r).settle)
            ∧ (∀ index : Nat, 0 < e.level → c.levelable = some true → c.rounds < 2 →
              ((e.level < q.config.lo ∧ c.levelIndex < 7
                  ∧ index = c.levelIndex + min ((q.config.lo - e.level + 7) / 8) (7 - c.levelIndex))
                ∨ (q.config.lo ≤ e.level ∧ q.config.hi < e.level ∧ 0 < c.levelIndex
                  ∧ index = c.levelIndex - min ((e.level - q.config.hi + 7) / 8) c.levelIndex)) →
              exec (.echoClose p) s = .next
                (((base.modPort p.val (fun q =>
                  { q.offered (sent ++ [.level r]) with
                    activation := q.activation.map (fun e =>
                      if e.record = r then { e with phase := .awaitVerify } else e) })).freshRecord r
                  { heardAt with
                    state := .levelling
                    levelIndex := index
                    rounds := c.rounds + 1
                    levelCondition := service e.level
                    outstanding := c.outstanding + min (sent.length + 1) (64 - q.outbound.length) }).noteChanged r).settle)
            ∧ ((e.level = 0
                ∨ (stuck ∧ ((e.level < q.config.lo ∧ e.level < q.config.floor ∧ e.level ≤ q.config.hi)
                  ∨ (q.config.lo ≤ e.level ∧ q.config.hi < e.level ∧ q.config.ceiling < e.level)))) →
              exec (.echoClose p) s = .next
                (((base.modPort p.val (fun q => q.offered sent)).freshRecord r
                  { heardAt with
                    levelCondition := service e.level
                    outstanding := c.outstanding + sent.length }).failActivation p.val r .failedLevel).settle))))

/-- R118, R122 to R127: a VERIFY close of a LEVELLING record: no echo, a drift beyond the limit, a drift within the hold band, one that is
corrected and one whose corrected round trip is out of reach (R105). The level is then evaluated: a further levelling round (R107, R123),
a finish that is NORMAL, WEAK or HOT, or a level that is UNUSABLE (R110). The SET DELAY of R79 joins the queue where there is room,
and otherwise the record waits; what finds the queue full after it is dropped with OUTBOUND_OVERRUN (R77). The clauses on a corrected round
trip take a record without a SET DELAY in any queue (R76), and a port that has no other WAITING record while its queue has room, so that
the place is this record's. A cleared target and one out of its phase are discarded; one that fails verification is handled as damage,
first (log entry 10). A further levelling round leaves
the record out of the changed set (log entry 24).
The row closes the window at whatever moment it is sent (log entry 4), and the level code 0 is WEAK whatever lo is (log entry 34). -/
def Obligations.VerifyCloseChecksTheDrift : Prop :=
  ∀ (p : Lane) (s base : State) (w : OpenWindow) (q : Port) (service : Nat → LevelCondition),
    s.resetHeld = false → q = s.port p.val → q.window = some w → w.kind = .verify →
    base = s.modPort p.val (fun q => { q with window := none, gapCounter := 0 }) →
    service = (fun code =>
      if code = 0 ∨ code < q.config.lo then .weak else if code ≤ q.config.hi then .normal else .hot) →
    (w.target = none → exec (.verifyClose p) s = .next base.settle)
    ∧ ∀ (r : Nat) (c : Record), w.target = some r → r < 480 → c = s.record r →
      (s.verifies r = false → exec (.verifyClose p) s = .next (base.damage r).settle)
      ∧ (s.verifies r = true → (s.phaseOf p.val r ≠ some .verifyOpen ∨ c.state ≠ .levelling) →
        exec (.verifyClose p) s = .next base.settle)
      ∧ (s.verifies r = true → s.phaseOf p.val r = some .verifyOpen → c.state = .levelling →
        (w.captured = none → exec (.verifyClose p) s = .next (base.attemptFailure p.val r .failedNoEcho).settle)
        ∧ (∀ (e : Captured) (g : Ranging) (drift : Int), w.captured = some e → c.ranging = some g →
          drift = (e.offset : Int) - q.config.tr - g.eqd - q.loopOffset - g.roundTrip →
          (q.config.hold < drift.natAbs → q.config.limit < drift.natAbs →
            exec (.verifyClose p) s = .next ((base.freshRecord r
              { c with lastLevel := e.level, levelCondition := service e.level }).attemptFailure
                p.val r .failedDrift).settle)
          ∧ (q.config.hold < drift.natAbs → drift.natAbs ≤ q.config.limit → (q.config.teq : Int) < g.roundTrip + drift →
            exec (.verifyClose p) s = .next ((base.freshRecord r
              { c with lastLevel := e.level, levelCondition := service e.level }).failActivation
                p.val r .failedReach).settle)
          ∧ (q.config.hold < drift.natAbs → drift.natAbs ≤ q.config.limit → (g.roundTrip : Int) + drift < 0 →
            exec (.verifyClose p) s = .next ((base.freshRecord r
              { c with lastLevel := e.level, levelCondition := service e.level }).attemptFailure
                p.val r .failedEarly).settle)
          ∧ (∀ (now : Ranging) (sent : List Descriptor) (heardAt : Record) (inside stuck : Prop),
            ((drift.natAbs ≤ q.config.hold ∧ now = g ∧ sent = [] ∧ heardAt = { c with lastLevel := e.level })
              ∨ (q.config.hold < drift.natAbs ∧ drift.natAbs ≤ q.config.limit ∧ now.roundTrip ≤ q.config.teq
                ∧ (now.roundTrip : Int) = g.roundTrip + drift ∧ now.eqd = q.config.teq - now.roundTrip
                ∧ now.length = (now.roundTrip * 817 + 5000) / 10000
                ∧ sent = (if q.outbound.length < 64 then [.setDelay r] else [])
                ∧ c.delaySync = .synced ∧ c.port = p.val ∧ s.setDelayQueued allPorts r = false
                ∧ (64 ≤ q.outbound.length ∨ ∀ n, n < 480 → (s.record n).port = p.val → (s.record n).delaySync ≠ .waiting)
                ∧ heardAt = { c with
                    lastLevel := e.level
                    ranging := some now
                    delaySync := if q.outbound.length < 64 then .queued else .waiting })) →
            inside = (q.config.lo ≤ e.level ∧ e.level ≤ q.config.hi) →
            stuck = (c.levelable ≠ some true ∨ 2 ≤ c.rounds ∨ (e.level < q.config.lo ∧ 7 ≤ c.levelIndex)
              ∨ (q.config.lo ≤ e.level ∧ c.levelIndex = 0)) →
            (∀ (st : RecState) (opens : List Descriptor), 0 < e.level →
              (inside ∨ (stuck ∧ q.config.floor ≤ e.level ∧ e.level ≤ q.config.ceiling)) →
              st = (if insideBand c.band now.length = false then .query else if c.autoAdmit then .active else .ready) →
              opens = (if st = .active then [.openDrop r] else []) →
              exec (.verifyClose p) s = .next
                (((base.modPort p.val (fun q =>
                  { q.offered (sent ++ opens) with
                    activation := q.activation.filter (fun e => e.record ≠ r) })).freshRecord r
                  { heardAt with
                    state := st
                    cause := if st = .query then .queried else .activated
                    levelCondition :=
                      if e.level < q.config.lo then .weak else if e.level ≤ q.config.hi then .normal else .hot
                    failures := 0
                    misses := 0
                    outstanding := c.outstanding + min (sent ++ opens).length (64 - q.outbound.length) }).noteChanged r).settle)
            ∧ (∀ index : Nat, 0 < e.level → c.levelable = some true → c.rounds < 2 →
              ((e.level < q.config.lo ∧ c.levelIndex < 7
                  ∧ index = c.levelIndex + min ((q.config.lo - e.level + 7) / 8) (7 - c.levelIndex))
                ∨ (q.config.lo ≤ e.level ∧ q.config.hi < e.level ∧ 0 < c.levelIndex
                  ∧ index = c.levelIndex - min ((e.level - q.config.hi + 7) / 8) c.levelIndex)) →
              exec (.verifyClose p) s = .next
                ((base.modPort p.val (fun q =>
                  { q.offered (sent ++ [.level r]) with
                    activation := q.activation.map (fun e =>
                      if e.record = r then { e with phase := .awaitVerify } else e) })).freshRecord r
                  { heardAt with
                    levelIndex := index
                    rounds := c.rounds + 1
                    levelCondition := service e.level
                    outstanding := c.outstanding + min (sent.length + 1) (64 - q.outbound.length) }).settle)
            ∧ ((e.level = 0
                ∨ (stuck ∧ ((e.level < q.config.lo ∧ e.level < q.config.floor ∧ e.level ≤ q.config.hi)
                  ∨ (q.config.lo ≤ e.level ∧ q.config.hi < e.level ∧ q.config.ceiling < e.level)))) →
              exec (.verifyClose p) s = .next
                (((base.modPort p.val (fun q => q.offered sent)).freshRecord r
                  { heardAt with
                    levelCondition := service e.level
                    outstanding := c.outstanding + sent.length }).failActivation p.val r .failedLevel).settle))))

/-- R140 to R146: an UPKEEP close: a target that has been cleared or has changed is let be, and one that fails verification is handled as
damage, first (log entry 10); a first and second miss are counted and the third loses the record;
a clean echo sets misses, level and condition, and its drift is held, corrected, out of reach or in excess. A record that stays ranged may
get a level step (R109); one in excess goes back to its first window, with a SHUT ahead of the NAME where it was ACTIVE (R34, R92, R144), or
is lost where the activation queue is full. Descriptors that find the outbound queue full are dropped with OUTBOUND_OVERRUN (R77), and a
SET DELAY then waits (R79).
The row closes the window at whatever moment it is sent (log entry 4); a record that is named again or lost keeps its last heard port (log
entry 33), and the level code 0 is WEAK whatever lo is (log entry 34). -/
def Obligations.UpkeepCloseServesTheRecord : Prop :=
  ∀ (p : Lane) (s base : State) (w : OpenWindow) (q : Port),
    s.resetHeld = false → q = s.port p.val → q.window = some w → w.kind = .upkeep →
    base = s.modPort p.val (fun q => { q with window := none, gapCounter := 0 }) →
    (w.target = none → exec (.upkeepClose p) s = .next base.settle)
    ∧ ∀ (r : Nat) (c : Record), w.target = some r → r < 480 → c = s.record r →
      (s.verifies r = false → exec (.upkeepClose p) s = .next (base.damage r).settle)
      ∧ (s.verifies r = true → (c.port ≠ p.val ∨ w.targetDrop ≠ some c.dropId ∨ c.state.ranged = false) →
        exec (.upkeepClose p) s = .next base.settle)
      ∧ (s.verifies r = true → c.port = p.val → w.targetDrop = some c.dropId → c.state.ranged = true → c.dropId ≠ 0 →
        (w.captured = none → c.misses + 1 < 3 →
          exec (.upkeepClose p) s = .next (base.freshRecord r { c with misses := c.misses + 1 }).settle)
        ∧ ∀ lost : Record → Cause → State,
          lost = (fun c cause =>
            ((base.modPort p.val (fun q =>
              { q.offered [.release p.val c.dropId] with dropMap := mapErase q.dropMap c.dropId })).freshRecord r
              { c with
                state := .expected
                cause := cause
                dropId := 0
                misses := 0
                ranging := none
                delaySync := match c.delaySync with
                  | .waiting => .synced
                  | d => d }).noteChanged r) →
          (w.captured = none → 3 ≤ c.misses + 1 →
            exec (.upkeepClose p) s = .next (lost c .lostSilent).settle)
          ∧ ∀ (e : Captured) (g : Ranging) (drift : Int) (heardAt : Record), w.captured = some e → c.ranging = some g →
            drift = (e.offset : Int) - q.config.tr - g.eqd - q.loopOffset - g.roundTrip →
            heardAt = { c with
              misses := 0
              lastLevel := e.level
              levelCondition := if e.level = 0 ∨ e.level < q.config.lo then .weak
                else if e.level ≤ q.config.hi then .normal else .hot } →
            (∀ kept : State,
              ((drift.natAbs ≤ q.config.hold ∧ kept = base.freshRecord r heardAt)
                ∨ (q.config.hold < drift.natAbs ∧ drift.natAbs ≤ q.config.limit ∧ c.delaySync = .synced
                  ∧ s.setDelayQueued allPorts r = false
                  ∧ (64 ≤ q.outbound.length ∨ ∀ n, n < 480 → (s.record n).port = p.val → (s.record n).delaySync ≠ .waiting)
                  ∧ ∃ x : Nat, (x : Int) = g.roundTrip + drift ∧ x ≤ q.config.teq
                    ∧ ((q.outbound.length < 64
                        ∧ kept = (base.modPort p.val (fun q =>
                            { q with outbound := q.outbound ++ [.setDelay r] })).freshRecord r
                          { heardAt with
                            ranging := some
                              { roundTrip := x, eqd := q.config.teq - x, length := (x * 817 + 5000) / 10000 }
                            delaySync := .queued
                            outstanding := c.outstanding + 1 })
                      ∨ (64 ≤ q.outbound.length
                        ∧ kept = base.freshRecord r
                          { heardAt with
                            ranging := some
                              { roundTrip := x, eqd := q.config.teq - x, length := (x * 817 + 5000) / 10000 }
                            delaySync := .waiting })))) →
              ((q.config.lo ≤ e.level + 8 ∧ e.level ≤ q.config.hi + 8) ∨ e.level = 0 ∨ c.levelable ≠ some true →
                exec (.upkeepClose p) s = .next kept.settle)
              ∧ (0 < e.level → e.level + 8 < q.config.lo → c.levelable = some true → c.levelIndex < 7 →
                exec (.upkeepClose p) s = .next
                  (((kept.modRecord r (fun c => { c with levelIndex := c.levelIndex + 1 })).enqueue p.val
                    (.level r)).settle))
              ∧ (q.config.lo ≤ e.level + 8 → q.config.hi + 8 < e.level → c.levelable = some true → 0 < c.levelIndex →
                exec (.upkeepClose p) s = .next
                  (((kept.modRecord r (fun c => { c with levelIndex := c.levelIndex - 1 })).enqueue p.val
                    (.level r)).settle))
              ∧ ((e.level + 8 < q.config.lo ∧ e.level ≤ q.config.hi + 8 ∧ 7 ≤ c.levelIndex)
                  ∨ (q.config.lo ≤ e.level + 8 ∧ q.config.hi + 8 < e.level ∧ c.levelIndex = 0) →
                exec (.upkeepClose p) s = .next kept.settle))
            ∧ (q.config.hold < drift.natAbs → drift.natAbs ≤ q.config.limit →
                ((g.roundTrip : Int) + drift < 0 ∨ (q.config.teq : Int) < g.roundTrip + drift) →
              exec (.upkeepClose p) s = .next (lost heardAt .lostReach).settle)
            ∧ (∀ named : List Descriptor, q.config.hold < drift.natAbs → q.config.limit < drift.natAbs →
                q.activation.length < 8 →
                named = (if c.state = .active then [.shut r] else []) ++ [.name r] →
              exec (.upkeepClose p) s = .next
                (((base.modPort p.val (fun q =>
                  { q.offered named with
                    activation := q.activation ++ [{ record := r, phase := .awaitEcho }] })).freshRecord r
                  { heardAt with
                    state := .named
                    cause := .reranged
                    attempts := 0
                    rounds := 0
                    ranging := none
                    delaySync := match c.delaySync with
                      | .waiting => .synced
                      | d => d
                    outstanding := c.outstanding + min named.length (64 - q.outbound.length) }).noteChanged r).settle)
            ∧ (q.config.hold < drift.natAbs → q.config.limit < drift.natAbs → 8 ≤ q.activation.length →
              exec (.upkeepClose p) s = .next (lost heardAt .lostReach).settle))

/-- R155 to R159: a REFERENCE close. Without an echo the changeover waits for its third window and then fails back to the old feed; it also
fails where the target is absent or no longer fits, and where its damage is found. With an echo it completes: every ranged record of the
port is shifted by the offset, or lost out of reach. Then the RELEASEs of the lost records are queued in rising record number, and behind
them the SET DELAYs of the WAITING records while there is room (R79); what finds the queue full is dropped with OUTBOUND_OVERRUN (R77).
The row closes the window at whatever moment it is sent (log entry 4), the close verifies its target first (log entry 10), a CO_LOST record
keeps its last heard port (log entry 33), and the level code 0 is WEAK whatever lo is (log entry 34). -/
def Obligations.ReferenceCloseEndsTheChangeover : Prop :=
  ∀ (p : Lane) (s base failed : State) (w : OpenWindow) (q : Port),
    s.resetHeld = false → q = s.port p.val → q.window = some w → w.kind = .reference →
    base = s.modPort p.val (fun q => { q with window := none, gapCounter := 0 }) →
    failed = base.modPort p.val (fun q =>
      { q with
        feed := q.changeover.previousFeed.getD q.feed
        changeover := { q.changeover with reference := none, previousFeed := none, windows := 0 }
        state := .run
        conditions := { q.conditions with changeoverFailed := true } }) →
    (w.target = none → q.changeover.reference ≠ none → exec (.referenceClose p) s = .next failed.settle)
    ∧ ∀ (r : Nat) (c : Record), w.target = some r → r < 480 → c = s.record r →
      (s.verifies r = false → q.changeover.reference = some r → exec (.referenceClose p) s = .next (base.damage r).settle)
      ∧ (s.verifies r = true → q.changeover.reference ≠ none →
          (q.changeover.reference ≠ some r ∨ c.port ≠ p.val ∨ w.targetDrop ≠ some c.dropId ∨ c.state.ranged = false) →
        exec (.referenceClose p) s = .next failed.settle)
      ∧ (s.verifies r = true → q.changeover.reference = some r → c.port = p.val → w.targetDrop = some c.dropId →
          c.state.ranged = true →
        (w.captured = none → q.changeover.windows < 3 → exec (.referenceClose p) s = .next base.settle)
        ∧ (w.captured = none → 3 ≤ q.changeover.windows → exec (.referenceClose p) s = .next failed.settle)
        ∧ ∀ (e : Captured) (g : Ranging) (shift : Int) (old : Nat → Record) (moved : Nat → Option Nat) (sync : Nat → DelaySync)
            (ranged lost waits served : List Nat) (freed : Port),
          w.captured = some e → c.ranging = some g → s.allVerify →
          shift = (e.offset : Int) - q.config.tr - g.eqd - q.loopOffset - g.roundTrip →
          old = (fun n => if n = r then
            { c with
              lastLevel := e.level
              levelCondition := if e.level = 0 ∨ e.level < q.config.lo then .weak
                else if e.level ≤ q.config.hi then .normal else .hot }
            else s.record n) →
          ranged = (List.range 480).filter (fun n =>
            (s.record n).port == p.val && (s.record n).state.ranged && (s.record n).ranging.isSome) →
          moved = (fun n => (s.record n).ranging.bind (fun h =>
            if 0 ≤ h.roundTrip + shift ∧ h.roundTrip + shift ≤ q.config.teq then some (h.roundTrip + shift).toNat
            else none)) →
          lost = ranged.filter (fun n => (moved n).isNone) →
          freed = q.offered (lost.map (fun n => .release p.val (s.record n).dropId)) →
          sync = (fun n =>
            if n ∈ lost then
              match (s.record n).delaySync with
              | .waiting => .synced
              | d => d
            else if n ∈ ranged then
              match (s.record n).delaySync with
              | .synced => .waiting
              | d => d
            else (s.record n).delaySync) →
          waits = (List.range 480).filter (fun n =>
            (s.record n).port == p.val && sync n == .waiting && !s.setDelayQueued allPorts n) →
          served = waits.take (64 - freed.outbound.length) →
          ∃ t, exec (.referenceClose p) s = .next t
            ∧ t.port p.val =
                { freed with
                  window := none
                  gapCounter := 0
                  state := .run
                  owed := 8
                  changeover := { reference := none, previousFeed := none, windows := 0, lastOffset := some shift }
                  dropMap := q.dropMap.filter (fun e => !(lost.map (fun n => (s.record n).dropId)).contains e.1)
                  outbound := freed.outbound ++ served.map Descriptor.setDelay
                  conditions := { freed.conditions with changeoverDone := true } }
            ∧ (∀ n ∈ ranged, ∀ x, moved n = some x →
                t.record n =
                  { old n with
                    cause := .coAdjusted
                    ranging := some
                      { roundTrip := x, eqd := q.config.teq - x, length := (x * 817 + 5000) / 10000 }
                    delaySync := if n ∈ served then .queued else sync n
                    outstanding := (s.record n).outstanding + (if n ∈ served then 1 else 0) })
            ∧ (∀ n ∈ lost,
                t.record n =
                  { old n with
                    state := .expected
                    cause := .coLost
                    dropId := 0
                    misses := 0
                    ranging := none
                    delaySync := sync n })
            ∧ (∀ n ∈ served, n ∉ ranged →
                t.record n =
                  { s.record n with delaySync := .queued, outstanding := (s.record n).outstanding + 1 })
            ∧ s.recordsKept t (ranged ++ served) ∧ t.allVerify ∧ s.portsKept t [p.val]
            ∧ t = { s with
                records := t.records
                ports := t.ports
                changed := ranged.foldl insertNumber s.changed
                attention := t.attention })

/-- R53, R54, R112: a LOOP close collects four offsets; the fourth sets the loop offset to their mean, rounded down, where they lie within 8
of one another and the mean within 4,095; a window without a result, or a bad set, fails the calibration.
The row closes the window at whatever moment it is sent (log entry 4). -/
def Obligations.LoopCloseCalibrates : Prop :=
  ∀ (p : Lane) (s base : State) (w : OpenWindow) (q : Port),
    s.resetHeld = false → q = s.port p.val → q.window = some w → w.kind = .loop →
    base = s.modPort p.val (fun q => { q with window := none, gapCounter := 0 }) →
    (w.captured = none →
      exec (.loopClose p) s = .next (base.modPort p.val (fun q =>
        { q with
          state := .standby
          calibration := []
          conditions := { q.conditions with calibrationFailed := true } })).settle)
    ∧ (∀ e, w.captured = some e → q.calibration.length < 3 →
      exec (.loopClose p) s = .next
        (base.modPort p.val (fun q => { q with calibration := q.calibration ++ [e.offset] })).settle)
    ∧ (∀ a b d e, w.captured = some e → q.calibration = [a, b, d] →
      (max (max a b) (max d e.offset) - min (min a b) (min d e.offset) ≤ 8 →
          (a + b + d + e.offset) / 4 ≤ 4095 →
        exec (.loopClose p) s = .next (base.modPort p.val (fun q =>
          { q with
            state := .standby
            calibration := []
            loopOffset := (a + b + d + e.offset) / 4
            calibrated := true
            conditions := { q.conditions with calibrationDone := true } })).settle)
      ∧ ((8 < max (max a b) (max d e.offset) - min (min a b) (min d e.offset)
          ∨ 4095 < (a + b + d + e.offset) / 4) →
        exec (.loopClose p) s = .next (base.modPort p.val (fun q =>
          { q with
            state := .standby
            calibration := []
            conditions := { q.conditions with calibrationFailed := true } })).settle))

/-- R69, R70, R164: the end of an upkeep period, the due flag, and the scrubber's verification, with damage handled where it is found.
The rows say that their moment has come (log entry 4). -/
def Obligations.PeriodsFallDue : Prop :=
  ∀ (p : Lane) (s : State) (q : Port), s.resetHeld = false → q = s.port p.val →
    (q.state = .run →
      ((∃ n, n < 480 ∧ (s.record n).port = p.val ∧ (s.record n).state.ranged = true) →
        exec (.upkeepPeriodEnd p) s = .next (s.modPort p.val (fun q =>
          { q with
            periodTimer := 0
            owed := if q.owed < 8 then q.owed + 1 else q.owed
            conditions := { q.conditions with
              upkeepOverrun := q.conditions.upkeepOverrun || decide (8 ≤ q.owed) } })).settle)
      ∧ ((¬ ∃ n, n < 480 ∧ (s.record n).port = p.val ∧ (s.record n).state.ranged = true) →
        exec (.upkeepPeriodEnd p) s = .next (s.modPort p.val (fun q => { q with periodTimer := 0 })).settle)
      ∧ ((q.config.mode = .always ∨ (q.config.mode = .planned ∧
            ∃ n, n < 480 ∧ (s.record n).port = p.val ∧ (s.record n).state = .expected)) →
        exec (.discoveryDue p) s = .next (s.modPort p.val (fun q => { q with due := true })).settle)
      ∧ ((q.config.mode = .off ∨ (q.config.mode = .planned ∧
            ¬ ∃ n, n < 480 ∧ (s.record n).port = p.val ∧ (s.record n).state = .expected)) →
        exec (.discoveryDue p) s = .next s.settle))
    ∧ (s.verifies s.scrubCursor = true →
      exec .scrubVerify s = .next
        ({ s with scrubCounter := 0, scrubCursor := (s.scrubCursor + 1) % 480 } : State).settle)
    ∧ (s.verifies s.scrubCursor = false →
      exec .scrubVerify s = .next
        ({ s.damage s.scrubCursor with scrubCounter := 0, scrubCursor := (s.scrubCursor + 1) % 480 } : State).settle)

/-! ### The framer's traffic -/

/-- R72 to R74: which arrival reports are stale, what an INVITE window queues and counts, and which report an echo-kind or LOOP window
captures; a HELLO without a serial counts as GARBLED (R186).
A levelable byte that is neither 00h nor 01h is a free value (log entry 16) and is left out. -/
def Obligations.ReportsGoToTheirWindow : Prop :=
  ∀ (p : Lane) (f : ReportFields) (s : State) (q : Port), s.resetHeld = false → q = s.port p.val →
    ((q.window = none ∨ (∃ w, q.window = some w ∧ w.tag ≠ f.tag.toNat) ∨ 312499 < f.offset.toNat) →
      exec (.arrivalReport p f) s = .next s.settle)
    ∧ (∀ w, q.window = some w → w.tag = f.tag.toNat → f.offset.toNat ≤ 312499 →
      (w.kind = .invite → f.kind = 1#8 → f.serial ≠ 0 → q.arrivals.length < 16 →
          (f.levelable = 0#8 ∨ f.levelable = 1#8) →
        exec (.arrivalReport p f) s = .next (s.modPort p.val (fun q =>
          { q with
            arrivals := q.arrivals ++ [
              { tag := f.tag.toNat, offset := f.offset.toNat, level := f.level.toNat,
                hello := some (f.serial, f.levelable == 1#8) }]
            window := some { w with clean := if w.clean < 255 then w.clean + 1 else w.clean } })).settle)
      ∧ (w.kind = .invite → (f.kind = 3#8 ∨ (f.kind = 1#8 ∧ f.serial = 0)) → q.arrivals.length < 16 →
        exec (.arrivalReport p f) s = .next (s.modPort p.val (fun q =>
          { q with
            arrivals := q.arrivals ++ [
              { tag := f.tag.toNat, offset := f.offset.toNat, level := f.level.toNat, hello := none }]
            window := some { w with garbled := if w.garbled < 255 then w.garbled + 1 else w.garbled } })).settle)
      ∧ (w.kind = .invite → (f.kind = 1#8 ∨ f.kind = 3#8) → 16 ≤ q.arrivals.length →
        exec (.arrivalReport p f) s = .next
          (s.modPort p.val (fun q => { q with window := some { w with overrun := true } })).settle)
      ∧ (w.kind ≠ .invite → w.kind ≠ .loop → f.kind = 2#8 → w.targetDrop = some f.dropId.toNat →
          w.captured = none →
        exec (.arrivalReport p f) s = .next (s.modPort p.val (fun q =>
          { q with window := some { w with
            captured := some { offset := f.offset.toNat, level := f.level.toNat } } })).settle)
      ∧ (w.kind = .loop → f.kind = 4#8 → w.captured = none →
        exec (.arrivalReport p f) s = .next (s.modPort p.val (fun q =>
          { q with window := some { w with
            captured := some { offset := f.offset.toNat, level := f.level.toNat } } })).settle)
      ∧ (((w.kind = .invite ∧ (f.kind = 2#8 ∨ f.kind = 4#8)) ∨ (w.kind = .loop ∧ f.kind ≠ 4#8)
            ∨ (w.kind ≠ .invite ∧ w.kind ≠ .loop ∧ (f.kind ≠ 2#8 ∨ w.targetDrop ≠ some f.dropId.toNat))
            ∨ (w.kind ≠ .invite ∧ w.captured ≠ none)) →
        exec (.arrivalReport p f) s = .next s.settle))

/-- R86 to R96: the report at the head comes into processing in RUN, and the registry step of a HELLO does what the record that holds its
serial, or the stranger list, asks for; a serial heard twice in a window is passed over. A record in service that is named again gets a
SHUT ahead of its NAME where it was ACTIVE (R34, R92), and what finds the outbound queue full is dropped with OUTBOUND_OVERRUN (R77).
A record in service that finds the activation queue full keeps its last heard port (log entry 33).
When the two rows are sent is the sender's choice (log entry 5). -/
def Obligations.HellosTakeTheirRegistryStep : Prop :=
  ∀ (p : Lane) (s : State) (q : Port), s.resetHeld = false → q = s.port p.val →
    (∀ x xs, q.state = .run → q.processing = none → q.arrivals = x :: xs →
      exec (.reportProcessingStart p) s = .next
        (s.modPort p.val (fun q => { q with arrivals := xs, processing := some x })).settle)
    ∧ ((q.state ≠ .run ∨ q.processing ≠ none ∨ q.arrivals = []) →
      exec (.reportProcessingStart p) s = .next s.settle)
    ∧ (q.processing = none → exec (.reportRegistryStep p) s = .next s.settle)
    ∧ (∀ f, q.processing = some f → f.hello = none →
      exec (.reportRegistryStep p) s = .next (s.modPort p.val (fun q => { q with processing := none })).settle)
    ∧ (∀ f x lev, q.processing = some f → f.hello = some (x, lev) → q.heardTag = some f.tag → x ∈ q.heard →
      exec (.reportRegistryStep p) s = .next (s.modPort p.val (fun q => { q with processing := none })).settle)
    ∧ (∀ (f : QueuedReport) (x : Serial) (lev : Bool) (base : State), q.processing = some f →
        f.hello = some (x, lev) → (q.heardTag ≠ some f.tag ∨ x ∉ q.heard) →
        base = s.modPort p.val (fun q =>
          { q with
            processing := none
            heard := if q.heardTag = some f.tag then (if q.heard.length < 16 then q.heard ++ [x] else q.heard)
              else [x]
            heardTag := some f.tag }) →
      (mapGet s.serialIndex x.toNat = none → s.stranger x = none →
        exec (.reportRegistryStep p) s = .next ({ base with
          strangers := (if s.strangers.length < 16 then s.strangers else s.strangers.drop 1) ++
            [{ serial := x, port := p.val, levelable := lev, sightings := 1, lastFrame := q.frame }]
          newStranger := true } : State).settle)
      ∧ (∀ e, mapGet s.serialIndex x.toNat = none → s.stranger x = some e →
        exec (.reportRegistryStep p) s = .next ({ base with
          strangers := s.strangers.map (fun e => if e.serial = x then
            { e with port := p.val, levelable := lev, sightings := min (e.sightings + 1) 255, lastFrame := q.frame }
            else e) } : State).settle)
      ∧ (∀ r, mapGet s.serialIndex x.toNat = some r → s.verifies r = false →
        exec (.reportRegistryStep p) s = .next (base.damage r).settle)
      ∧ (∀ (r : Nat) (c : Record), mapGet s.serialIndex x.toNat = some r → s.verifies r = true → c = s.record r →
        (c.port = p.val → c.state = .expected →
          exec (.reportRegistryStep p) s = .next (base.nameExpected p.val r .named (some lev)).settle)
        ∧ (c.port = p.val → c.state = .barred → exec (.reportRegistryStep p) s = .next base.settle)
        ∧ (c.port = p.val → c.state.activating = true → r < 480 → 3 ≤ c.attempts + 1 →
          exec (.reportRegistryStep p) s = .next
            ((base.freshRecord r { c with attempts := c.attempts + 1 }).failActivation p.val r
              .failedNoEcho).settle)
        ∧ (c.port = p.val → c.state.activating = true → r < 480 → c.attempts + 1 < 3 →
          exec (.reportRegistryStep p) s = .next
            (((base.modPort p.val (fun q =>
              { q.offered [.name r] with
                activation := q.activation.map (fun e =>
                  if e.record = r then { e with phase := .awaitEcho } else e) })).freshRecord r
              { c with
                state := .named
                cause := .restarted
                attempts := c.attempts + 1
                ranging := none
                delaySync := match c.delaySync with
                  | .waiting => .synced
                  | d => d
                levelable := some lev
                lastHeard := none
                outstanding := c.outstanding + min 1 (64 - q.outbound.length) }).noteChanged r).settle)
        ∧ (∀ named : List Descriptor, c.port = p.val → c.state.ranged = true → r < 480 → q.activation.length < 8 →
            named = (if c.state = .active then [.shut r] else []) ++ [.name r] →
          exec (.reportRegistryStep p) s = .next
            (((base.modPort p.val (fun q =>
              { q.offered named with
                activation := q.activation ++ [{ record := r, phase := .awaitEcho }] })).freshRecord r
              { c with
                state := .named
                cause := .restarted
                attempts := 0
                rounds := 0
                misses := 0
                ranging := none
                delaySync := match c.delaySync with
                  | .waiting => .synced
                  | d => d
                levelable := some lev
                lastHeard := none
                outstanding := c.outstanding + min named.length (64 - q.outbound.length) }).noteChanged r).settle)
        ∧ (c.port = p.val → c.state.ranged = true → 8 ≤ q.activation.length →
          exec (.reportRegistryStep p) s = .next
            (((base.modPort p.val (fun q =>
              { q with
                dropMap := mapErase q.dropMap c.dropId
                conditions := { q.conditions with deferred := true } })).freshRecord r
              { c with
                state := .expected
                cause := .restarted
                dropId := 0
                misses := 0
                ranging := none
                delaySync := c.delaySync.eqdAbsent }).noteChanged r).settle)
        ∧ (c.port ≠ p.val → s.phase = .build → c.state = .expected → c.pinned = false →
          exec (.reportRegistryStep p) s = .next
            (((base.freshRecord r { c with port := p.val, lastHeard := none, cause := .moved }).noteChanged
              r).nameExpected p.val r .moved (some lev)).settle)
        ∧ (c.port ≠ p.val → (s.phase = .service ∨ c.state ≠ .expected ∨ c.pinned = true) →
          exec (.reportRegistryStep p) s = .next
            ((base.freshRecord r
              { c with
                lastHeard := some p.val
                cause := if c.state = .expected ∨ c.state = .barred then .wrongTree else .serialConflict }).noteChanged
              r).settle)))

/-- R78 and R79: a message take hands over the head descriptor, filled from its record as it then stands, or VOID, and the place it frees
goes to the WAITING record of lowest number. A take from an empty queue is answered EMPTY and changes nothing else. The WAITING records of
a port get their SET DELAY, lowest number first, while the queue has room; one that a SET DELAY names already gets no second (R76; log
entry 28), and a record verifies afterwards exactly when it did before (log entry 6).
The lane carries an answer's kind, drop id, serial, level index and delay (R186).
The answer stands in the model's own output field (log entry 22), the order of damage and fill is log entry 13, and the moment of the row
SET_DELAY_QUEUE is its sender's (log entry 5). -/
def Obligations.MessagesAreTaken : Prop :=
  ∀ (p : Lane) (s : State) (q : Port) (fills : State → State → Prop), s.resetHeld = false → q = s.port p.val →
    fills = (fun u t => ∀ waits served,
      waits = (List.range 480).filter (fun n =>
        (u.record n).port == p.val && (u.record n).delaySync == .waiting && !u.setDelayQueued allPorts n) →
      served = waits.take (64 - (u.port p.val).outbound.length) →
      t.port p.val = { u.port p.val with outbound := (u.port p.val).outbound ++ served.map Descriptor.setDelay }
        ∧ (∀ n ∈ served,
            t.record n = { u.record n with delaySync := .queued, outstanding := (u.record n).outstanding + 1 }
              ∧ t.verifies n = u.verifies n)
        ∧ u.recordsKept t served ∧ u.portsKept t [p.val]
        ∧ t = { u with records := t.records, ports := t.ports, attention := t.attention }) →
    (∀ a : TakeAnswer, a.bytes =
      [BitVec.ofNat 8 ([TakeKind.empty, .name, .setDelay, .level, .openDrop, .shut, .release, .void].idxOf a.kind),
          BitVec.ofNat 8 a.dropId]
        ++ (List.range 8).map (fun i => BitVec.ofNat 8 (a.serial.toNat / 256 ^ (7 - i)))
        ++ [BitVec.ofNat 8 a.levelIndex, BitVec.ofNat 8 (a.delay / 65536), BitVec.ofNat 8 (a.delay / 256),
          BitVec.ofNat 8 a.delay])
    ∧ (∃ t, exec (.setDelayQueue p) s = .next t ∧ fills s t)
    ∧ (q.outbound = [] →
      exec (.messageTake p) s = .next
        (s.modPort p.val (fun q => { q with takeAnswer := TakeAnswer.ofKind .empty })).settle)
    ∧ (∀ r d ds, q.outbound = d :: ds → d.names = some r → s.verifies r = false →
      ∃ t, exec (.messageTake p) s = .next t
        ∧ fills (((s.modPort p.val (fun q => { q with outbound := ds })).damage r).modPort p.val
            (fun q => { q with takeAnswer := TakeAnswer.ofKind .void })) t)
    ∧ (∀ x d ds, q.outbound = .release x d :: ds →
      ∃ t, exec (.messageTake p) s = .next t
        ∧ fills (s.modPort p.val (fun q =>
            { q with
              outbound := ds
              takeAnswer := { kind := .release, dropId := d, serial := 0, levelIndex := 0, delay := 0 } })) t)
    ∧ (∀ (r : Nat) (d : Descriptor) (ds : List Descriptor) (c : Record) (a : TakeAnswer),
      q.outbound = d :: ds → d.names = some r → r < 480 → s.verifies r = true → c = s.record r →
      ((c.port ≠ p.val ∧ a = TakeAnswer.ofKind .void)
        ∨ (c.port = p.val ∧ d = .name r ∧
          a = if c.state.activating then
            { kind := .name, dropId := c.dropId, serial := c.serial.getD 0, levelIndex := c.levelIndex, delay := 0 }
            else TakeAnswer.ofKind .void)
        ∨ (c.port = p.val ∧ d = .setDelay r ∧
          a = match c.ranging with
            | some g => if c.dropId = 0 then TakeAnswer.ofKind .void
              else { kind := .setDelay, dropId := c.dropId, serial := 0, levelIndex := 0, delay := g.eqd }
            | none => TakeAnswer.ofKind .void)
        ∨ (c.port = p.val ∧ d = .level r ∧
          a = if c.dropId = 0 then TakeAnswer.ofKind .void
            else { kind := .level, dropId := c.dropId, serial := 0, levelIndex := c.levelIndex, delay := 0 })
        ∨ (c.port = p.val ∧ d = .openDrop r ∧
          a = if c.state = .active then
            { kind := .openDrop, dropId := c.dropId, serial := 0, levelIndex := 0, delay := 0 }
            else TakeAnswer.ofKind .void)
        ∨ (c.port = p.val ∧ d = .shut r ∧
          a = if c.state = .active ∨ c.dropId = 0 then TakeAnswer.ofKind .void
            else { kind := .shut, dropId := c.dropId, serial := 0, levelIndex := 0, delay := 0 })) →
      ∃ t, exec (.messageTake p) s = .next t
        ∧ fills ((s.modPort p.val (fun q => { q with outbound := ds, takeAnswer := a })).freshRecord r
            { c with
              outstanding := c.outstanding - 1
              delaySync := if d = .setDelay r then .synced else c.delaySync }) t)

/-- R31: an admission lookup answers OPEN with the service class exactly when the port is not DOWN and the drop map names a record that
verifies and is ACTIVE; it changes nothing else, but for damage it finds.
The answer stands in the model's own output field (log entry 22). -/
def Obligations.LookupsOpenTheActiveDrop : Prop :=
  ∀ (p : Lane) (b : Byte) (s : State) (q : Port) (answered : Byte → State), s.resetHeld = false →
    q = s.port p.val → answered = (fun x => s.modPort p.val (fun q => { q with lookupAnswer := x })) →
    ((q.state = .down ∨ b.toNat = 0 ∨ 126 < b.toNat ∨ mapGet q.dropMap b.toNat = none) →
      exec (.admissionLookup p b) s = .next (answered 0#8).settle)
    ∧ (∀ r, q.state ≠ .down → 1 ≤ b.toNat → b.toNat ≤ 126 → mapGet q.dropMap b.toNat = some r →
      (s.verifies r = true → (s.record r).state = .active →
        exec (.admissionLookup p b) s = .next (answered (0x80#8 + BitVec.ofNat 8 (s.record r).serviceClass)).settle)
      ∧ (s.verifies r = true → (s.record r).state ≠ .active →
        exec (.admissionLookup p b) s = .next (answered 0#8).settle)
      ∧ (s.verifies r = false →
        exec (.admissionLookup p b) s = .next
          ((s.damage r).modPort p.val (fun q => { q with lookupAnswer := 0#8 })).settle))

/-! ### What every step keeps -/

/-- Every step leaves the attention output asserted exactly while one of R178's five conditions holds (an idle step keeps it so), and keeps
the integrity count and its latch (R169), and the SERVICE phase, which only a hard reset ends (R171). -/
def Obligations.StepsKeepAttentionIntegrityAndPhase : Prop :=
  ∀ (s t : State) (due : State → Prop), step s = .next t →
    due = (fun u =>
      u.changed ≠ []
        ∨ (∃ p c, p < 4 ∧ c = (u.port p).conditions
          ∧ (c.upkeepOverrun = true ∨ c.outboundOverrun = true ∨ c.portFull = true ∨ c.deferred = true
            ∨ c.calibrationDone = true ∨ c.calibrationFailed = true ∨ c.changeoverDone = true
            ∨ c.changeoverFailed = true))
        ∨ u.newStranger = true ∨ 0 < u.integrityCount ∨ u.host.replies ≠ []) →
    ((s.pending ≠ [] ∨ (s.attention = true ↔ due s)) → (t.attention = true ↔ due t))
    ∧ (s.integrityLatched → t.integrityLatched)
    ∧ (s.phase = .service → s.pending.head? ≠ some .hardResetAssert → t.phase = .service)

/-- Every step keeps the bounds of the queues, lists and counters, the agreement of windows and changeovers with the port states, and
the rising order of the maps, the indexes and the changed set; and no step queues a second SET DELAY for a record that one names already
(R76; log entry 28). -/
def Obligations.StepsKeepBoundsWindowsAndMaps : Prop :=
  ∀ s t : State, step s = .next t →
    (s.bounded → t.bounded) ∧ (s.lawful → t.lawful) ∧ (s.mapsRise → t.mapsRise)
      ∧ (s.oneSetDelay → t.oneSetDelay)

/-- Only a storage upset makes a record stop verifying: every other step from a state whose records all verify leaves them so (R162,
R163). Such a step also keeps the records tied to all that refers to them: a record's state to its drop id, its round trip and its port's
drop map (R2, R27), three failures to BARRED (R3), its serial and plot to the indexes (R6, R7), its outstanding count and its one SET DELAY
to the outbound queues (R4, R76), its EqD and length to its round trip and Teq (R102, R103), and its activation to an entry of its port in
the phase of its state (R114).
That a rule keeps a mismatch it finds is log entry 6. -/
def Obligations.RecordsVerifyUntilAnUpset : Prop :=
  ∀ s t : State, s.allVerify → step s = .next t →
    (∀ r image check rest, s.pending ≠ .storageUpset r image check :: rest) →
    t.allVerify ∧ (s.mapsRise → s.tied → t.tied)

end
end

