-- ==== Sys2Proof/Laws/Maps.lean ====
section
/-! SUPPORT. The number maps (drop maps, serial index, plot index) and the rising lists: what is read back, and that their order is
kept. -/

namespace Sys2Proof.Machine

theorem mapGet_mapPut_self (m : NumMap) (k v : Nat) : mapGet (mapPut m k v) k = some v := by
  induction m with
  | nil => simp [mapPut, mapGet]
  | cons e m ih =>
    simp only [mapPut]
    split
    · simp [mapGet]
    · split
      · simp [mapGet]
      · next h => simp [mapGet, h, ih]

theorem mapGet_mapPut_ne (m : NumMap) {k k' : Nat} (h : k' ≠ k) (v : Nat) :
    mapGet (mapPut m k v) k' = mapGet m k' := by
  induction m with
  | nil => simp [mapPut, mapGet, h.symm]
  | cons e m ih =>
    simp only [mapPut]
    split
    · simp [mapGet, h.symm]
    · split
      · next he => simp [mapGet, he, h.symm]
      · simp [mapGet, ih]

theorem mapGet_mapErase_self (m : NumMap) (k : Nat) : mapGet (mapErase m k) k = none := by
  induction m with
  | nil => rfl
  | cons e m ih =>
    rw [mapErase, List.filter_cons]
    split
    · next h =>
      have h' : e.1 ≠ k := by simpa using h
      rw [mapGet, if_neg h']
      exact ih
    · exact ih

theorem mapGet_mapErase_ne (m : NumMap) {k k' : Nat} (h : k' ≠ k) : mapGet (mapErase m k) k' = mapGet m k' := by
  induction m with
  | nil => rfl
  | cons e m ih =>
    rw [mapErase, List.filter_cons]
    split
    · simp only [mapGet]
      split
      · rfl
      · exact ih
    · next he =>
      have he' : e.1 = k := by simpa using he
      rw [mapGet, if_neg (by omega)]
      exact ih

/-- Every key of a map after an entry is the key entered or one it had. -/
theorem mem_mapPut_keys {m : NumMap} {k v x : Nat} (h : x ∈ (mapPut m k v).map Prod.fst) :
    x = k ∨ x ∈ m.map Prod.fst := by
  induction m with
  | nil => simpa [mapPut] using h
  | cons e m ih =>
    simp only [mapPut] at h
    split at h
    · simpa using h
    · split at h
      · next he =>
        simp only [List.map_cons, List.mem_cons] at h ⊢
        rcases h with h | h
        · exact .inl h
        · exact .inr (.inr h)
      · simp only [List.map_cons, List.mem_cons] at h ⊢
        rcases h with h | h
        · exact .inr (.inl h)
        · exact (ih h).imp id .inr

/-- Entering a key keeps the keys rising (R6, R7, R27). -/
theorem rising_mapPut {m : NumMap} (h : rising (m.map Prod.fst)) (k v : Nat) :
    rising ((mapPut m k v).map Prod.fst) := by
  induction m with
  | nil => simp [mapPut]
  | cons e m ih =>
    have hc := List.pairwise_cons.mp h
    simp only [mapPut]
    split
    · next hk =>
      refine List.pairwise_cons.mpr ⟨?_, h⟩
      intro x hx
      rcases List.mem_cons.mp hx with rfl | hx
      · exact hk
      · exact Nat.lt_trans hk (hc.1 x hx)
    · split
      · next he =>
        subst he
        exact h
      · refine List.pairwise_cons.mpr ⟨?_, ih hc.2⟩
        intro x hx
        rcases mem_mapPut_keys hx with rfl | hx
        · omega
        · exact hc.1 x hx

/-- Taking entries away keeps the keys rising. -/
theorem rising_filter {m : NumMap} (h : rising (m.map Prod.fst)) (f : Nat × Nat → Bool) :
    rising ((m.filter f).map Prod.fst) := h.sublist (List.filter_sublist.map _)

theorem rising_mapErase {m : NumMap} (h : rising (m.map Prod.fst)) (k : Nat) : rising ((mapErase m k).map Prod.fst) :=
  rising_filter h _

theorem rising_mapEraseRecord {m : NumMap} (h : rising (m.map Prod.fst)) (r : Nat) :
    rising ((mapEraseRecord m r).map Prod.fst) := rising_filter h _

@[simp] theorem mem_insertNumber {ns : List Nat} {n x : Nat} : x ∈ insertNumber ns n ↔ x = n ∨ x ∈ ns := by
  induction ns with
  | nil => simp [insertNumber]
  | cons m ns ih =>
    simp only [insertNumber]
    split
    · simp
    · split
      · next h => subst h; simp
      · simp only [List.mem_cons, ih]; tauto

theorem rising_insertNumber {ns : List Nat} (h : rising ns) (n : Nat) : rising (insertNumber ns n) := by
  induction ns with
  | nil => simp [insertNumber]
  | cons m ns ih =>
    have hc := List.pairwise_cons.mp h
    simp only [insertNumber]
    split
    · next hk =>
      refine List.pairwise_cons.mpr ⟨?_, h⟩
      intro x hx
      rcases List.mem_cons.mp hx with rfl | hx
      · exact hk
      · exact Nat.lt_trans hk (hc.1 x hx)
    · split
      · exact h
      · refine List.pairwise_cons.mpr ⟨?_, ih hc.2⟩
        intro x hx
        rcases mem_insertNumber.mp hx with rfl | hx
        · omega
        · exact hc.1 x hx

/-- A number that is already in the changed set leaves it as it is. -/
theorem insertNumber_insertNumber (ns : List Nat) (n : Nat) :
    insertNumber (insertNumber ns n) n = insertNumber ns n := by
  induction ns with
  | nil => simp [insertNumber]
  | cons m ns ih =>
    simp only [insertNumber]
    split
    · simp [insertNumber]
    · split
      · next h1 h2 => simp [insertNumber, h2]
      · next h1 h2 => simp [insertNumber, h1, h2, ih]

end Sys2Proof.Machine
end

