-- ==== Sys2Proof/Laws/State.lean ====
section
/-! SUPPORT. What each record update of the state leaves alone, field by field, and what reading a record, a port or a link gives after
it. Nothing here says what a command does. -/

namespace Sys2Proof.Machine

variable (s : State)

/-! ### Fields after `store` -/

@[simp] theorem State.store_serialIndex (n : Nat) (x : StoredRecord) : (s.store n x).serialIndex = s.serialIndex := rfl
@[simp] theorem State.store_plotIndex (n : Nat) (x : StoredRecord) : (s.store n x).plotIndex = s.plotIndex := rfl
@[simp] theorem State.store_strangers (n : Nat) (x : StoredRecord) : (s.store n x).strangers = s.strangers := rfl
@[simp] theorem State.store_changed (n : Nat) (x : StoredRecord) : (s.store n x).changed = s.changed := rfl
@[simp] theorem State.store_phase (n : Nat) (x : StoredRecord) : (s.store n x).phase = s.phase := rfl
@[simp] theorem State.store_ports (n : Nat) (x : StoredRecord) : (s.store n x).ports = s.ports := rfl
@[simp] theorem State.store_newStranger (n : Nat) (x : StoredRecord) : (s.store n x).newStranger = s.newStranger := rfl
@[simp] theorem State.store_scrubCursor (n : Nat) (x : StoredRecord) : (s.store n x).scrubCursor = s.scrubCursor := rfl
@[simp] theorem State.store_scrubInterval (n : Nat) (x : StoredRecord) : (s.store n x).scrubInterval = s.scrubInterval := rfl
@[simp] theorem State.store_scrubCounter (n : Nat) (x : StoredRecord) : (s.store n x).scrubCounter = s.scrubCounter := rfl
@[simp] theorem State.store_integrityCount (n : Nat) (x : StoredRecord) : (s.store n x).integrityCount = s.integrityCount := rfl
@[simp] theorem State.store_firstDamaged (n : Nat) (x : StoredRecord) : (s.store n x).firstDamaged = s.firstDamaged := rfl
@[simp] theorem State.store_host (n : Nat) (x : StoredRecord) : (s.store n x).host = s.host := rfl
@[simp] theorem State.store_craft (n : Nat) (x : StoredRecord) : (s.store n x).craft = s.craft := rfl
@[simp] theorem State.store_craftIdle (n : Nat) (x : StoredRecord) : (s.store n x).craftIdle = s.craftIdle := rfl
@[simp] theorem State.store_lastServed (n : Nat) (x : StoredRecord) : (s.store n x).lastServed = s.lastServed := rfl
@[simp] theorem State.store_hostRead (n : Nat) (x : StoredRecord) : (s.store n x).hostRead = s.hostRead := rfl
@[simp] theorem State.store_attention (n : Nat) (x : StoredRecord) : (s.store n x).attention = s.attention := rfl
@[simp] theorem State.store_resetHeld (n : Nat) (x : StoredRecord) : (s.store n x).resetHeld = s.resetHeld := rfl
@[simp] theorem State.store_pending (n : Nat) (x : StoredRecord) : (s.store n x).pending = s.pending := rfl

/-! ### Fields after `modRecord` -/

@[simp] theorem State.modRecord_serialIndex (n : Nat) (f : Record → Record) : (s.modRecord n f).serialIndex = s.serialIndex := rfl
@[simp] theorem State.modRecord_plotIndex (n : Nat) (f : Record → Record) : (s.modRecord n f).plotIndex = s.plotIndex := rfl
@[simp] theorem State.modRecord_strangers (n : Nat) (f : Record → Record) : (s.modRecord n f).strangers = s.strangers := rfl
@[simp] theorem State.modRecord_changed (n : Nat) (f : Record → Record) : (s.modRecord n f).changed = s.changed := rfl
@[simp] theorem State.modRecord_phase (n : Nat) (f : Record → Record) : (s.modRecord n f).phase = s.phase := rfl
@[simp] theorem State.modRecord_ports (n : Nat) (f : Record → Record) : (s.modRecord n f).ports = s.ports := rfl
@[simp] theorem State.modRecord_newStranger (n : Nat) (f : Record → Record) : (s.modRecord n f).newStranger = s.newStranger := rfl
@[simp] theorem State.modRecord_scrubCursor (n : Nat) (f : Record → Record) : (s.modRecord n f).scrubCursor = s.scrubCursor := rfl
@[simp] theorem State.modRecord_scrubInterval (n : Nat) (f : Record → Record) : (s.modRecord n f).scrubInterval = s.scrubInterval := rfl
@[simp] theorem State.modRecord_scrubCounter (n : Nat) (f : Record → Record) : (s.modRecord n f).scrubCounter = s.scrubCounter := rfl
@[simp] theorem State.modRecord_integrityCount (n : Nat) (f : Record → Record) : (s.modRecord n f).integrityCount = s.integrityCount := rfl
@[simp] theorem State.modRecord_firstDamaged (n : Nat) (f : Record → Record) : (s.modRecord n f).firstDamaged = s.firstDamaged := rfl
@[simp] theorem State.modRecord_host (n : Nat) (f : Record → Record) : (s.modRecord n f).host = s.host := rfl
@[simp] theorem State.modRecord_craft (n : Nat) (f : Record → Record) : (s.modRecord n f).craft = s.craft := rfl
@[simp] theorem State.modRecord_craftIdle (n : Nat) (f : Record → Record) : (s.modRecord n f).craftIdle = s.craftIdle := rfl
@[simp] theorem State.modRecord_lastServed (n : Nat) (f : Record → Record) : (s.modRecord n f).lastServed = s.lastServed := rfl
@[simp] theorem State.modRecord_hostRead (n : Nat) (f : Record → Record) : (s.modRecord n f).hostRead = s.hostRead := rfl
@[simp] theorem State.modRecord_attention (n : Nat) (f : Record → Record) : (s.modRecord n f).attention = s.attention := rfl
@[simp] theorem State.modRecord_resetHeld (n : Nat) (f : Record → Record) : (s.modRecord n f).resetHeld = s.resetHeld := rfl
@[simp] theorem State.modRecord_pending (n : Nat) (f : Record → Record) : (s.modRecord n f).pending = s.pending := rfl

/-! ### Fields after `freshRecord` -/

@[simp] theorem State.freshRecord_serialIndex (n : Nat) (r : Record) : (s.freshRecord n r).serialIndex = s.serialIndex := rfl
@[simp] theorem State.freshRecord_plotIndex (n : Nat) (r : Record) : (s.freshRecord n r).plotIndex = s.plotIndex := rfl
@[simp] theorem State.freshRecord_strangers (n : Nat) (r : Record) : (s.freshRecord n r).strangers = s.strangers := rfl
@[simp] theorem State.freshRecord_changed (n : Nat) (r : Record) : (s.freshRecord n r).changed = s.changed := rfl
@[simp] theorem State.freshRecord_phase (n : Nat) (r : Record) : (s.freshRecord n r).phase = s.phase := rfl
@[simp] theorem State.freshRecord_ports (n : Nat) (r : Record) : (s.freshRecord n r).ports = s.ports := rfl
@[simp] theorem State.freshRecord_newStranger (n : Nat) (r : Record) : (s.freshRecord n r).newStranger = s.newStranger := rfl
@[simp] theorem State.freshRecord_scrubCursor (n : Nat) (r : Record) : (s.freshRecord n r).scrubCursor = s.scrubCursor := rfl
@[simp] theorem State.freshRecord_scrubInterval (n : Nat) (r : Record) : (s.freshRecord n r).scrubInterval = s.scrubInterval := rfl
@[simp] theorem State.freshRecord_scrubCounter (n : Nat) (r : Record) : (s.freshRecord n r).scrubCounter = s.scrubCounter := rfl
@[simp] theorem State.freshRecord_integrityCount (n : Nat) (r : Record) : (s.freshRecord n r).integrityCount = s.integrityCount := rfl
@[simp] theorem State.freshRecord_firstDamaged (n : Nat) (r : Record) : (s.freshRecord n r).firstDamaged = s.firstDamaged := rfl
@[simp] theorem State.freshRecord_host (n : Nat) (r : Record) : (s.freshRecord n r).host = s.host := rfl
@[simp] theorem State.freshRecord_craft (n : Nat) (r : Record) : (s.freshRecord n r).craft = s.craft := rfl
@[simp] theorem State.freshRecord_craftIdle (n : Nat) (r : Record) : (s.freshRecord n r).craftIdle = s.craftIdle := rfl
@[simp] theorem State.freshRecord_lastServed (n : Nat) (r : Record) : (s.freshRecord n r).lastServed = s.lastServed := rfl
@[simp] theorem State.freshRecord_hostRead (n : Nat) (r : Record) : (s.freshRecord n r).hostRead = s.hostRead := rfl
@[simp] theorem State.freshRecord_attention (n : Nat) (r : Record) : (s.freshRecord n r).attention = s.attention := rfl
@[simp] theorem State.freshRecord_resetHeld (n : Nat) (r : Record) : (s.freshRecord n r).resetHeld = s.resetHeld := rfl
@[simp] theorem State.freshRecord_pending (n : Nat) (r : Record) : (s.freshRecord n r).pending = s.pending := rfl

/-! ### Fields after `noteChanged` -/

@[simp] theorem State.noteChanged_records (n : Nat) : (s.noteChanged n).records = s.records := rfl
@[simp] theorem State.noteChanged_serialIndex (n : Nat) : (s.noteChanged n).serialIndex = s.serialIndex := rfl
@[simp] theorem State.noteChanged_plotIndex (n : Nat) : (s.noteChanged n).plotIndex = s.plotIndex := rfl
@[simp] theorem State.noteChanged_strangers (n : Nat) : (s.noteChanged n).strangers = s.strangers := rfl
@[simp] theorem State.noteChanged_phase (n : Nat) : (s.noteChanged n).phase = s.phase := rfl
@[simp] theorem State.noteChanged_ports (n : Nat) : (s.noteChanged n).ports = s.ports := rfl
@[simp] theorem State.noteChanged_newStranger (n : Nat) : (s.noteChanged n).newStranger = s.newStranger := rfl
@[simp] theorem State.noteChanged_scrubCursor (n : Nat) : (s.noteChanged n).scrubCursor = s.scrubCursor := rfl
@[simp] theorem State.noteChanged_scrubInterval (n : Nat) : (s.noteChanged n).scrubInterval = s.scrubInterval := rfl
@[simp] theorem State.noteChanged_scrubCounter (n : Nat) : (s.noteChanged n).scrubCounter = s.scrubCounter := rfl
@[simp] theorem State.noteChanged_integrityCount (n : Nat) : (s.noteChanged n).integrityCount = s.integrityCount := rfl
@[simp] theorem State.noteChanged_firstDamaged (n : Nat) : (s.noteChanged n).firstDamaged = s.firstDamaged := rfl
@[simp] theorem State.noteChanged_host (n : Nat) : (s.noteChanged n).host = s.host := rfl
@[simp] theorem State.noteChanged_craft (n : Nat) : (s.noteChanged n).craft = s.craft := rfl
@[simp] theorem State.noteChanged_craftIdle (n : Nat) : (s.noteChanged n).craftIdle = s.craftIdle := rfl
@[simp] theorem State.noteChanged_lastServed (n : Nat) : (s.noteChanged n).lastServed = s.lastServed := rfl
@[simp] theorem State.noteChanged_hostRead (n : Nat) : (s.noteChanged n).hostRead = s.hostRead := rfl
@[simp] theorem State.noteChanged_attention (n : Nat) : (s.noteChanged n).attention = s.attention := rfl
@[simp] theorem State.noteChanged_resetHeld (n : Nat) : (s.noteChanged n).resetHeld = s.resetHeld := rfl
@[simp] theorem State.noteChanged_pending (n : Nat) : (s.noteChanged n).pending = s.pending := rfl
@[simp] theorem State.noteChanged_changed (n : Nat) : (s.noteChanged n).changed = insertNumber s.changed n := rfl

/-! ### Fields after `change` -/

@[simp] theorem State.change_serialIndex (n : Nat) (f : Record → Record) : (s.change n f).serialIndex = s.serialIndex := rfl
@[simp] theorem State.change_plotIndex (n : Nat) (f : Record → Record) : (s.change n f).plotIndex = s.plotIndex := rfl
@[simp] theorem State.change_strangers (n : Nat) (f : Record → Record) : (s.change n f).strangers = s.strangers := rfl
@[simp] theorem State.change_phase (n : Nat) (f : Record → Record) : (s.change n f).phase = s.phase := rfl
@[simp] theorem State.change_ports (n : Nat) (f : Record → Record) : (s.change n f).ports = s.ports := rfl
@[simp] theorem State.change_newStranger (n : Nat) (f : Record → Record) : (s.change n f).newStranger = s.newStranger := rfl
@[simp] theorem State.change_scrubCursor (n : Nat) (f : Record → Record) : (s.change n f).scrubCursor = s.scrubCursor := rfl
@[simp] theorem State.change_scrubInterval (n : Nat) (f : Record → Record) : (s.change n f).scrubInterval = s.scrubInterval := rfl
@[simp] theorem State.change_scrubCounter (n : Nat) (f : Record → Record) : (s.change n f).scrubCounter = s.scrubCounter := rfl
@[simp] theorem State.change_integrityCount (n : Nat) (f : Record → Record) : (s.change n f).integrityCount = s.integrityCount := rfl
@[simp] theorem State.change_firstDamaged (n : Nat) (f : Record → Record) : (s.change n f).firstDamaged = s.firstDamaged := rfl
@[simp] theorem State.change_host (n : Nat) (f : Record → Record) : (s.change n f).host = s.host := rfl
@[simp] theorem State.change_craft (n : Nat) (f : Record → Record) : (s.change n f).craft = s.craft := rfl
@[simp] theorem State.change_craftIdle (n : Nat) (f : Record → Record) : (s.change n f).craftIdle = s.craftIdle := rfl
@[simp] theorem State.change_lastServed (n : Nat) (f : Record → Record) : (s.change n f).lastServed = s.lastServed := rfl
@[simp] theorem State.change_hostRead (n : Nat) (f : Record → Record) : (s.change n f).hostRead = s.hostRead := rfl
@[simp] theorem State.change_attention (n : Nat) (f : Record → Record) : (s.change n f).attention = s.attention := rfl
@[simp] theorem State.change_resetHeld (n : Nat) (f : Record → Record) : (s.change n f).resetHeld = s.resetHeld := rfl
@[simp] theorem State.change_pending (n : Nat) (f : Record → Record) : (s.change n f).pending = s.pending := rfl
@[simp] theorem State.change_changed (n : Nat) (f : Record → Record) : (s.change n f).changed = insertNumber s.changed n := rfl

/-! ### Fields after `modPort` -/

@[simp] theorem State.modPort_records (p : Nat) (f : Port → Port) : (s.modPort p f).records = s.records := rfl
@[simp] theorem State.modPort_serialIndex (p : Nat) (f : Port → Port) : (s.modPort p f).serialIndex = s.serialIndex := rfl
@[simp] theorem State.modPort_plotIndex (p : Nat) (f : Port → Port) : (s.modPort p f).plotIndex = s.plotIndex := rfl
@[simp] theorem State.modPort_strangers (p : Nat) (f : Port → Port) : (s.modPort p f).strangers = s.strangers := rfl
@[simp] theorem State.modPort_changed (p : Nat) (f : Port → Port) : (s.modPort p f).changed = s.changed := rfl
@[simp] theorem State.modPort_phase (p : Nat) (f : Port → Port) : (s.modPort p f).phase = s.phase := rfl
@[simp] theorem State.modPort_newStranger (p : Nat) (f : Port → Port) : (s.modPort p f).newStranger = s.newStranger := rfl
@[simp] theorem State.modPort_scrubCursor (p : Nat) (f : Port → Port) : (s.modPort p f).scrubCursor = s.scrubCursor := rfl
@[simp] theorem State.modPort_scrubInterval (p : Nat) (f : Port → Port) : (s.modPort p f).scrubInterval = s.scrubInterval := rfl
@[simp] theorem State.modPort_scrubCounter (p : Nat) (f : Port → Port) : (s.modPort p f).scrubCounter = s.scrubCounter := rfl
@[simp] theorem State.modPort_integrityCount (p : Nat) (f : Port → Port) : (s.modPort p f).integrityCount = s.integrityCount := rfl
@[simp] theorem State.modPort_firstDamaged (p : Nat) (f : Port → Port) : (s.modPort p f).firstDamaged = s.firstDamaged := rfl
@[simp] theorem State.modPort_host (p : Nat) (f : Port → Port) : (s.modPort p f).host = s.host := rfl
@[simp] theorem State.modPort_craft (p : Nat) (f : Port → Port) : (s.modPort p f).craft = s.craft := rfl
@[simp] theorem State.modPort_craftIdle (p : Nat) (f : Port → Port) : (s.modPort p f).craftIdle = s.craftIdle := rfl
@[simp] theorem State.modPort_lastServed (p : Nat) (f : Port → Port) : (s.modPort p f).lastServed = s.lastServed := rfl
@[simp] theorem State.modPort_hostRead (p : Nat) (f : Port → Port) : (s.modPort p f).hostRead = s.hostRead := rfl
@[simp] theorem State.modPort_attention (p : Nat) (f : Port → Port) : (s.modPort p f).attention = s.attention := rfl
@[simp] theorem State.modPort_resetHeld (p : Nat) (f : Port → Port) : (s.modPort p f).resetHeld = s.resetHeld := rfl
@[simp] theorem State.modPort_pending (p : Nat) (f : Port → Port) : (s.modPort p f).pending = s.pending := rfl

/-! ### Fields after `flag` -/

@[simp] theorem State.flag_records (p : Nat) (f : Conditions → Conditions) : (s.flag p f).records = s.records := rfl
@[simp] theorem State.flag_serialIndex (p : Nat) (f : Conditions → Conditions) : (s.flag p f).serialIndex = s.serialIndex := rfl
@[simp] theorem State.flag_plotIndex (p : Nat) (f : Conditions → Conditions) : (s.flag p f).plotIndex = s.plotIndex := rfl
@[simp] theorem State.flag_strangers (p : Nat) (f : Conditions → Conditions) : (s.flag p f).strangers = s.strangers := rfl
@[simp] theorem State.flag_changed (p : Nat) (f : Conditions → Conditions) : (s.flag p f).changed = s.changed := rfl
@[simp] theorem State.flag_phase (p : Nat) (f : Conditions → Conditions) : (s.flag p f).phase = s.phase := rfl
@[simp] theorem State.flag_newStranger (p : Nat) (f : Conditions → Conditions) : (s.flag p f).newStranger = s.newStranger := rfl
@[simp] theorem State.flag_scrubCursor (p : Nat) (f : Conditions → Conditions) : (s.flag p f).scrubCursor = s.scrubCursor := rfl
@[simp] theorem State.flag_scrubInterval (p : Nat) (f : Conditions → Conditions) : (s.flag p f).scrubInterval = s.scrubInterval := rfl
@[simp] theorem State.flag_scrubCounter (p : Nat) (f : Conditions → Conditions) : (s.flag p f).scrubCounter = s.scrubCounter := rfl
@[simp] theorem State.flag_integrityCount (p : Nat) (f : Conditions → Conditions) : (s.flag p f).integrityCount = s.integrityCount := rfl
@[simp] theorem State.flag_firstDamaged (p : Nat) (f : Conditions → Conditions) : (s.flag p f).firstDamaged = s.firstDamaged := rfl
@[simp] theorem State.flag_host (p : Nat) (f : Conditions → Conditions) : (s.flag p f).host = s.host := rfl
@[simp] theorem State.flag_craft (p : Nat) (f : Conditions → Conditions) : (s.flag p f).craft = s.craft := rfl
@[simp] theorem State.flag_craftIdle (p : Nat) (f : Conditions → Conditions) : (s.flag p f).craftIdle = s.craftIdle := rfl
@[simp] theorem State.flag_lastServed (p : Nat) (f : Conditions → Conditions) : (s.flag p f).lastServed = s.lastServed := rfl
@[simp] theorem State.flag_hostRead (p : Nat) (f : Conditions → Conditions) : (s.flag p f).hostRead = s.hostRead := rfl
@[simp] theorem State.flag_attention (p : Nat) (f : Conditions → Conditions) : (s.flag p f).attention = s.attention := rfl
@[simp] theorem State.flag_resetHeld (p : Nat) (f : Conditions → Conditions) : (s.flag p f).resetHeld = s.resetHeld := rfl
@[simp] theorem State.flag_pending (p : Nat) (f : Conditions → Conditions) : (s.flag p f).pending = s.pending := rfl

/-! ### Fields after `settle` -/

@[simp] theorem State.settle_records : (s.settle).records = s.records := rfl
@[simp] theorem State.settle_serialIndex : (s.settle).serialIndex = s.serialIndex := rfl
@[simp] theorem State.settle_plotIndex : (s.settle).plotIndex = s.plotIndex := rfl
@[simp] theorem State.settle_strangers : (s.settle).strangers = s.strangers := rfl
@[simp] theorem State.settle_changed : (s.settle).changed = s.changed := rfl
@[simp] theorem State.settle_phase : (s.settle).phase = s.phase := rfl
@[simp] theorem State.settle_ports : (s.settle).ports = s.ports := rfl
@[simp] theorem State.settle_newStranger : (s.settle).newStranger = s.newStranger := rfl
@[simp] theorem State.settle_scrubCursor : (s.settle).scrubCursor = s.scrubCursor := rfl
@[simp] theorem State.settle_scrubInterval : (s.settle).scrubInterval = s.scrubInterval := rfl
@[simp] theorem State.settle_scrubCounter : (s.settle).scrubCounter = s.scrubCounter := rfl
@[simp] theorem State.settle_integrityCount : (s.settle).integrityCount = s.integrityCount := rfl
@[simp] theorem State.settle_firstDamaged : (s.settle).firstDamaged = s.firstDamaged := rfl
@[simp] theorem State.settle_host : (s.settle).host = s.host := rfl
@[simp] theorem State.settle_craft : (s.settle).craft = s.craft := rfl
@[simp] theorem State.settle_craftIdle : (s.settle).craftIdle = s.craftIdle := rfl
@[simp] theorem State.settle_lastServed : (s.settle).lastServed = s.lastServed := rfl
@[simp] theorem State.settle_hostRead : (s.settle).hostRead = s.hostRead := rfl
@[simp] theorem State.settle_resetHeld : (s.settle).resetHeld = s.resetHeld := rfl
@[simp] theorem State.settle_pending : (s.settle).pending = s.pending := rfl
@[simp] theorem State.settle_attention : s.settle.attention = s.attentionDue := rfl

/-! ### Fields after `modLink` -/

@[simp] theorem State.modLink_records (l : Link) (f : LinkState → LinkState) : (s.modLink l f).records = s.records := by
  cases l <;> rfl
@[simp] theorem State.modLink_serialIndex (l : Link) (f : LinkState → LinkState) : (s.modLink l f).serialIndex = s.serialIndex := by
  cases l <;> rfl
@[simp] theorem State.modLink_plotIndex (l : Link) (f : LinkState → LinkState) : (s.modLink l f).plotIndex = s.plotIndex := by
  cases l <;> rfl
@[simp] theorem State.modLink_strangers (l : Link) (f : LinkState → LinkState) : (s.modLink l f).strangers = s.strangers := by
  cases l <;> rfl
@[simp] theorem State.modLink_changed (l : Link) (f : LinkState → LinkState) : (s.modLink l f).changed = s.changed := by
  cases l <;> rfl
@[simp] theorem State.modLink_phase (l : Link) (f : LinkState → LinkState) : (s.modLink l f).phase = s.phase := by
  cases l <;> rfl
@[simp] theorem State.modLink_ports (l : Link) (f : LinkState → LinkState) : (s.modLink l f).ports = s.ports := by
  cases l <;> rfl
@[simp] theorem State.modLink_newStranger (l : Link) (f : LinkState → LinkState) : (s.modLink l f).newStranger = s.newStranger := by
  cases l <;> rfl
@[simp] theorem State.modLink_scrubCursor (l : Link) (f : LinkState → LinkState) : (s.modLink l f).scrubCursor = s.scrubCursor := by
  cases l <;> rfl
@[simp] theorem State.modLink_scrubInterval (l : Link) (f : LinkState → LinkState) : (s.modLink l f).scrubInterval = s.scrubInterval := by
  cases l <;> rfl
@[simp] theorem State.modLink_scrubCounter (l : Link) (f : LinkState → LinkState) : (s.modLink l f).scrubCounter = s.scrubCounter := by
  cases l <;> rfl
@[simp] theorem State.modLink_integrityCount (l : Link) (f : LinkState → LinkState) : (s.modLink l f).integrityCount = s.integrityCount := by
  cases l <;> rfl
@[simp] theorem State.modLink_firstDamaged (l : Link) (f : LinkState → LinkState) : (s.modLink l f).firstDamaged = s.firstDamaged := by
  cases l <;> rfl
@[simp] theorem State.modLink_craftIdle (l : Link) (f : LinkState → LinkState) : (s.modLink l f).craftIdle = s.craftIdle := by
  cases l <;> rfl
@[simp] theorem State.modLink_lastServed (l : Link) (f : LinkState → LinkState) : (s.modLink l f).lastServed = s.lastServed := by
  cases l <;> rfl
@[simp] theorem State.modLink_hostRead (l : Link) (f : LinkState → LinkState) : (s.modLink l f).hostRead = s.hostRead := by
  cases l <;> rfl
@[simp] theorem State.modLink_attention (l : Link) (f : LinkState → LinkState) : (s.modLink l f).attention = s.attention := by
  cases l <;> rfl
@[simp] theorem State.modLink_resetHeld (l : Link) (f : LinkState → LinkState) : (s.modLink l f).resetHeld = s.resetHeld := by
  cases l <;> rfl
@[simp] theorem State.modLink_pending (l : Link) (f : LinkState → LinkState) : (s.modLink l f).pending = s.pending := by
  cases l <;> rfl
@[simp] theorem State.modLink_link_self (l : Link) (f : LinkState → LinkState) :
    (s.modLink l f).link l = f (s.link l) := by
  cases l <;> rfl
theorem State.modLink_link_ne {l k : Link} (h : k ≠ l) (f : LinkState → LinkState) :
    (s.modLink l f).link k = s.link k := by
  cases l <;> cases k <;> first | rfl | exact absurd rfl h

/-! ### Records and ports read after the updates that leave them alone -/

@[simp] theorem State.store_port (n : Nat) (x : StoredRecord) (m : Nat) : (s.store n x).port m = s.port m := rfl
@[simp] theorem State.modRecord_port (n : Nat) (f : Record → Record) (m : Nat) : (s.modRecord n f).port m = s.port m := rfl
@[simp] theorem State.freshRecord_port (n : Nat) (r : Record) (m : Nat) : (s.freshRecord n r).port m = s.port m := rfl
@[simp] theorem State.noteChanged_stored (n : Nat) (m : Nat) : (s.noteChanged n).stored m = s.stored m := rfl
@[simp] theorem State.noteChanged_record (n : Nat) (m : Nat) : (s.noteChanged n).record m = s.record m := rfl
@[simp] theorem State.noteChanged_verifies (n : Nat) (m : Nat) : (s.noteChanged n).verifies m = s.verifies m := rfl
@[simp] theorem State.noteChanged_recordsWhere (n : Nat) (g : Record → Bool) :
    (s.noteChanged n).recordsWhere g = s.recordsWhere g := rfl
@[simp] theorem State.noteChanged_port (n : Nat) (m : Nat) : (s.noteChanged n).port m = s.port m := rfl
@[simp] theorem State.change_port (n : Nat) (f : Record → Record) (m : Nat) : (s.change n f).port m = s.port m := rfl
@[simp] theorem State.modPort_stored (p : Nat) (f : Port → Port) (m : Nat) : (s.modPort p f).stored m = s.stored m := rfl
@[simp] theorem State.modPort_record (p : Nat) (f : Port → Port) (m : Nat) : (s.modPort p f).record m = s.record m := rfl
@[simp] theorem State.modPort_verifies (p : Nat) (f : Port → Port) (m : Nat) : (s.modPort p f).verifies m = s.verifies m := rfl
@[simp] theorem State.modPort_recordsWhere (p : Nat) (f : Port → Port) (g : Record → Bool) :
    (s.modPort p f).recordsWhere g = s.recordsWhere g := rfl
@[simp] theorem State.flag_stored (p : Nat) (f : Conditions → Conditions) (m : Nat) : (s.flag p f).stored m = s.stored m := rfl
@[simp] theorem State.flag_record (p : Nat) (f : Conditions → Conditions) (m : Nat) : (s.flag p f).record m = s.record m := rfl
@[simp] theorem State.flag_verifies (p : Nat) (f : Conditions → Conditions) (m : Nat) : (s.flag p f).verifies m = s.verifies m := rfl
@[simp] theorem State.flag_recordsWhere (p : Nat) (f : Conditions → Conditions) (g : Record → Bool) :
    (s.flag p f).recordsWhere g = s.recordsWhere g := rfl
@[simp] theorem State.settle_stored (m : Nat) : (s.settle).stored m = s.stored m := rfl
@[simp] theorem State.settle_record (m : Nat) : (s.settle).record m = s.record m := rfl
@[simp] theorem State.settle_verifies (m : Nat) : (s.settle).verifies m = s.verifies m := rfl
@[simp] theorem State.settle_recordsWhere (g : Record → Bool) :
    (s.settle).recordsWhere g = s.recordsWhere g := rfl
@[simp] theorem State.settle_port (m : Nat) : (s.settle).port m = s.port m := rfl
@[simp] theorem State.modLink_stored (l : Link) (f : LinkState → LinkState) (m : Nat) :
    (s.modLink l f).stored m = s.stored m := by
  cases l <;> rfl
@[simp] theorem State.modLink_record (l : Link) (f : LinkState → LinkState) (m : Nat) :
    (s.modLink l f).record m = s.record m := by
  cases l <;> rfl
@[simp] theorem State.modLink_verifies (l : Link) (f : LinkState → LinkState) (m : Nat) :
    (s.modLink l f).verifies m = s.verifies m := by
  cases l <;> rfl
@[simp] theorem State.modLink_port (l : Link) (f : LinkState → LinkState) (m : Nat) :
    (s.modLink l f).port m = s.port m := by
  cases l <;> rfl
@[simp] theorem State.store_link (n : Nat) (x : StoredRecord) (l : Link) : (s.store n x).link l = s.link l := by cases l <;> rfl
@[simp] theorem State.modRecord_link (n : Nat) (f : Record → Record) (l : Link) : (s.modRecord n f).link l = s.link l := by cases l <;> rfl
@[simp] theorem State.freshRecord_link (n : Nat) (r : Record) (l : Link) : (s.freshRecord n r).link l = s.link l := by cases l <;> rfl
@[simp] theorem State.noteChanged_link (n : Nat) (l : Link) : (s.noteChanged n).link l = s.link l := by cases l <;> rfl
@[simp] theorem State.change_link (n : Nat) (f : Record → Record) (l : Link) : (s.change n f).link l = s.link l := by cases l <;> rfl
@[simp] theorem State.modPort_link (p : Nat) (f : Port → Port) (l : Link) : (s.modPort p f).link l = s.link l := by cases l <;> rfl
@[simp] theorem State.flag_link (p : Nat) (f : Conditions → Conditions) (l : Link) : (s.flag p f).link l = s.link l := by cases l <;> rfl
@[simp] theorem State.settle_link (l : Link) : (s.settle).link l = s.link l := by cases l <;> rfl

/-! ### Records -/

theorem State.stored_of_le {n : Nat} (h : 480 ≤ n) : s.stored n = StoredRecord.vacant := by
  simp [State.stored, h]

@[simp] theorem State.store_stored_self {n : Nat} (h : n < 480) (x : StoredRecord) : (s.store n x).stored n = x := by
  simp [State.stored, State.store, h]

theorem State.store_stored_ne {n m : Nat} (h : m ≠ n) (x : StoredRecord) : (s.store n x).stored m = s.stored m := by
  simp [State.stored, State.store, h.symm]

theorem State.store_of_le {n : Nat} (h : 480 ≤ n) (x : StoredRecord) : s.store n x = s := by
  have : s.records.setIfInBounds n x = s.records := by
    apply Vector.ext
    intro i hi
    rw [Vector.getElem_setIfInBounds, if_neg (by omega)]
  simp [State.store, this]

theorem State.store_self (n : Nat) : s.store n (s.stored n) = s := by
  have : s.records.setIfInBounds n (s.stored n) = s.records := by
    apply Vector.ext
    intro i hi
    rw [Vector.getElem_setIfInBounds]
    split
    · next h => subst h; simp [State.stored, hi]
    · rfl
  simp [State.store, this]

theorem State.store_store (n : Nat) (x y : StoredRecord) : (s.store n x).store n y = s.store n y := by
  have : (s.records.setIfInBounds n x).setIfInBounds n y = s.records.setIfInBounds n y := by
    apply Vector.ext
    intro i hi
    simp only [Vector.getElem_setIfInBounds]
    split <;> rfl
  simp [State.store, this]

/-- A rewritten record verifies exactly when it did before (log entry 6). -/
@[simp] theorem StoredRecord.rewrite_verifies (x : StoredRecord) (r : Record) : (x.rewrite r).verifies = x.verifies := by
  have h : ∀ a b c : Half, (c == a ^^^ b ^^^ c) = (b == a) := by
    intro a b c
    rw [Bool.eq_iff_iff, beq_iff_eq, beq_iff_eq]
    constructor
    · intro h
      have h2 : a ^^^ (a ^^^ b ^^^ c) = b ^^^ c := by rw [← BitVec.xor_assoc, ← BitVec.xor_assoc]; simp
      rw [← h] at h2
      have h3 : a ^^^ c ^^^ c = b ^^^ c ^^^ c := by rw [h2]
      simpa [BitVec.xor_assoc] using h3.symm
    · intro h
      subst h
      simp
  exact h _ _ _

@[simp] theorem StoredRecord.rewrite_content (x : StoredRecord) (r : Record) : (x.rewrite r).content = r := rfl

/-- Of a record that verifies, a rewrite is the new content with its own check word (R162). -/
theorem StoredRecord.rewrite_of_verifies {x : StoredRecord} (h : x.verifies = true) (r : Record) :
    x.rewrite r = { content := r, check := r.checkWord } := by
  have hc : x.content.checkWord = x.check := by simpa [StoredRecord.verifies] using h
  simp [StoredRecord.rewrite, hc]

theorem State.modRecord_record_self {n : Nat} (h : n < 480) (f : Record → Record) :
    (s.modRecord n f).record n = f (s.record n) := by
  simp [State.modRecord, State.record, h]

theorem State.modRecord_stored_ne {n m : Nat} (h : m ≠ n) (f : Record → Record) :
    (s.modRecord n f).stored m = s.stored m := s.store_stored_ne h _

/-- A change of content leaves every record verifying exactly when it did (R162, R163). -/
@[simp] theorem State.modRecord_verifies (n m : Nat) (f : Record → Record) :
    (s.modRecord n f).verifies m = s.verifies m := by
  by_cases h : m = n
  · subst h
    by_cases hm : m < 480
    · simp [State.verifies, State.modRecord, hm]
    · simp [State.modRecord, s.store_of_le (Nat.le_of_not_lt hm)]
  · simp [State.verifies, s.modRecord_stored_ne h]

@[simp] theorem State.change_verifies (n m : Nat) (f : Record → Record) : (s.change n f).verifies m = s.verifies m :=
  s.modRecord_verifies n m f

/-- Of a record that verifies, a change of content stores the new content with its own check word (R162). -/
theorem State.modRecord_of_verifies {n : Nat} (h : s.verifies n = true) (f : Record → Record) :
    s.modRecord n f = s.freshRecord n (f (s.record n)) := by
  simp only [State.modRecord, State.freshRecord, StoredRecord.rewrite_of_verifies h]

theorem State.freshRecord_record_self {n : Nat} (h : n < 480) (r : Record) : (s.freshRecord n r).record n = r := by
  simp [State.freshRecord, State.record, h]

theorem State.freshRecord_verifies_self {n : Nat} (h : n < 480) (r : Record) : (s.freshRecord n r).verifies n = true := by
  simp [State.freshRecord, State.verifies, StoredRecord.verifies, h]

theorem State.freshRecord_stored_ne {n m : Nat} (h : m ≠ n) (r : Record) :
    (s.freshRecord n r).stored m = s.stored m := s.store_stored_ne h _

/-! ### Ports -/

@[simp] theorem State.modPort_port_self {p : Nat} (h : p < 4) (f : Port → Port) : (s.modPort p f).port p = f (s.port p) := by
  simp [State.port, State.modPort, h]

theorem State.modPort_port_ne {p q : Nat} (h : q ≠ p) (f : Port → Port) : (s.modPort p f).port q = s.port q := by
  simp [State.port, State.modPort, h.symm]

theorem State.modPort_of_le {p : Nat} (h : 4 ≤ p) (f : Port → Port) : s.modPort p f = s := by
  have : s.ports.setIfInBounds p (f (s.port p)) = s.ports := by
    apply Vector.ext
    intro i hi
    rw [Vector.getElem_setIfInBounds, if_neg (by omega)]
  simp [State.modPort, this]

/-- Two changes of one port are one change. -/
theorem State.modPort_modPort (p : Nat) (f g : Port → Port) :
    (s.modPort p f).modPort p g = s.modPort p (fun q => g (f q)) := by
  by_cases h : p < 4
  · have : (s.ports.setIfInBounds p (f (s.port p))).setIfInBounds p (g (f (s.port p)))
        = s.ports.setIfInBounds p (g (f (s.port p))) := by
      apply Vector.ext
      intro i hi
      simp only [Vector.getElem_setIfInBounds]
      split <;> rfl
    conv => lhs; rw [State.modPort, s.modPort_port_self h]
    simp [State.modPort, this]
  · simp [State.modPort_of_le _ (Nat.le_of_not_lt h)]

theorem State.modPort_id {p : Nat} (f : Port → Port) (h : f (s.port p) = s.port p) : s.modPort p f = s := by
  have : s.ports.setIfInBounds p (f (s.port p)) = s.ports := by
    apply Vector.ext
    intro i hi
    rw [Vector.getElem_setIfInBounds]
    split
    · next e => subst e; rw [h]; simp [State.port, hi]
    · rfl
  simp [State.modPort, this]

/-! ### The attention output -/

theorem State.settle_settle : s.settle.settle = s.settle := rfl

theorem State.attentionDue_settle : s.settle.attentionDue = s.attentionDue := rfl

end Sys2Proof.Machine
end

