-- ==== Sys2Proof/Laws/Ops.lean ====
section
/-! SUPPORT. One lemma for each shared operation that says what it can do, so that a proof about a command cites it and does not unfold the
operation. -/

namespace Sys2Proof.Machine

variable (s : State)

/-! ### Folds over numbers -/

@[simp] theorem eachNumber_nil (f : State → Nat → State) : eachNumber f [] s = s := rfl

@[simp] theorem eachNumber_cons (f : State → Nat → State) (n : Nat) (ns : List Nat) :
    eachNumber f (n :: ns) s = eachNumber f ns (f s n) := rfl

theorem eachNumber_append (f : State → Nat → State) (ns ms : List Nat) :
    eachNumber f (ns ++ ms) s = eachNumber f ms (eachNumber f ns s) := by
  induction ns generalizing s with
  | nil => rfl
  | cons n ns ih => exact ih _

/-- What every step of a fold keeps, the fold keeps. -/
theorem eachNumber_keeps {P : State → Prop} {f : State → Nat → State} {ns : List Nat}
    (step : ∀ s n, n ∈ ns → P s → P (f s n)) {s : State} (h : P s) : P (eachNumber f ns s) := by
  induction ns generalizing s with
  | nil => exact h
  | cons n ns ih =>
    exact ih (fun s m hm => step s m (List.mem_cons_of_mem _ hm)) (step s n List.mem_cons_self h)

/-- A fold whose steps change nothing changes nothing. -/
theorem eachNumber_same {f : State → Nat → State} {ns : List Nat} (h : ∀ n ∈ ns, f s n = s) : eachNumber f ns s = s := by
  induction ns with
  | nil => rfl
  | cons n ns ih =>
    rw [eachNumber_cons, h n List.mem_cons_self]
    exact ih (fun m hm => h m (List.mem_cons_of_mem _ hm))

/-! ### Records by what they hold -/

theorem State.mem_recordsWhere {f : Record → Bool} {n : Nat} :
    n ∈ s.recordsWhere f ↔ n < 480 ∧ f (s.record n) = true := by
  simp only [State.recordsWhere, List.mem_map, List.mem_filter, Prod.exists, exists_eq_right]
  constructor
  · rintro ⟨x, hx, hf⟩
    have h := List.mem_zipIdx_iff_getElem?.mp hx
    obtain ⟨hlt, hg⟩ := List.getElem?_eq_some_iff.mp h
    have hn : n < 480 := by simpa using hlt
    refine ⟨hn, ?_⟩
    have hs : s.stored n = x := by simpa [State.stored, hn] using hg
    rw [State.record, hs]
    exact hf
  · rintro ⟨hn, hf⟩
    refine ⟨s.stored n, List.mem_zipIdx_iff_getElem?.mpr ?_, hf⟩
    simp [State.stored, hn]

/-- The numbers of the records that satisfy a test are the numbers 0..479 that pass it, rising. -/
theorem State.recordsWhere_eq (f : Record → Bool) :
    s.recordsWhere f = (List.range 480).filter (fun n => f (s.record n)) := by
  have h : s.records.toList.zipIdx = (List.range 480).map (fun n => (s.stored n, n)) := by
    apply List.ext_getElem?
    intro i
    by_cases hi : i < 480 <;> simp [State.stored, hi]
  simp [State.recordsWhere, h, List.filter_map, Function.comp_def, State.record]

/-! ### Verification (R163) -/

theorem State.verifyOrDamage_of_verifies {n : Nat} (h : s.verifies n = true) : s.verifyOrDamage n = s := by
  simp [State.verifyOrDamage, h]

theorem State.verifyOrDamage_of_damaged {n : Nat} (h : s.verifies n = false) : s.verifyOrDamage n = s.damage n := by
  simp [State.verifyOrDamage, h]

/-! ### The outbound queue -/

/-- An append to an outbound queue either pushes the descriptor or drops it and sets the overrun flag (R77). -/
theorem State.enqueue_cases (p : Nat) (d : Descriptor) :
    ((s.port p).outbound.length < 64 ∧ s.enqueue p d = s.push p d)
      ∨ (64 ≤ (s.port p).outbound.length ∧
          s.enqueue p d = s.flag p (fun c => { c with outboundOverrun := true })) := by
  unfold State.enqueue Config.outboundLimit
  split
  · exact .inl ⟨‹_›, rfl⟩
  · exact .inr ⟨by omega, rfl⟩

theorem State.push_names {p r : Nat} {d : Descriptor} (h : d.names = some r) :
    s.push p d = (s.modPort p (fun q => { q with outbound := q.outbound ++ [d] })).modRecord r
      (fun c => { c with outstanding := c.outstanding + 1 }) := by
  simp [State.push, h]

theorem State.push_release (p x d : Nat) :
    s.push p (.release x d) = s.modPort p (fun q => { q with outbound := q.outbound ++ [.release x d] }) := rfl

/-- A SET DELAY is queued where the queue has room and none names the record yet, and nothing happens otherwise (R76, R79). -/
theorem State.queueSetDelay_room {p r : Nat} (h : (s.port p).outbound.length < 64) (hq : s.setDelayQueued allPorts r = false) :
    s.queueSetDelay p r = (s.push p (.setDelay r)).modRecord r (fun c => { c with delaySync := .queued }) := if_pos ⟨h, hq⟩

theorem State.queueSetDelay_none {p r : Nat} (h : 64 ≤ (s.port p).outbound.length ∨ s.setDelayQueued allPorts r = true) :
    s.queueSetDelay p r = s := if_neg (by rcases h with h | h <;> simp [h, Config.outboundLimit])

/-- No record waits on a port: nothing is queued for it (R79). -/
theorem State.fillSetDelay_none {p : Nat}
    (h : ∀ n, n < 480 → (s.record n).port = p → (s.record n).delaySync ≠ .waiting) : s.fillSetDelay p = s := by
  have hw : s.waiting p = [] := by
    rw [State.waiting, List.eq_nil_iff_forall_not_mem]
    intro n hn
    rw [s.mem_recordsWhere] at hn
    simp only [Bool.and_eq_true, beq_iff_eq] at hn
    exact h n hn.1 hn.2.1 hn.2.2
  simp [State.fillSetDelay, hw]

/-! ### Drop ids -/

theorem State.releaseHeld_none {r : Nat} (h : (s.record r).dropId = 0) : s.releaseHeld r = s := by
  simp [State.releaseHeld, h]

theorem State.releaseHeld_some {r : Nat} (h : (s.record r).dropId ≠ 0) :
    s.releaseHeld r = (s.enqueue (s.record r).port (.release (s.record r).port (s.record r).dropId)).freeDrop
      (s.record r).port (s.record r).dropId := by
  simp [State.releaseHeld, h]

/-! ### Windows -/

/-- A close row takes the open window of its kind from the arbiter and hands it to the owner (R64, R65). -/
theorem State.closeOf_open {p : Nat} {kind : WindowKind} {w : OpenWindow} (h : (s.port p).window = some w)
    (hk : w.kind = kind) (owner : State → OpenWindow → State) : s.closeOf p kind owner = owner (s.dropWindow p) w := by
  simp [State.closeOf, h, hk]

/-- Nothing closes where no window of the kind is open. -/
theorem State.closeOf_other {p : Nat} {kind : WindowKind} (h : ∀ w, (s.port p).window = some w → w.kind ≠ kind)
    (owner : State → OpenWindow → State) : s.closeOf p kind owner = s := by
  unfold State.closeOf
  split
  · next w hw => simp [h w hw]
  · rfl

theorem State.abandon_none {p : Nat} (h : (s.port p).window = none) : s.abandon p = s := by
  simp [State.abandon, h]

theorem State.abandon_some {p : Nat} {w : OpenWindow} (h : (s.port p).window = some w) :
    s.abandon p = (s.dropWindow p).abandonOwner p w := by
  simp [State.abandon, h]

theorem State.failChangeover_none {p : Nat} (h : (s.port p).changeover.reference = none) : s.failChangeover p = s := by
  simp [State.failChangeover, h]

/-- The first requester that stands in RUN is granted when its target verifies (R67, R68). -/
theorem State.grantRun_some {p fuel : Nat} {q : Requester} (h : s.runRequest p = some q)
    (hv : ∀ r, q.target = some r → s.verifies r = true) : State.grantRun (fuel + 1) s p = s.grant p q := by
  simp only [State.grantRun, h]
  split
  · rfl
  · next r hr => simp [hv r hr]

theorem State.grantRun_none {p fuel : Nat} (h : s.runRequest p = none) : State.grantRun (fuel + 1) s p = s := by
  simp [State.grantRun, h]

/-! ### Link commands -/

/-- A link command is carried out, its reply appended and the attention output settled (R177, R178). -/
theorem linkCommand_ready {l : Link} (h : s.ready l) (tag : Byte) (c : Command) (act : State → State × Reply) :
    linkCommand l tag c act s = .next ((act s).1.replied l tag (act s).2.status (act s).2.payload) := by
  have hr : s.replyRoom l = true := by simpa [State.replyRoom] using h.2
  simp only [linkCommand, h.1, hr, if_true, Bool.false_eq_true, if_false, State.replied, State.answer]

/-- A link command met with a full reply path joins its link's command queue and waits there (R176, R177; log entry 2). -/
theorem linkCommand_waits {l : Link} (hh : s.resetHeld = false) (h : 8 ≤ (s.link l).replies.length) (tag : Byte) (c : Command)
    (act : State → State × Reply) : linkCommand l tag c act s = .next (s.queueCommand l tag c).settle := by
  have hr : s.replyRoom l = false := decide_eq_false (Nat.not_lt.mpr h)
  simp [linkCommand, hh, hr]

/-- Nothing happens to a link command while the hard-reset pin is held (R182). -/
theorem linkCommand_held {l : Link} (h : s.resetHeld = true) (tag : Byte) (c : Command) (act : State → State × Reply) :
    linkCommand l tag c act s = .next s.settle := by
  simp [linkCommand, h]

/-- A command joins its link's queue while it holds fewer than 4 (R176). -/
theorem State.queueCommand_room {l : Link} (h : (s.link l).queue.length < 4) (tag : Byte) (c : Command) :
    s.queueCommand l tag c = s.modLink l (fun k => { k with queue := k.queue ++ [{ tag := tag, command := c }] }) := by
  simp [State.queueCommand, Config.commandLimit, h]

/-- A command that finds its link's queue full is answered LINK_FULL where the reply path has room, and is dropped where it has none
(R176). -/
theorem State.queueCommand_full {l : Link} (h : 4 ≤ (s.link l).queue.length) (tag : Byte) (c : Command) :
    s.queueCommand l tag c =
      if (s.link l).replies.length < 8 then s.appendReply l { tag := tag, status := .linkFull, payload := [] } else s := by
  have hq : ¬ (s.link l).queue.length < Config.commandLimit := Nat.not_lt.mpr h
  rw [State.queueCommand, if_neg hq, State.immediate, State.replyRoom]
  by_cases hr : (s.link l).replies.length < Config.replyLimit
  · rw [if_pos (decide_eq_true hr)]; exact (if_pos hr).symm
  · rw [if_neg (by simpa using hr)]; exact (if_neg hr).symm

/-! ### Replies shifted out, and PORT DISABLE record by record -/

/-- R174: the head reply leaves the path once in a select period. -/
theorem State.shiftReplyOut_head {f : ReplyFrame} {fs : List ReplyFrame} (h : s.hostRead = false) (hr : s.host.replies = f :: fs) :
    s.shiftReplyOut = { s with host := { s.host with replies := fs }, hostRead := true } := by
  simp [State.shiftReplyOut, h, hr, State.dropReply, State.modLink]

theorem State.shiftReplyOut_none (h : s.hostRead = true ∨ s.host.replies = []) : s.shiftReplyOut = s := by
  rcases h with h | h <;> simp [State.shiftReplyOut, h]

/-- R79: only a WAITING record is served. -/
theorem State.serveWaiting_waiting {r : Nat} (h : (s.record r).delaySync = .waiting) :
    s.serveWaiting r = s.queueSetDelay (s.record r).port r := if_pos h

theorem State.serveWaiting_none {r : Nat} (h : (s.record r).delaySync ≠ .waiting) : s.serveWaiting r = s := if_neg h

/-- R45: PORT DISABLE acts on the records that its port's fields pick out, and passes over the others. -/
theorem State.disableRecord_held {p r : Nat} (hp : (s.record r).port = p) (hd : (s.record r).dropId ≠ 0) :
    s.disableRecord p r = (s.freeDrop p (s.record r).dropId).change r (fun c =>
      c.portDown (s.queuedNaming (allPorts.filter (fun x => x != p)) r)
        (s.setDelayQueued (allPorts.filter (fun x => x != p)) r)) := if_pos ⟨hp, hd⟩

theorem State.disableRecord_other {p r : Nat} (h : (s.record r).port ≠ p ∨ (s.record r).dropId = 0) :
    s.disableRecord p r = s := if_neg (by rcases h with h | h <;> simp [h])

/-- A record command past its checks: its effect, with the states before and after and the cause (R10, R11). -/
theorem recordCommand_ok {l : Link} {k : Permit} {n : Nat} {check : State → Record → Option Status}
    (hp : permitted l s.phase k = true) (hn : n < 480) (hv : s.verifies n = true)
    (hc : check s (s.record n) = none) (apply : State → State) :
    recordCommand l k n true check apply s =
      (apply s, recordReply .ok (s.record n) ((apply s).record n)) := by
  have : ¬ Config.records ≤ n := by simp only [Config.records]; omega
  simp [recordCommand, hp, this, hv, hc]

/-- A record command refused by its own checks 5 to 8: nothing changes but the reply path (R10, R11). -/
theorem recordCommand_refused {l : Link} {k : Permit} {n : Nat} {check : State → Record → Option Status} {st : Status}
    (hp : permitted l s.phase k = true) (hn : n < 480) (hv : s.verifies n = true)
    (hc : check s (s.record n) = some st) (apply : State → State) :
    recordCommand l k n true check apply s = (s, recordReply st (s.record n) (s.record n)) := by
  have : ¬ Config.records ≤ n := by simp only [Config.records]; omega
  simp [recordCommand, hp, this, hv, hc]

/-- A port command past its checks: its effect, with the port states before and after (R43). -/
theorem portCommand_ok {l : Link} {p : Nat} {check : Port → Option Status}
    (hl : permitted l s.phase .hostOnly = true) (hp : p < 4) (hc : check (s.port p) = none) (apply : State → State) :
    portCommand l p check apply s =
      (apply s, { status := .ok, payload := [(s.port p).state.code, ((apply s).port p).state.code] }) := by
  have : ¬ Config.ports ≤ p := by simp only [Config.ports]; omega
  simp [portCommand, hl, this, hc]

theorem State.replied_eq (l : Link) (tag : Byte) (st : Status) (payload : List Byte) :
    s.replied l tag st payload =
      (({ s with lastServed := l } : State).modLink l (fun k =>
        { k with replies := k.replies ++ [{ tag := tag, status := st, payload := payload }] })).settle := rfl

end Sys2Proof.Machine
end

