-- ==== Sys2Proof/Tests/Slice0.lean ====
section
/-! SUPPORT. Tests: the WellFormed smoke, the worked cases of the manual, one-step tests on a small bench, and for every statement with
hypotheses a state and operands that meet them. A hypothesis that only gives a name to an expression is met by that expression
and is left out here. Expected values come from the manual's worked cases and tables, as each comment says. -/

namespace Sys2Proof.Tests
set_option Elab.async false
open Sys2Proof Sys2Proof.Machine

/-! ### WellFormed smoke: each check refuses a term that is ill-formed for it alone -/

theorem test_upset_of_no_record : upsetRecordOk 480 = false := by decide
theorem test_upset_short_image : upsetImageOk [0#8] = false := by decide
theorem test_upset_that_agrees : upsetDisagrees Record.vacant.image Record.vacant.checkWord = false := by decide +kernel
theorem test_wellFormed_no_record :
    (Instr.storageUpset 480 Record.vacant.image (Record.vacant.checkWord + 1)).wellFormed = false := by decide +kernel
theorem test_wellFormed_short_image : (Instr.storageUpset 3 [] 0#16).wellFormed = false := by decide +kernel
theorem test_wellFormed_agrees :
    (Instr.storageUpset 3 Record.vacant.image Record.vacant.checkWord).wellFormed = false := by decide +kernel
theorem test_wellFormed_upset :
    (Instr.storageUpset 479 Record.vacant.image (Record.vacant.checkWord + 1)).wellFormed = true := by decide +kernel

/-! ### Decode: no row of the table has bits -/

theorem test_no_word_is_a_command : decodeTableWord 8 0x11 = none := rfl
theorem test_no_word_joins_the_queue : State.reset.withFetchWord 8 0x11 = State.reset := rfl

/-! ### The check word (R185) and the calculator (the worked cases of 6.7) -/

/-- The generator, the starting value and the order of bits of R185 are those of the check word whose value over the nine ASCII digits
1 to 9 is 29B1h. -/
theorem test_check_word :
    checkOf [0x31#8, 0x32#8, 0x33#8, 0x34#8, 0x35#8, 0x36#8, 0x37#8, 0x38#8, 0x39#8] = 0x29B1#16 := by decide +kernel

/-- The configuration and loop offset of the worked cases. -/
def street : Port := { Port.reset with
  state := .run, loopOffset := 1212, calibrated := true, gapCounter := 8, tagCounter := 2, dropMap := [(17, 310)] }

theorem test_first_ranging : reachOf 200000 (roundTrip street 60812 0) =
    .inReach { roundTrip := 24600, eqd := 175400, length := 2010 } := by decide +kernel
theorem test_ranging_at_teq : reachOf 200000 (roundTrip street 236212 0) =
    .inReach { roundTrip := 200000, eqd := 0, length := 16340 } := by decide +kernel
theorem test_ranging_beyond : reachOf 200000 (roundTrip street 240000 0) = .beyond := by decide +kernel
theorem test_ranging_early : reachOf 200000 (roundTrip street 30000 0) = .early := by decide +kernel
theorem test_ranging_zero : reachOf 200000 (roundTrip street 36212 0) =
    .inReach { roundTrip := 0, eqd := 200000, length := 0 } := by decide +kernel
theorem test_drift : driftOf street 236215 { roundTrip := 24600, eqd := 175400, length := 2010 } = 3 := by decide +kernel
theorem test_drift_is_corrected : classOf PortConfig.default 3 = .correct ∧ classOf PortConfig.default (-2) = .hold
    ∧ classOf PortConfig.default (-33) = .excess ∧ classOf PortConfig.default 32 = .correct := by decide
theorem test_shifted : shifted 200000 { roundTrip := 24600, eqd := 175400, length := 2010 } 3 =
    .inReach { roundTrip := 24603, eqd := 175397, length := 2010 } := by decide +kernel
theorem test_level_correction : levelCorrection PortConfig.default 40 4 true = { needed := true, applied := 1, index := 5 } := by
  decide
/-- R112's boundary: a sum of 16,383 is accepted and 16,384 is rejected; a spread of 9 is rejected. -/
theorem test_calibration_mean : calibrationMean [4095, 4096, 4096, 4096] = some 4095
    ∧ calibrationMean [4096, 4096, 4096, 4096] = none ∧ calibrationMean [1200, 1209, 1204, 1204] = none := by decide

/-! ### The bench: port 1 with record 310 -/

/-- Record 310 of the worked sequences of chapter 7, ranged and in service. -/
def drop : Record := { Record.vacant with
  state := .ready, plot := some 12, port := 1, serial := some 0x60#64, dropId := 17, levelable := some true
  ranging := some { roundTrip := 24600, eqd := 175400, length := 2010 }, levelIndex := 4, cause := .activated }

/-- A part whose port 1 is `q` and whose record 310 holds `c`, with its serial and plot in the indexes. -/
def bench (c : Record) (q : Port) : State :=
  { (State.reset.modPort 1 (fun _ => q)).freshRecord 310 c with
    serialIndex := [(0x60, 310)], plotIndex := [(12, 310)] }

/-- A window of port 1 with the tag 3 and a target of drop id 17. -/
def window (kind : WindowKind) (target : Option Nat) (captured : Option Captured) : OpenWindow where
  kind := kind
  tag := 3
  target := target
  targetDrop := target.map (fun _ => 17)
  captured := captured
  clean := 0
  garbled := 0
  overrun := false
  spread := 0
  age := 1

/-- The street with a window open, and record 310 in the activation queue in a phase. -/
def windowed (kind : WindowKind) (target : Option Nat) (captured : Option Captured) (ph : Option Phase) : Port :=
  { street with
    window := some (window kind target captured)
    activation := match ph with
      | some ph => [{ record := 310, phase := ph }]
      | none => [] }

/-- The next state of an outcome, for reading a field of it. -/
def nextOf : Result → Option State
  | .next s => some s
  | _ => none

theorem vacant_verifies : StoredRecord.vacant.verifies = true := by decide +kernel

theorem reset_stored (n : Nat) : State.reset.stored n = StoredRecord.vacant := by
  by_cases h : n < 480 <;> simp [State.stored, State.reset, h]

/-- What holds of record 310 and of a vacant record holds of every record of the bench. -/
theorem bench_stored {P : Nat → StoredRecord → Prop} {c : Record} {q : Port}
    (hc : P 310 { content := c, check := c.checkWord }) (hv : ∀ n, n ≠ 310 → P n StoredRecord.vacant) (n : Nat) :
    P n ((bench c q).stored n) := by
  by_cases h : n = 310
  · subst h
    have : (bench c q).stored 310 = { content := c, check := c.checkWord } :=
      State.store_stored_self (State.reset.modPort 1 (fun _ => q)) (by decide) _
    rw [this]; exact hc
  · have : (bench c q).stored n = StoredRecord.vacant :=
      ((State.reset.modPort 1 (fun _ => q)).store_stored_ne h _).trans (reset_stored n)
    rw [this]; exact hv n h

theorem bench_verifies (c : Record) (q : Port) (n : Nat) : (bench c q).verifies n = true :=
  bench_stored (P := fun _ x => x.verifies = true) (by simp [StoredRecord.verifies])
    (fun _ _ => vacant_verifies) n

/-- No record of the bench waits for a SET DELAY unless record 310 does. -/
theorem bench_waits (c : Record) (q : Port) (h : c.delaySync ≠ .waiting) (n p : Nat) :
    n < 480 → ((bench c q).record n).port = p → ((bench c q).record n).delaySync ≠ .waiting := fun _ _ =>
  bench_stored (P := fun _ x => x.content.delaySync ≠ .waiting) h (fun _ _ => by decide) n

theorem bench_record_self (c : Record) (q : Port) : (bench c q).record 310 = c :=
  congrArg StoredRecord.content (State.store_stored_self (State.reset.modPort 1 (fun _ => q)) (by decide) _)

theorem bench_record_ne (c : Record) (q : Port) (n : Nat) (h : n ≠ 310) : (bench c q).record n = Record.vacant :=
  congrArg StoredRecord.content (((State.reset.modPort 1 (fun _ => q)).store_stored_ne h _).trans (reset_stored n))

/-! ### Witnesses: a state and operands that meet the hypotheses of each statement, clause by clause -/

def queued : QueuedCommand := { tag := 5#8, command := .pin 310#16 }
def frame : ReplyFrame := { tag := 5#8, status := .ok, payload := [] }
def full8 : List ReplyFrame := List.replicate 8 frame
def full64 : List Descriptor := List.replicate 64 (.release 1 5)
def entry (r : Nat) : ActivationEntry := { record := r, phase := .awaitEcho }
def full8Entries : List ActivationEntry := (List.range 8).map entry
/-- Every drop id of the port is held. -/
def fullMap : NumMap := (List.range' 1 126).map (fun d => (d, 310))
def stranger60 : Stranger := { serial := 0x77#64, port := 1, levelable := true, sightings := 1, lastFrame := 9 }
def planArgs : PlanArgs where
  record := 311#16
  presence := 0#8
  plot := 9999#16
  port := 3#8
  serviceClass := 7#8
  autoAdmit := 1#8
  serial := 0
  preferred := 0
  dmin := 0
  dmax := 0
def adoptingArgs : PlanArgs := { planArgs with presence := 1#8, serial := 0x77#64 }
/-- Every field selected, of an EXPECTED record; and the band of a QUERY record. -/
def amendAll : AmendArgs := { selection := 0x7F#8, plan := { adoptingArgs with record := 310#16 } }
def amendBand : AmendArgs := { selection := 0x04#8, plan := { planArgs with record := 310#16 } }
def ready : State := bench drop street
/-- Record 310 holds content and check word that do not agree. -/
def upset : State := ready.store 310 { content := drop, check := drop.checkWord + 1 }
def craftFrame : List Byte := commandFrame (.pin 310#16) 5#8
def assembling (bs : List Byte) : State := { State.reset with craft := { State.reset.craft with assembly := some bs } }

theorem witness_StepTakesTheFront : ({ State.reset with pending := [.commandTake] } : State).pending = .commandTake :: []
    ∧ State.reset.pending = [] := ⟨rfl, rfl⟩

/-- Every field at the largest value of its bytes. -/
def widest : Record := { drop with
  plot := some 65535, port := 255, preferred := some 255, dropId := 255, band := some { dmin := 65535, dmax := 65535 }
  serviceClass := 255, ranging := some { roundTrip := 16777215, eqd := 16777215, length := 65535 }
  levelIndex := 255, lastLevel := 255, attempts := 255, rounds := 255, misses := 255, failures := 255
  outstanding := 65535, lastHeard := some 255 }

theorem witness_RecordImageReadsBack : widest.state = .ready ∧ widest.cause = .activated ∧ widest.levelCondition = .normal
    ∧ widest.delaySync = .synced ∧ widest.plot = some 65535 ∧ widest.port < 256 ∧ widest.preferred = some 255
    ∧ widest.dropId < 256 ∧ widest.band = some { dmin := 65535, dmax := 65535 } ∧ widest.serviceClass < 256
    ∧ widest.ranging = some { roundTrip := 16777215, eqd := 16777215, length := 65535 } ∧ widest.levelIndex < 256
    ∧ widest.lastLevel < 256 ∧ widest.attempts < 256 ∧ widest.rounds < 256 ∧ widest.misses < 256
    ∧ widest.failures < 256 ∧ widest.outstanding < 65536 ∧ widest.lastHeard = some 255 := by decide

/-- Frames that are turned away: a bad sum, a code that no command has, a DEVICE STATUS with an argument, a PIN without its record. -/
theorem witness_FramesAreTurnedAway :
    turnedAway [0xA7#8, 3#8, 9#8, 0x39#8, 0#8] 9#8 .malformed
    ∧ turnedAway (withCheck [0xA7#8, 3#8, 9#8, 0x10#8]) 9#8 .unknownCommand
    ∧ turnedAway (withCheck [0xA7#8, 4#8, 9#8, 0x39#8, 7#8]) 9#8 .malformed
    ∧ turnedAway (withCheck [0xA7#8, 3#8, 9#8, 0x17#8]) 9#8 .malformed := by
  have sums : ([0xA7#8, 3#8, 9#8, 0x39#8, 0#8] : List Byte).foldl (fun a b => a + b) 0#8 ≠ 0#8
      ∧ withCheck [0xA7#8, 3#8, 9#8, 0x10#8] = [0xA7#8, 3#8, 9#8, 0x10#8] ++ [0x3D#8]
      ∧ withCheck [0xA7#8, 4#8, 9#8, 0x39#8, 7#8] = [0xA7#8, 4#8, 9#8, 0x39#8, 7#8] ++ [0x0C#8]
      ∧ withCheck [0xA7#8, 3#8, 9#8, 0x17#8] = [0xA7#8, 3#8, 9#8, 0x17#8] ++ [0x36#8] := by decide +kernel
  obtain ⟨bad, unknown, long, short⟩ := sums
  rw [unknown, long, short]
  refine ⟨⟨3#8, 0x39#8, 0#8, [], rfl, rfl, .inl ⟨bad, rfl⟩⟩,
    ⟨3#8, 0x10#8, 0x3D#8, [], rfl, rfl, .inr (.inl ⟨by decide +kernel, fun c => ?_, rfl⟩)⟩,
    ⟨4#8, 0x39#8, 0x0C#8, [7#8], rfl, rfl, .inr (.inr ⟨by decide +kernel, ⟨.deviceStatus, rfl, by decide⟩, rfl⟩)⟩,
    ⟨3#8, 0x17#8, 0x36#8, [], rfl, rfl, .inr (.inr ⟨by decide +kernel, ⟨.pin 0, rfl, by decide +kernel⟩, rfl⟩)⟩⟩
  cases c <;> simp [commandBytes]

theorem witness_HostFrameQueuesItsCommand : State.reset.resetHeld = false ∧ State.reset.host.assembly = none
    ∧ State.reset.host.queue.length < 4
    ∧ (let s : State := { State.reset with host := { State.reset.host with queue := List.replicate 4 queued } };
      s.resetHeld = false ∧ s.host.assembly = none ∧ 4 ≤ s.host.queue.length ∧ s.host.replies.length < 8)
    ∧ (let s : State := { State.reset with
        host := { State.reset.host with queue := List.replicate 4 queued, replies := full8 } };
      s.resetHeld = false ∧ s.host.assembly = none ∧ 4 ≤ s.host.queue.length ∧ 8 ≤ s.host.replies.length)
    ∧ ([0#8, 3#8, 9#8].head? ≠ some 0xA7#8 ∧ [0xA7#8, 3#8].length < 3)
    ∧ ((2#8).toNat < 3 ∧ [0xA7#8, 3#8, 9#8, 0x39#8].length ≠ (3#8).toNat + 2) := by
  decide +kernel

/-- The first byte, a middle byte and the last byte of a frame. -/
theorem witness_CraftBytesAssembleAFrame :
    (State.reset.resetHeld = false ∧ [] ++ 0xA7#8 :: craftFrame.drop 1 = craftFrame
      ∧ State.reset.craft.assembly = none ∧ State.reset.craft.queue.length < 4)
    ∧ (craftFrame.take 4 ++ 1#8 :: craftFrame.drop 5 = craftFrame
      ∧ (assembling (craftFrame.take 4)).craft.assembly = some (craftFrame.take 4))
    ∧ craftFrame.take 6 ++ craftFrame.getLast (by decide) :: [] = craftFrame
    ∧ ([0xA7#8, 2#8].head? = some 0xA7#8 ∧ (assembling [0xA7#8, 2#8]).craft.assembly = some [0xA7#8, 2#8]
      ∧ [0xA7#8, 2#8] ++ [9#8] = [0xA7#8, 2#8, 9#8] ∧ (2#8).toNat < 3)
    ∧ (3 ≤ (3#8).toNat ∧ [0xA7#8, 3#8, 9#8].length < (3#8).toNat + 2)
    ∧ [0xA7#8, 3#8, 9#8, 0x39#8] ++ [0#8] = [0xA7#8, 3#8, 9#8, 0x39#8, 0#8]
    ∧ (let s : State := { assembling (craftFrame.take 6) with
        craft := { assembly := some (craftFrame.take 6), queue := List.replicate 4 queued, replies := full8 } };
      4 ≤ s.craft.queue.length ∧ 8 ≤ s.craft.replies.length) := by decide +kernel

theorem witness_CraftGapEndsTheFrame : (State.reset.resetHeld = false ∧ State.reset.craft.assembly = none ∧ 0#8 ≠ 0xA7#8)
    ∧ ((assembling [0xA7#8, 5#8]).craft.assembly = some [0xA7#8, 5#8] ∧ [0xA7#8, 5#8].length ≤ 2)
    ∧ ((assembling [0xA7#8, 5#8, 9#8]).craft.assembly = some (0xA7#8 :: 5#8 :: 9#8 :: [])
      ∧ (assembling [0xA7#8, 5#8, 9#8]).craft.replies.length < 8 ∧ 8 ≤ full8.length) := by decide +kernel

theorem witness_SentRepliesLeaveTheirPath :
    (let s : State := { State.reset with
        host := { State.reset.host with replies := [frame] }, craft := { State.reset.craft with replies := [frame] } };
      s.resetHeld = false ∧ s.hostRead = false ∧ s.host.replies = frame :: [] ∧ s.craft.replies = frame :: []
        ∧ ({ s with hostRead := true } : State).hostRead = true)
    ∧ State.reset.resetHeld = false ∧ State.reset.host.replies = [] ∧ State.reset.craft.replies = [] := by decide +kernel

theorem witness_TheArbiterAlternates :
    (let s : State := { State.reset with host := { State.reset.host with queue := [queued] } };
      s.ready .host ∧ (s.link .host).queue = queued :: [] ∧ Link.host ≠ s.lastServed)
    ∧ (let s : State := { State.reset with craft := { State.reset.craft with queue := [queued] } };
      s.ready .craft ∧ (s.link .craft).queue = queued :: [] ∧ Link.craft = s.lastServed
        ∧ (s.link (otherLink .craft)).queue = [])
    ∧ ((State.reset.link .host).queue = [] ∧ (State.reset.link .craft).queue = [])
    ∧ (let s : State := { State.reset with host := { State.reset.host with replies := full8 } };
      s.resetHeld = false ∧ 8 ≤ (s.link .host).replies.length ∧ (s.link .host).queue.length < 4)
    ∧ (let s : State := { State.reset with
        craft := { State.reset.craft with queue := List.replicate 4 queued, replies := full8 } };
      s.resetHeld = false ∧ 8 ≤ (s.link .craft).replies.length ∧ 4 ≤ (s.link .craft).queue.length) := by decide +kernel

theorem witness_CraftLinkIsLimited : (State.reset.ready .craft ∧ commandPermit .softReset = .hostOnly)
    ∧ (let s : State := { State.reset with phase := .service };
      s.ready .craft ∧ commandPermit (.retry 310#16) = .crew ∧ s.phase = .service) := by decide +kernel

theorem witness_RecordCommandsAreChecked :
    (∃ states, recordDemand (.pin 480#16) = some (480#16, true, states) ∧ 480 ≤ (480#16).toNat)
    ∧ (∃ states, recordDemand (.adopt 479#16 0) = some (479#16, false, states) ∧ (479#16).toNat < 480)
    ∧ (∃ states, recordDemand (.pin 310#16) = some (310#16, true, states) ∧ upset.verifies 310 = false)
    ∧ (∃ states, recordDemand (.retry 310#16) = some (310#16, true, states) ∧ ready.sound 310#16
      ∧ states (ready.record 310).state = false)
    ∧ ready.ready .host ∧ permitted .host ready.phase .crew = true := by
  refine ⟨⟨_, rfl, by decide⟩, ⟨_, rfl, by decide⟩, ⟨_, rfl, by decide +kernel⟩,
    ⟨_, rfl, by decide +kernel, by decide +kernel⟩, by decide +kernel, by decide +kernel⟩

/-- The record of checks 6 to 8: pinned in each state, without a stranger, the reference of a changeover, and beside a record that holds
the plot or the serial. -/
theorem witness_RecordCommandsMeetTheLaterChecks :
    (let s := bench { drop with pinned := true } street;
      s.ready .host ∧ s.ready .craft ∧ s.sound 310#16 ∧ s.phase = .build ∧ (s.record 310).pinned = true
        ∧ (s.record 310).state ≠ .vacant ∧ (s.record 310).state.ranged = true)
    ∧ (let s := bench { drop with pinned := true, state := .query } street;
      s.ready .craft ∧ s.sound 310#16 ∧ permitted .craft s.phase .crew = true ∧ (s.record 310).state = .query)
    ∧ (let s := bench { drop with pinned := true, state := .barred } street;
      s.ready .craft ∧ s.sound 310#16 ∧ (s.record 310).state = .barred)
    ∧ (let s : State := { bench { drop with pinned := true, state := .expected } street with strangers := [stranger60] };
      s.ready .host ∧ s.ready .craft ∧ s.sound 310#16 ∧ (s.record 310).state = .expected
        ∧ s.stranger 0x77#64 = some stranger60 ∧ 0x77#64 ≠ 0 ∧ 0x78#64 ≠ 0 ∧ (s.record 310).serial ≠ none
        ∧ s.stranger 0x78#64 = none ∧ amendArgsOk amendAll = true ∧ selects amendAll 4 = true)
    ∧ (let s := bench { drop with state := .query } { street with state := .changeover, changeover :=
        { reference := some 310, previousFeed := some .a, windows := 0, lastOffset := none } };
      s.ready .craft ∧ s.sound 310#16 ∧ permitted .craft s.phase .crew = true ∧ (s.record 310).state = .query
        ∧ (s.record 310).pinned = false ∧ (s.port (s.record 310).port).changeover.reference = some 310)
    ∧ (ready.sound 311#16 ∧ (ready.record 311).state = .vacant ∧ planArgsOk { planArgs with plot := 12#16 } = true
      ∧ mapGet ready.plotIndex (12#16).toNat = some 310 ∧ (310 : Nat) ≠ 311
      ∧ planArgsOk { adoptingArgs with serial := 0x60#64 } = true
      ∧ givenSerial { adoptingArgs with serial := 0x60#64 } = some 0x60#64
      ∧ mapGet ready.serialIndex (0x60#64).toNat = some 310)
    ∧ (let s := ready.freshRecord 311 { Record.vacant with state := .damaged, cause := .damaged };
      s.sound 311#16 ∧ (s.record 311).state = .damaged ∧ mapGet s.plotIndex (12#16).toNat = some 310)
    ∧ (let s : State := { bench { drop with state := .expected } street with
        plotIndex := [(12, 310), (9999, 5)], serialIndex := [(0x60, 310), (0x77, 5)] };
      s.ready .host ∧ s.sound 310#16 ∧ (s.record 310).pinned = false ∧ (s.record 310).state = .expected
        ∧ mapGet s.plotIndex amendAll.plan.plot.toNat = some 5 ∧ selects amendAll 5 = true
        ∧ givenSerial amendAll.plan = some 0x77#64 ∧ mapGet s.serialIndex (0x77#64).toNat = some 5) := by
  refine ⟨?_, ?_, ?_, ?_, ?_, ?_, ?_, ?_⟩ <;> decide +kernel

theorem witness_PortCommandsAreChecked :
    ready.ready .host ∧ (∃ table, portDemand (.start 4#8) = some (4#8, table) ∧ 4 ≤ (4#8).toNat)
    ∧ (∃ table, portDemand (.portEnable 1#8) = some (1#8, table)
      ∧ table (ready.port (1#8).toNat).state = some .refusedState)
    ∧ (∃ table, portDemand (.start 3#8) = some (3#8, table))
    ∧ (let s := State.reset.modPort 3 (fun q => { q with state := .standby });
      (s.port (3#8).toNat).state = .standby ∧ (s.port (3#8).toNat).calibrated = false) := by
  refine ⟨by decide +kernel, ⟨_, rfl, by decide⟩, ⟨_, rfl, by decide +kernel⟩, ⟨_, rfl⟩, by decide +kernel⟩

theorem witness_DescriptorsJoinOrAreDropped : ((ready.port 1).outbound.length < 64 ∧ (Descriptor.name 310).names = some 310)
    ∧ 64 ≤ ((bench drop { street with outbound := full64 }).port 1).outbound.length := by decide +kernel

theorem witness_DamageHandlingTakesTheRecordOut :
    (310 < 480 ∧ (17, 310) ∈ (upset.port 1).dropMap ∧ (upset.port 1).changeover.reference ≠ some 310)
    ∧ (let q := { street with changeover :=
        { reference := some 310, previousFeed := some .a, windows := 0, lastOffset := none } };
      ((bench drop q).port 1).changeover.reference = some 310 ∧ q.window = none)
    ∧ (let q := { windowed .reference (some 310) none none with changeover :=
        { reference := some 310, previousFeed := some .a, windows := 1, lastOffset := none } };
      ((bench drop q).port 1).changeover.reference = some 310
        ∧ q.window = some (window .reference (some 310) none) ∧ (window .reference (some 310) none).kind = .reference)
    ∧ ((479 : Nat) < 480 ∧ (∀ e ∈ (ready.port 1).dropMap, e.2 ≠ 479)
      ∧ (ready.port 1).changeover.reference ≠ some 479) := by decide +kernel

theorem witness_AllocationTakesPreferredThenLowest : ready.dropFree 1 126 = true ∧ ready.dropFree 1 17 = false
    ∧ (bench drop { street with dropMap := fullMap }).allocate 1 none = none := by decide +kernel

theorem witness_NamingGivesADropId : ready.verifies 310 = true ∧ 310 < 480
    ∧ 8 ≤ ((bench drop { street with activation := full8Entries }).port 1).activation.length
    ∧ (bench drop { street with dropMap := fullMap }).allocate 1
        ((bench drop { street with dropMap := fullMap }).record 310).preferred = none
    ∧ (ready.port 1).activation.length < 8 ∧ ready.allocate 1 (ready.record 310).preferred = some 1 := by decide +kernel

/-- A window of each kind, with its target's entry where the kind has one. -/
theorem witness_AbandonmentReturnsTheOwner :
    ((bench drop (windowed .invite none none none)).port 1).window = some (window .invite none none)
    ∧ ((bench drop (windowed .loop none none none)).port 1).window = some (window .loop none none)
    ∧ ((bench drop (windowed .upkeep (some 310) none none)).port 1).window = some (window .upkeep (some 310) none)
    ∧ ((bench drop (windowed .echo (some 310) none (some .echoOpen))).port 1).window = some (window .echo (some 310) none)
    ∧ (bench drop (windowed .echo (some 310) none (some .echoOpen))).phaseOf 1 310 = some .echoOpen
    ∧ ((bench drop (windowed .verify (some 310) none (some .verifyOpen))).port 1).window =
        some (window .verify (some 310) none)
    ∧ (bench drop (windowed .verify (some 310) none (some .verifyOpen))).phaseOf 1 310 = some .verifyOpen
    ∧ (windowed .echo none none none).window = some (window .echo none none)
    ∧ (bench drop (windowed .echo (some 310) none (some .awaitVerify))).phaseOf 1 310 ≠ some .echoOpen
    ∧ (bench drop (windowed .verify (some 310) none none)).phaseOf 1 310 ≠ some .verifyOpen := by
  decide +kernel

theorem witness_ActivationFailureReleasesTheDrop : (310 < 480 ∧ (ready.record 310).port = 1 ∧ (ready.record 310).dropId ≠ 0)
    := by decide +kernel

theorem witness_AttemptFailureNamesAgain : (ready.record 310).attempts + 1 < 3
    ∧ 3 ≤ ((bench { drop with attempts := 2 } street).record 310).attempts + 1 := by decide +kernel

theorem witness_PlanAndRestoreFillTheRecord : ready.ready .host ∧ ready.sound planArgs.record ∧ planArgsOk planArgs = true
    ∧ (ready.record planArgs.record.toNat).state = .vacant
    ∧ heldByOther ready.plotIndex planArgs.plot.toNat planArgs.record.toNat = false ∧ givenSerial planArgs = none
    ∧ (let s := ready.freshRecord 311 { Record.vacant with state := .damaged, cause := .damaged };
      s.sound planArgs.record ∧ (s.record planArgs.record.toNat).state = .damaged) := by decide +kernel

theorem witness_PlanAndRestoreAdoptAStranger :
    (let s : State := { ready with strangers := [stranger60] };
      s.ready .host ∧ s.sound adoptingArgs.record ∧ planArgsOk adoptingArgs = true
        ∧ (s.record adoptingArgs.record.toNat).state = .vacant
        ∧ heldByOther s.plotIndex adoptingArgs.plot.toNat adoptingArgs.record.toNat = false
        ∧ givenSerial adoptingArgs = some 0x77#64
        ∧ heldByOther s.serialIndex (0x77#64).toNat adoptingArgs.record.toNat = false
        ∧ s.stranger 0x77#64 = some stranger60
        ∧ (s.port stranger60.port).state = .run) := by decide +kernel

theorem witness_AmendChangesItsSelection :
    (let s := bench { drop with state := .expected } street;
      s.ready .host ∧ s.sound amendAll.plan.record ∧ amendArgsOk amendAll = true ∧ (s.record 310).state = .expected
        ∧ (s.record 310).pinned = false ∧ selects amendAll 4 = true
        ∧ heldByOther s.plotIndex amendAll.plan.plot.toNat 310 = false
        ∧ heldByOther s.serialIndex (0x77#64).toNat 310 = false ∧ givenSerial amendAll.plan = some 0x77#64)
    ∧ (let s := bench { drop with state := .query, pinned := true } street;
      s.ready .host ∧ s.sound amendBand.plan.record ∧ amendArgsOk amendBand = true ∧ (s.record 310).state = .query
        ∧ selects amendBand 5 = false ∧ selects amendBand 6 = false ∧ selects amendBand 4 = false
        ∧ insideBand (givenBand amendBand.plan) (s.record 310).dropLength = true) := by decide +kernel

theorem witness_RetireEmptiesTheRecord : ready.ready .host ∧ ready.sound 310#16 ∧ (ready.record 310).state ≠ .vacant
    ∧ (ready.record 310).pinned = false ∧ (ready.record 310).port < 4
    ∧ (ready.port 3).changeover.reference ≠ some 310
    ∧ (let q := { street with state := .changeover, changeover :=
        { reference := some 310, previousFeed := some .a, windows := 0, lastOffset := none } };
      ((bench drop q).port 1).changeover.reference = some 310 ∧ q.window = none
        ∧ ({ q with window := some (window .reference (some 310) none) } : Port).window =
          some (window .reference (some 310) none)) := by decide +kernel

theorem witness_AdoptGivesTheStrangersSerial :
    (let s : State := { bench { drop with state := .expected } street with strangers := [stranger60] };
      s.ready .craft ∧ permitted .craft s.phase .crew = true ∧ s.sound 310#16 ∧ (0x77#64 ≠ 0)
        ∧ (s.record 310).state = .expected ∧ s.stranger 0x77#64 = some stranger60 ∧ (s.record 310).pinned = false)
    ∧ (let s : State := { bench { drop with state := .expected, pinned := true, serial := none } street with
        strangers := [stranger60] };
      s.ready .host ∧ s.sound 310#16 ∧ (s.record 310).state = .expected ∧ (s.record 310).serial = none
        ∧ stranger60.port = (s.record 310).port) := by decide +kernel

theorem witness_RetryPinAndUnpin :
    (let s := bench { drop with state := .barred } street;
      s.ready .craft ∧ s.sound 310#16 ∧ (s.record 310).state = .barred ∧ permitted .craft s.phase .crew = true
        ∧ (s.record 310).pinned = false)
    ∧ (ready.ready .host ∧ ready.sound 310#16 ∧ (ready.record 310).state ≠ .vacant
      ∧ (ready.record 310).state ≠ .damaged) := by decide +kernel

theorem witness_AdmissionCommandsMoveTheRecord :
    (let s := bench { drop with state := .query, autoAdmit := true } street;
      s.ready .craft ∧ s.sound 310#16 ∧ (s.record 310).state = .query ∧ permitted .craft s.phase .crew = true
        ∧ (s.record 310).pinned = false ∧ (s.record 310).autoAdmit = true)
    ∧ (let s := bench { drop with state := .query } street;
      s.sound 310#16 ∧ (s.record 310).state = .query ∧ (s.record 310).autoAdmit = false)
    ∧ (ready.ready .host ∧ ready.sound 310#16 ∧ (ready.record 310).state = .ready)
    ∧ (let s := bench { drop with state := .active } street;
      s.ready .host ∧ s.sound 310#16 ∧ (s.record 310).state = .active) := by decide +kernel

theorem witness_RejectDisownsTheTerminal :
    (let s := bench { drop with state := .query } street;
      s.ready .craft ∧ permitted .craft s.phase .crew = true ∧ s.sound 310#16 ∧ (s.record 310).state = .query
        ∧ (s.record 310).pinned = false ∧ (s.port 1).changeover.reference ≠ some 310 ∧ (s.record 310).port < 4
        ∧ (s.record 310).dropId ≠ 0 ∧ (s.record 310).serial = some 0x60#64) := by decide +kernel

theorem witness_RediscoverStartsAgain :
    (ready.ready .craft ∧ permitted .craft ready.phase .crew = true ∧ ready.sound 310#16
      ∧ (ready.record 310).port < 4 ∧ (ready.record 310).state.ranged = true ∧ (ready.record 310).pinned = false
      ∧ (ready.port 1).activation.length < 8 ∧ (ready.port 1).changeover.reference ≠ some 310)
    ∧ 8 ≤ ((bench drop { street with activation := full8Entries }).port 1).activation.length := by decide +kernel

theorem witness_PortsAreEnabledStartedAndCalibrated :
    (State.reset.ready .host ∧ (State.reset.port (3#8).toNat).state = .down)
    ∧ (let s := bench drop { street with state := .standby };
      s.ready .host ∧ (s.port (1#8).toNat).state = .standby ∧ (s.port (1#8).toNat).calibrated = true)
    ∧ (ready.ready .craft ∧ permitted .craft ready.phase .crew = true ∧ (ready.port (1#8).toNat).state ≠ .down)
    ∧ (State.reset.ready .craft ∧ 4 ≤ (4#8).toNat) := by
  decide +kernel

theorem witness_StopTakesThePortToStandby : (ready.ready .host ∧ (ready.port (1#8).toNat).state = .run)
    ∧ ((bench drop { street with state := .calibrating }).port (1#8).toNat).state = .calibrating := by decide +kernel

theorem witness_PortDisableEndsService :
    (let s := bench drop { street with state := .standby };
      s.ready .host ∧ (s.port 1).state = .standby ∧ s.allVerify
        ∧ (∀ d r, (d, r) ∈ (s.port 1).dropMap → r < 480 ∧ d ≠ 0 ∧ (s.record r).port = 1 ∧ (s.record r).dropId = d)
        ∧ ∀ r, r < 480 → (s.record r).port ≤ 3
          ∧ ((s.record r).dropId = 0 → (s.record r).ranging = none ∧ (s.record r).delaySync ≠ .waiting)) := by
  refine ⟨by decide +kernel, by decide +kernel, fun n _ => bench_verifies _ _ n, ?_, fun n _ => ?_⟩
  · intro d r h
    have h' : (d, r) ∈ [(17, 310)] := h
    obtain ⟨rfl, rfl⟩ : d = 17 ∧ r = 310 := by simpa using h'
    decide +kernel
  · exact bench_stored (P := fun _ x => x.content.port ≤ 3
      ∧ (x.content.dropId = 0 → x.content.ranging = none ∧ x.content.delaySync ≠ .waiting))
      (by decide) (fun _ _ => by decide) n

/-- Record 310 on port 2 while port 1's queue holds its SET DELAY and a LEVEL: port 2's queue has room for another, or none. -/
theorem witness_PortDisableTakesDescriptorsOfOtherPorts :
    let s := bench { drop with port := 2, delaySync := .queued, outstanding := 2 }
      { street with state := .standby, dropMap := [], outbound := [.setDelay 310, .level 310] };
    let left := (List.range 480).filter (fun r =>
      (s.record r).port == 2 && decide (0 < countNaming (s.port 1).outbound r)
        && (if (s.port 1).outbound.contains (.setDelay r) then (s.record r).ranging.isSome
          else (s.record r).delaySync == .waiting));
    (s.record 310).port ≠ 1 ∧ countNaming (s.port 1).outbound 310 = 2
      ∧ (s.port 1).outbound.contains (.setDelay 310) = true ∧ (s.record 310).ranging.isSome = true
      ∧ left.take (64 - (s.port 2).outbound.length) = [310] ∧ left.take (64 - full64.length) = []
      ∧ countNaming (s.port 1).outbound 0 = 0 := by decide +kernel

/-- The interval alone, and the feed of a port with a ranged record. -/
def configInterval : ConfigArgs where
  port := 1#8
  selection := 0x0100#16
  teq := 0
  tr := 0
  lo := 0
  hi := 0
  floor := 0
  ceiling := 0
  initIndex := 0
  mode := 0
  interval := 4096#16
  spread := 0
  period := 0
  hold := 0
  limit := 0
  gap := 0
  feed := 0
def configFeedB : ConfigArgs := { configInterval with selection := 0x4000#16, feed := 1#8 }

/-- The ranges and cross-checks of R49 and R50, for a configuration as a whole. -/
abbrev inRange (c : PortConfig) : Prop :=
  1 ≤ c.teq ∧ c.teq ≤ 240000 ∧ 20000 ≤ c.tr ∧ c.tr ≤ 40000 ∧ c.floor ≤ c.lo ∧ c.lo < c.hi ∧ c.hi ≤ c.ceiling
    ∧ c.ceiling ≤ 255 ∧ c.initIndex ≤ 7 ∧ 16 ≤ c.interval ∧ c.interval ≤ 4096 ∧ c.initSpread ≤ 6 ∧ 8 ≤ c.period
    ∧ c.period ≤ 65535 ∧ c.hold ≤ 8 ∧ c.hold < c.limit ∧ c.limit ≤ 256 ∧ c.gap ≤ 8

/-- The largest interval, selected alone, is good and changes neither Teq nor TR nor the feed; 4,097 is not good, and no selection is not;
feed B alone is a change. A port in RUN, one in STANDBY, and one with and one without a round trip. -/
theorem witness_PortConfigureSetsItsSelection :
    (ready.ready .host ∧ (4#8).toNat = 4 ∧ configInterval.port.toNat < 4
      ∧ (configInterval.selection.toNat = 0x100 ∧ configInterval.selection.getLsbD 8 = true
        ∧ ∀ bit, bit < 15 → bit ≠ 8 → configInterval.selection.getLsbD bit = false)
      ∧ configInterval.interval.toNat = 4096 ∧ inRange { street.config with interval := 4096 }
      ∧ ¬ inRange { street.config with interval := 4097 } ∧ ¬ (0 < (0#16).toNat))
    ∧ ((ready.port 1).state ≠ .down ∧ (ready.port 1).state ≠ .standby)
    ∧ (let s := bench drop { street with state := .standby };
      s.ready .host ∧ (s.port 1).state = .standby ∧ (310 : Nat) < 480 ∧ (s.record 310).port = configFeedB.port.toNat
        ∧ (s.record 310).ranging.isSome = true
        ∧ (configFeedB.selection.toNat = 0x4000 ∧ configFeedB.selection.getLsbD 14 = true
          ∧ ∀ bit, bit < 14 → configFeedB.selection.getLsbD bit = false)
        ∧ configFeedB.feed.toNat = 1 ∧ (s.port 1).feed = .a ∧ inRange (s.port 1).config) := by
  refine ⟨?_, ?_, ?_⟩ <;> decide +kernel

theorem witness_PortConfigureMeetsNoRoundTrip (n : Nat) :
    ((bench { drop with state := .expected, ranging := none } { street with state := .standby }).record n).ranging = none :=
  bench_stored (P := fun _ x => x.content.ranging = none) (by decide) (fun _ _ => by decide) n

theorem witness_ChangeoverBegins : ((1 : Nat) < 4 ∧ (310 : Nat) < 480 ∧ 4 ≤ (4#8).toNat ∧ 480 ≤ (480#16).toNat)
    ∧ ((State.reset.port 1).state = .down ∧ ((bench drop { street with state := .calibrating }).port 1).state = .calibrating)
    ∧ (ready.ready .host ∧ (ready.port (1#8).toNat).state = .run ∧ ready.verifies (310#16).toNat = true
      ∧ (ready.record 310).port = (1#8).toNat ∧ (ready.record 310).state.ranged = true
      ∧ (ready.record 310).delaySync = .synced)
    ∧ upset.verifies (310#16).toNat = false
    ∧ ((bench { drop with state := .expected } street).record 310).state.ranged = false
    ∧ ((bench { drop with delaySync := .queued } street).record 310).delaySync ≠ .synced := by decide +kernel

theorem witness_ReadsShowTheRecord :
    (ready.ready .craft ∧ ready.sound 310#16 ∧ mapGet ready.serialIndex (0x60#64).toNat = some 310
      ∧ ready.verifies 310 = true ∧ mapGet ready.plotIndex (12#16).toNat = some 310)
    ∧ (480 ≤ (480#16).toNat ∧ upset.verifies (310#16).toNat = false ∧ upset.ready .craft
      ∧ mapGet upset.serialIndex (0x60#64).toNat = some 310 ∧ mapGet upset.plotIndex (12#16).toNat = some 310)
    ∧ (mapGet ready.serialIndex (0x77#64).toNat = none ∧ ready.stranger 0x77#64 = none
      ∧ ({ ready with strangers := [stranger60] } : State).stranger 0x77#64 = some stranger60)
    ∧ (1 ≤ (9999#16).toNat ∧ (9999#16).toNat ≤ 9999 ∧ mapGet ready.plotIndex (9999#16).toNat = none)
    ∧ 9999 < (10000#16).toNat := by decide +kernel

theorem witness_StatusReadsAnswer : ready.ready .craft ∧ ready.ready .host ∧ (3#8).toNat < 4 ∧ 4 ≤ (4#8).toNat := by
  decide +kernel

theorem witness_SilenceMapReportsMaximalRuns : rising [3, 4, 7] ∧ upset.ready .craft ∧ (1#8).toNat < 4 ∧ (310#16).toNat < 480
    ∧ (310 : Nat) ∈ (List.range 480).filter (fun n => decide ((310#16).toNat ≤ n) && !upset.verifies n)
    ∧ 4 ≤ (4#8).toNat ∧ 480 ≤ (480#16).toNat := by
  refine ⟨by decide, by decide +kernel, by decide, by decide, ?_, by decide, by decide⟩
  exact List.mem_filter.mpr ⟨List.mem_range.mpr (by decide), by decide +kernel⟩

theorem witness_DropMapAndActivationQueueAreRead :
    (let s := upset.modPort 1 (fun q => { q with activation := [entry 310, entry 311] });
      s.ready .craft ∧ (1#8).toNat < 4 ∧ rising ((s.port 1).dropMap.map Prod.fst)
        ∧ (s.port 1).dropMap.filter (fun e => s.verifies e.2) = []
        ∧ (s.port 1).activation.filter (fun e => s.verifies e.record) = [entry 311])
    ∧ 4 ≤ (4#8).toNat := by decide +kernel

theorem witness_DeviceCommandsAnswer :
    (let s : State := { upset with changed := [309, 310] };
      s.ready .host ∧ (255#8) ≠ 0 ∧ rising s.changed
        ∧ (s.changed.take 64).filter (fun n => !s.verifies n) = [310]) := by decide +kernel

theorem witness_SoftResetKeepsTheRegistry :
    (ready.ready .host ∧ ready.allVerify
      ∧ ∀ p w r, p < 4 → (ready.port p).window = some w → w.kind = .echo → w.target = some r →
        ready.phaseOf p r = some .echoOpen → (ready.record r).state = .ranging)
    ∧ ((ready.record 310).state.ranged = true
      ∧ (ready.record 0).state.activating = false ∧ (ready.record 0).state.ranged = false
      ∧ (ready.record 0).ranging = none ∧ (ready.record 0).delaySync = .synced)
    ∧ (let s := bench { drop with state := .named } street;
      (s.record 310).state.activating = true ∧ (s.record 310).port = 1 ∧ (s.record 310).dropId = 17) := by
  refine ⟨⟨by decide +kernel, fun n _ => bench_verifies _ _ n, ?_⟩, by decide +kernel, by decide +kernel⟩
  have none_open : ∀ p, p < 4 → (ready.port p).window = none := by decide +kernel
  intro p w r hp hw
  rw [none_open p hp] at hw
  exact absurd hw (by simp)

/-- No activating record has the drop id 18. -/
theorem witness_SoftResetKeepsOtherDrops (n : Nat) :
    ((bench { drop with state := .named } street).record n).dropId ≠ 18 :=
  bench_stored (P := fun _ x => x.content.dropId ≠ 18) (by decide) (fun _ _ => by decide) n

/-- The street in which record 310 waits for its SET DELAY. -/
def waiting : Record := { drop with delaySync := .waiting }
def late : State := bench waiting street

theorem late_port (p : Nat) (h : p < 4) : late.port p = if p = 1 then street else Port.reset := by
  have : ∀ p, p < 4 → late.port p = if p = 1 then street else Port.reset := by decide +kernel
  exact this p h

theorem late_quiet (p : Nat) (h : p < 4) : (late.port p).outbound = [] ∧ (late.port p).activation = [] := by
  rw [late_port p h]; split <;> exact ⟨rfl, rfl⟩

/-- Its maps, indexes, queues and entries agree with its records. -/
theorem late_tied : late.tied := by
  have self : late.record 310 = waiting := bench_record_self _ _
  have other : ∀ n, n ≠ 310 → late.record n = Record.vacant := bench_record_ne _ _
  have drops : ∀ p d n, p < 4 → (mapGet (late.port p).dropMap d = some n ↔ p = 1 ∧ d = 17 ∧ n = 310) := by
    intro p d n hp
    rw [late_port p hp]
    split <;> rename_i h <;> simp [h, street, Port.reset, mapGet]
    omega
  have index : ∀ k m n : Nat, (mapGet [(m, 310)] k = some n ↔ k = m ∧ n = 310) := by
    intro k m n; simp [mapGet]; omega
  have unnamed : ∀ n, late.queuedNaming allPorts n = 0 ∧ late.setDelayQueued allPorts n = false
      ∧ (allPorts.map (fun p => (late.port p).outbound.countP (fun d => d.isSetDelayOf n))).sum = 0 := by
    intro n
    have q0 := (late_quiet 0 (by decide)).1
    have q1 := (late_quiet 1 (by decide)).1
    have q2 := (late_quiet 2 (by decide)).1
    have q3 := (late_quiet 3 (by decide)).1
    simp [State.queuedNaming, State.setDelayQueued, allPorts, countNaming, q0, q1, q2, q3]
  refine ⟨fun n _ => ?_, fun p d n hp => ?_, ⟨fun k n => ?_, fun k n => ?_, fun e he => nomatch he⟩,
    ⟨fun n _ => ?_, fun n => ?_⟩, fun n g _ hg => ?_, fun p hp => ?_, fun n _ ha => ?_⟩
  · by_cases h : n = 310
    · subst h; rw [self]; decide
    · rw [other n h]; decide
  · rw [drops p d n hp]
    by_cases h : n = 310
    · subst h; rw [self]
      exact ⟨fun ⟨a, b, _⟩ => ⟨by decide, a.symm, b.symm, by omega⟩, fun ⟨_, a, b, _⟩ => ⟨a.symm, b.symm, rfl⟩⟩
    · rw [other n h]
      exact ⟨fun ⟨_, _, a⟩ => absurd a h, fun ⟨_, _, a, b⟩ => absurd a.symm b⟩
  · rw [show late.serialIndex = [(0x60, 310)] from rfl, index]
    by_cases h : n = 310
    · subst h; rw [self]
      exact ⟨fun ⟨a, _⟩ => ⟨by decide, 0x60#64, rfl, a.symm⟩,
        fun ⟨_, x, a, b⟩ => ⟨by have : 0x60#64 = x := Option.some.inj a; rw [← b, ← this]; rfl, rfl⟩⟩
    · rw [other n h]
      exact ⟨fun ⟨_, a⟩ => absurd a h, fun ⟨_, _, a, _⟩ => nomatch a⟩
  · rw [show late.plotIndex = [(12, 310)] from rfl, index]
    by_cases h : n = 310
    · subst h; rw [self]
      exact ⟨fun ⟨a, _⟩ => ⟨by decide, congrArg some a.symm⟩, fun ⟨_, a⟩ => ⟨(Option.some.inj a).symm, rfl⟩⟩
    · rw [other n h]
      exact ⟨fun ⟨_, a⟩ => absurd a h, fun ⟨_, a⟩ => nomatch a⟩
  · obtain ⟨u, v, _⟩ := unnamed n
    rw [u, v]
    by_cases h : n = 310
    · subst h; rw [self]; decide
    · rw [other n h]; decide
  · rw [(unnamed n).2.2]; decide
  · by_cases h : n = 310
    · subst h
      rw [self] at hg ⊢
      obtain rfl : { roundTrip := 24600, eqd := 175400, length := 2010 } = g := Option.some.inj hg
      rw [late_port _ (by decide)]
      decide
    · rw [other n h] at hg
      exact nomatch hg
  · rw [(late_quiet p hp).2]
    exact ⟨List.nodup_nil, fun e he => nomatch he⟩
  · by_cases h : n = 310
    · subst h; rw [self] at ha; exact nomatch ha
    · rw [other n h] at ha; exact nomatch ha

theorem witness_SoftResetServesTheWaiting : late.ready .host ∧ late.tied ∧ (310 : Nat) < 480
    ∧ (late.record 310).state.ranged = true ∧ (late.record 310).delaySync = .waiting ∧ (late.record 310).port = 1
    ∧ (late.record 0).state.ranged = false :=
  ⟨by decide +kernel, late_tied, by decide, by decide +kernel, by decide +kernel, by decide +kernel, by decide +kernel⟩

theorem witness_TheHardResetPinHoldsThePart : ({ ready with resetHeld := true } : State).resetHeld = true := rfl

theorem witness_AnUpsetStrikesOneRecord :
    ((Instr.storageUpset 479 Record.vacant.image (Record.vacant.checkWord + 1)).wellFormed = true
      ∧ ready.resetHeld = false)
    ∧ 480 ≤ 480 ∧ ((479 : Nat) < 480 ∧ ([] : List Byte).length ≠ 41)
    ∧ (Record.vacant.image.length = 41 ∧ (Record.ofImage Record.vacant.image).checkWord = Record.vacant.checkWord) := by
  decide +kernel

/-- No window in STANDBY; a window in its first frame in CALIBRATING and in RUN; a LOOP window at its close; port 0's lane. -/
theorem witness_FrameStartsTimeTheWindow :
    ((1 : Lane) ≠ 0 ∧ ((bench drop { street with state := .standby }).port 1).window = none)
    ∧ (let w := { window .loop none none with age := 0 };
      w.age = 0 ∧ ((bench drop { street with state := .calibrating, window := some w }).port 1).state ≠ .run)
    ∧ (let w := { window .upkeep (some 310) none with age := 0 };
      let q := { street with window := some w };
      w.age = 0 ∧ q.state = .run ∧ q.periodTimer + 1 < q.config.period ∧ min (q.discoveryTimer + 1) 4096 < q.config.interval)
    ∧ (let q := { windowed .loop none none none with state := .calibrating };
      q.window = some (window .loop none none) ∧ 1 ≤ (window .loop none none).age ∧ 1 ≤ q.config.gap)
    ∧ ((State.reset.port 0).window = none ∧ (State.reset.port 0).state = .down ∧ State.reset.craft.assembly = none
      ∧ State.reset.scrubCounter + 1 < State.reset.scrubInterval)
    ∧ (let s : State := { State.reset with scrubCounter := 3, scrubCursor := 479 };
      s.scrubInterval ≤ s.scrubCounter + 1 ∧ s.verifies s.scrubCursor = true) := by decide +kernel

/-- The steps of a frame start: a window of each kind in its second frame; the last frame of an upkeep period and the frame before it; a
discovery timer one short of the interval, with and without an INVITE window; and on port 0's lane a scrub that is due and a craft frame
whose idle count reaches 80. -/
theorem witness_FrameStartsTakeTheirSteps :
    (∀ kind ∈ [WindowKind.invite, .echo, .verify, .upkeep, .reference, .loop],
      ((bench drop (windowed kind (some 310) none none)).port 1).window = some (window kind (some 310) none)
        ∧ 1 ≤ (window kind (some 310) none).age)
    ∧ (let q := { street with periodTimer := 39 };
      q.state = .run ∧ q.window = none ∧ q.config.period ≤ q.periodTimer + 1 ∧ street.periodTimer + 1 < street.config.period)
    ∧ (let q := { street with discoveryTimer := 63 };
      q.config.interval ≤ min (q.discoveryTimer + 1) 4096 ∧ min (street.discoveryTimer + 1) 4096 < street.config.interval)
    ∧ (windowed .invite none none none).window = some (window .invite none none)
    ∧ (let s : State := { assembling [0xA7#8] with craftIdle := 79, scrubCounter := 3 };
      s.resetHeld = false ∧ s.craft.assembly ≠ none ∧ 80 ≤ s.craftIdle + 1 ∧ s.scrubInterval ≤ s.scrubCounter + 1
        ∧ (assembling [0xA7#8]).craftIdle + 1 < 80) := by decide +kernel

/-- A port with each requester of RUN in turn, a calibration and a changeover. -/
def due : Port := { street with due := true, arrivals := [] }
def awaiting (ph : Phase) : Port := { street with activation := [{ record := 310, phase := ph }] }
def owing : Port := { street with owed := 8 }
def changing (n : Nat) : Port := { street with
  state := .changeover
  changeover := { reference := some 310, previousFeed := some .a, windows := n, lastOffset := none } }

theorem witness_GrantsOpenWindows :
    ((ready.port 1).window = none ∧ (ready.port 1).config.gap ≤ (ready.port 1).gapCounter ∧ ready.resetHeld = false
      ∧ ready.runRequest 1 = none)
    ∧ (bench drop due).runRequest 1 = some { kind := .invite, target := none }
    ∧ ((bench drop (awaiting .awaitEcho)).runRequest 1 = some { kind := .echo, target := some 310 }
      ∧ (bench drop (awaiting .awaitEcho)).verifies 310 = true)
    ∧ (bench drop (awaiting .awaitVerify)).runRequest 1 = some { kind := .verify, target := some 310 }
    ∧ (bench drop owing).runRequest 1 = some { kind := .upkeep, target := some 310 }
    ∧ (let s := bench drop (changing 2);
      (s.port 1).state = .changeover ∧ (s.port 1).changeover.reference = some 310 ∧ (s.port 1).changeover.windows < 3
        ∧ (s.record 310).outstanding = 0 ∧ (s.record 310).delaySync = .synced ∧ s.verifies 310 = true)
    ∧ 3 ≤ ((bench drop (changing 3)).port 1).changeover.windows
    ∧ ((upset.modPort 1 (fun _ => awaiting .awaitEcho)).runRequest 1 = some { kind := .echo, target := some 310 }
      ∧ (upset.modPort 1 (fun _ => changing 2)).verifies 310 = false)
    ∧ ((bench drop { street with state := .calibrating }).port 1).state = .calibrating
    ∧ (State.reset.port 1).state = .down := by decide +kernel

theorem witness_RequestersStandInOrder :
    ((bench drop owing).upkeepTarget 1 = some 310 ∧ (bench drop owing).record 310 = drop)
    ∧ (State.reset.upkeepTarget 1 = none)
    ∧ ((bench { drop with misses := 1 } { street with owed := 1 }).upkeepTarget 1 = some 310
      ∧ 0 < ((bench { drop with misses := 1 } street).record 310).misses)
    ∧ ((awaiting .awaitEcho).activation = [] ++ { record := 310, phase := .awaitEcho } :: [])
    ∧ (due.due = true ∧ due.owed = 0) ∧ street.due = false := by decide +kernel

theorem witness_InviteCloseAdaptsTheSpread :
    ((bench drop (windowed .invite none none none)).port 1).window = some (window .invite none none)
    ∧ (ready.port 1).window = none ∧ ready.resetHeld = false := by decide +kernel

/-- The first ranging of 6.7 and the cases of its table of limits, with a level in the window, below it, and both ends of reach. -/
def ranging : Record := { drop with state := .ranging, ranging := none }
def echoed (offset level : Nat) : State :=
  bench ranging (windowed .echo (some 310) (some { offset := offset, level := level }) (some .echoOpen))

theorem witness_EchoCloseRangesTheTerminal :
    (let s := echoed 60812 40;
      s.resetHeld = false ∧ (s.port 1).window = some (window .echo (some 310) (some { offset := 60812, level := 40 }))
        ∧ (310 : Nat) < 480 ∧ s.verifies 310 = true ∧ s.phaseOf 1 310 = some .echoOpen ∧ (s.record 310).state = .ranging
        ∧ ((60812 : Nat) : Int) - (s.port 1).config.tr - (s.port 1).loopOffset = (24600 : Nat)
        ∧ 24600 ≤ (s.port 1).config.teq ∧ (s.record 310).delaySync = .synced ∧ (s.record 310).port = 1
        ∧ s.setDelayQueued allPorts 310 = false ∧ (s.port 1).outbound.length < 64 ∧ 64 ≤ full64.length ∧ 40 < (s.port 1).config.lo ∧ (s.record 310).levelable = some true
        ∧ (s.record 310).levelIndex < 7 ∧ (s.record 310).rounds < 2)
    ∧ (let q := (echoed 60812 48).port 1;
      q.config.lo ≤ 48 ∧ 48 ≤ q.config.hi)
    ∧ upset.verifies 310 = false
    ∧ ((30000 : Nat) : Int) - 35000 - 1212 < 0 ∧ (200000 : Int) < ((240000 : Nat) : Int) - 35000 - 1212
    ∧ (windowed .echo (some 310) none (some .echoOpen)).window = some (window .echo (some 310) none)
    ∧ (windowed .echo none none none).window = some (window .echo none none)
    ∧ (bench ranging (windowed .echo (some 310) none (some .awaitEcho))).phaseOf 1 310 ≠ some .echoOpen := by
  decide +kernel

/-- The level codes at the ends of the window 48..96 and of the levels 16..140 that still serve, of a terminal that can be corrected (at
index 4) and of one that cannot; and the round trips 0 and 200,000. -/
theorem witness_LevelsAreCorrectedServedOrUnusable :
    (street.config.lo ≤ 96 ∧ 96 ≤ street.config.hi ∧ ¬ 97 ≤ street.config.hi)
    ∧ (ranging.levelable = some true ∧ ranging.rounds < 2 ∧ 0 < ranging.levelIndex ∧ ranging.levelIndex < 7
      ∧ 47 < street.config.lo ∧ 5 = ranging.levelIndex + min ((48 - 47 + 7) / 8) (7 - ranging.levelIndex)
      ∧ street.config.hi < 97 ∧ 3 = ranging.levelIndex - min ((97 - 96 + 7) / 8) ranging.levelIndex)
    ∧ (({ ranging with levelable := none } : Record).levelable ≠ some true ∧ street.config.floor ≤ 16
      ∧ 16 < street.config.lo ∧ 140 ≤ street.config.ceiling ∧ street.config.hi < 140
      ∧ 15 < street.config.floor ∧ 15 ≤ street.config.hi ∧ street.config.ceiling < 141 ∧ street.config.lo ≤ 141)
    ∧ (7 ≤ ({ ranging with levelIndex := 7 } : Record).levelIndex ∧ ({ ranging with levelIndex := 0 } : Record).levelIndex = 0
      ∧ 2 ≤ ({ ranging with rounds := 2 } : Record).rounds)
    ∧ (((36212 : Nat) : Int) - 35000 - 1212 = (0 : Nat) ∧ ((236212 : Nat) : Int) - 35000 - 1212 = (200000 : Nat)
      ∧ 200000 ≤ street.config.teq) := by decide +kernel

theorem witness_EchoCloseFindsNoOtherWaiting (offset level n : Nat) (h : n < 480)
    (hp : ((echoed offset level).record n).port = 1) : ((echoed offset level).record n).delaySync ≠ .waiting :=
  bench_waits _ _ (by decide) n 1 h hp

/-- The VERIFY close of 6.7 (drift 3), one in the hold band and one beyond the limit. -/
def levelling : Record := { drop with state := .levelling }
def verified (offset level : Nat) : State :=
  bench levelling (windowed .verify (some 310) (some { offset := offset, level := level }) (some .verifyOpen))

theorem witness_VerifyCloseChecksTheDrift :
    (let s := verified 236215 49;
      s.resetHeld = false ∧ (s.port 1).window = some (window .verify (some 310) (some { offset := 236215, level := 49 }))
        ∧ (s.record 310).ranging = some { roundTrip := 24600, eqd := 175400, length := 2010 } ∧ s.verifies 310 = true
        ∧ s.phaseOf 1 310 = some .verifyOpen ∧ (s.record 310).state = .levelling
        ∧ ((236215 : Nat) : Int) - (s.port 1).config.tr - (175400 : Nat) - (s.port 1).loopOffset - (24600 : Nat) = 3
        ∧ (s.port 1).config.hold < (3 : Int).natAbs ∧ (3 : Int).natAbs ≤ (s.port 1).config.limit
        ∧ ((24603 : Nat) : Int) = (24600 : Nat) + 3 ∧ 24603 ≤ (s.port 1).config.teq ∧ (s.port 1).config.lo ≤ 49
        ∧ 49 ≤ (s.port 1).config.hi ∧ insideBand (s.record 310).band ((24603 * 817 + 5000) / 10000) = true
        ∧ (s.record 310).autoAdmit = false ∧ (s.record 310).delaySync = .synced ∧ (s.record 310).port = 1
        ∧ s.setDelayQueued allPorts 310 = false ∧ 64 ≤ full64.length ∧ upset.verifies 310 = false
        ∧ (s.record 310).levelable = some true ∧ (s.record 310).rounds < 2
        ∧ (s.record 310).levelIndex < 7)
    ∧ ((200000 : Int) < 199999 + 3 ∧ (1 : Int) + (-3) < 0 ∧ street.config.hold < (-3 : Int).natAbs
      ∧ (-3 : Int).natAbs ≤ street.config.limit)
    ∧ (bench levelling (windowed .verify (some 310) none (some .verifyOpen))).phaseOf 1 310 = some .verifyOpen
    ∧ (windowed .verify none none none).window = some (window .verify none none)
    ∧ (2 : Int).natAbs ≤ street.config.hold ∧ street.config.limit < (33 : Int).natAbs
    ∧ street.config.hold < (33 : Int).natAbs
    ∧ (bench levelling (windowed .verify (some 310) none (some .awaitVerify))).phaseOf 1 310 ≠ some .verifyOpen := by
  decide +kernel

theorem witness_VerifyCloseFindsNoOtherWaiting (offset level n : Nat) (h : n < 480)
    (hp : ((verified offset level).record n).port = 1) : ((verified offset level).record n).delaySync ≠ .waiting :=
  bench_waits _ _ (by decide) n 1 h hp

/-- An UPKEEP close of the READY record 310, and its variants. -/
def kept (c : Record) (captured : Option Captured) : State := bench c (windowed .upkeep (some 310) captured none)

theorem witness_UpkeepCloseServesTheRecord :
    (let s := kept drop (some { offset := 236215, level := 56 });
      s.resetHeld = false ∧ (s.port 1).window = some (window .upkeep (some 310) (some { offset := 236215, level := 56 }))
        ∧ s.verifies 310 = true ∧ (s.record 310).ranging = some { roundTrip := 24600, eqd := 175400, length := 2010 }
        ∧ (s.record 310).port = 1 ∧ (window .upkeep (some 310) none).targetDrop = some (s.record 310).dropId
        ∧ (s.record 310).state.ranged = true ∧ (s.record 310).dropId ≠ 0
        ∧ ((236215 : Nat) : Int) - (s.port 1).config.tr - (175400 : Nat) - (s.port 1).loopOffset - (24600 : Nat) = 3
        ∧ 24603 ≤ (s.port 1).config.teq ∧ (s.record 310).delaySync = .synced ∧ (s.port 1).outbound.length < 64
        ∧ s.setDelayQueued allPorts 310 = false ∧ (s.port 1).activation.length < 8
        ∧ (s.record 310).levelable = some true ∧ (s.record 310).levelIndex < 7 ∧ 0 < (s.record 310).levelIndex)
    ∧ (street.config.lo ≤ 40 + 8 ∧ 104 ≤ street.config.hi + 8 ∧ 0 < 39 ∧ 39 + 8 < street.config.lo
      ∧ street.config.hi + 8 < 105 ∧ 39 ≤ street.config.hi + 8 ∧ street.config.lo ≤ 105 + 8)
    ∧ (7 ≤ ({ drop with levelIndex := 7 } : Record).levelIndex ∧ ({ drop with levelIndex := 0 } : Record).levelIndex = 0)
    ∧ ((2 : Int).natAbs ≤ street.config.hold ∧ street.config.hold < (32 : Int).natAbs ∧ (32 : Int).natAbs ≤ street.config.limit
      ∧ street.config.limit < (33 : Int).natAbs ∧ (200000 : Int) < 199990 + 32 ∧ (10 : Int) + (-32) < 0)
    ∧ (64 ≤ full64.length ∧ ({ drop with state := .active } : Record).state = .active)
    ∧ ((drop.misses + 1 < 3) ∧ 3 ≤ ({ drop with misses := 2 } : Record).misses + 1)
    ∧ 8 ≤ ({ windowed .upkeep (some 310) none none with activation := full8Entries } : Port).activation.length
    ∧ (let s := bench { drop with state := .named, ranging := none } (windowed .upkeep (some 310) none none);
      s.verifies 310 = true ∧ (s.record 310).ranging = none ∧ (s.record 310).state.ranged = false)
    ∧ (windowed .upkeep none none none).window = some (window .upkeep none none)
    ∧ (let s := upset.modPort 1 (fun _ => windowed .upkeep (some 310) none none);
      (s.port 1).window = some (window .upkeep (some 310) none) ∧ s.verifies 310 = false) := by decide +kernel

theorem witness_UpkeepCloseFindsNoOtherWaiting (captured : Option Captured) (n : Nat) (h : n < 480)
    (hp : ((kept drop captured).record n).port = 1) : ((kept drop captured).record n).delaySync ≠ .waiting :=
  bench_waits _ _ (by decide) n 1 h hp

/-- A REFERENCE close of the second and of the third window, without an echo and with one 9,800 steps late, which takes record 310 from
round trip 24,600 to 34,400. -/
def referred (n : Nat) (captured : Option Captured) : State := bench drop { changing n with
  window := some (window .reference (some 310) captured) }

theorem witness_ReferenceCloseEndsTheChangeover :
    (let s := referred 2 none;
      s.resetHeld = false ∧ (s.port 1).window = some (window .reference (some 310) none) ∧ s.verifies 310 = true
        ∧ (s.record 310).ranging = some { roundTrip := 24600, eqd := 175400, length := 2010 }
        ∧ (s.port 1).changeover.reference = some 310 ∧ (s.record 310).port = 1
        ∧ (window .reference (some 310) none).targetDrop = some (s.record 310).dropId
        ∧ (s.record 310).state.ranged = true ∧ (s.port 1).changeover.windows < 3)
    ∧ 3 ≤ ((referred 3 none).port 1).changeover.windows
    ∧ (let q := { changing 2 with window := some (window .reference none none) };
      q.window = some (window .reference none none) ∧ q.changeover.reference ≠ none)
    ∧ (upset.verifies 310 = false ∧ (changing 2).changeover.reference = some 310)
    ∧ (let s := bench { drop with dropId := 18 } (changing 2);
      s.verifies 310 = true ∧ (s.port 1).changeover.reference ≠ none
        ∧ (window .reference (some 310) none).targetDrop ≠ some (s.record 310).dropId)
    ∧ ((246012 : Nat) : Int) - 35000 - 175400 - 1212 - 24600 = 9800 ∧ ((34400 : Nat) : Int) = (24600 : Nat) + 9800
    ∧ (200000 : Int) < (195000 : Nat) + 9800 := by decide +kernel

theorem witness_ReferenceCloseMeetsVerifyingRecords (n : Nat) (captured : Option Captured) : (referred n captured).allVerify :=
  fun m _ => bench_verifies _ _ m

/-- R112's boundary values: offsets 8 apart with mean 4,095, and 9 apart. -/
theorem witness_LoopCloseCalibrates :
    (let q := { windowed .loop none (some { offset := 4091, level := 9 }) none with
        state := .calibrating, calibration := [4099, 4096, 4097] };
      ((bench drop q).port 1).window = some (window .loop none (some { offset := 4091, level := 9 }))
        ∧ q.calibration = [4099, 4096, 4097]
        ∧ max (max 4099 4096) (max 4097 4091) - min (min 4099 4096) (min 4097 4091) ≤ 8
        ∧ (4099 + 4096 + 4097 + 4091) / 4 ≤ 4095)
    ∧ 8 < max (max 4100 4096) (max 4097 4091) - min (min 4100 4096) (min 4097 4091)
    ∧ 4095 < (4096 + 4096 + 4096 + 4096) / 4 ∧ ([] : List Nat).length < 3 := by decide +kernel

theorem witness_PeriodsFallDue :
    ((ready.port 1).state = .run ∧ (310 : Nat) < 480 ∧ (ready.record 310).port = 1
      ∧ (ready.record 310).state.ranged = true ∧ ready.verifies ready.scrubCursor = true)
    ∧ ({ street.config with mode := .always } : PortConfig).mode = .always
    ∧ (street.config.mode = .planned ∧ ((bench { drop with state := .expected } street).record 310).state = .expected)
    ∧ (let s : State := { upset with scrubCursor := 310 };
      s.verifies s.scrubCursor = false) := by decide +kernel

/-- A street without a ranged or an EXPECTED record. -/
theorem witness_PeriodsFallDueWithoutRecords (n : Nat) :
    ¬ (((bench { drop with state := .barred } street).record n).port = 1
        ∧ ((bench { drop with state := .barred } street).record n).state.ranged = true)
    ∧ ((bench { drop with state := .barred } street).record n).state ≠ .expected :=
  bench_stored (P := fun _ x => ¬ (x.content.port = 1 ∧ x.content.state.ranged = true) ∧ x.content.state ≠ .expected)
    (by decide) (fun _ _ => by decide) n

/-- A HELLO and an ECHO at the last offset of a window, and one step beyond. -/
def heardReport (kind : Byte) (offset : BitVec 24) : ReportFields where
  tag := 3#8
  kind := kind
  offset := offset
  level := 60#8
  serial := 0x60#64
  levelable := 1#8
  dropId := 17#8

theorem witness_ReportsGoToTheirWindow :
    ((ready.port 1).window = none ∧ 312499 < (heardReport 1#8 312500#24).offset.toNat)
    ∧ ((window .invite none none).tag = (heardReport 1#8 312499#24).tag.toNat
      ∧ (heardReport 1#8 312499#24).offset.toNat ≤ 312499 ∧ (heardReport 1#8 0).serial ≠ 0
      ∧ (windowed .invite none none none).arrivals.length < 16)
    ∧ 16 ≤ (List.replicate 16 (queuedReport (heardReport 3#8 0) .garbled)).length
    ∧ ((window .upkeep (some 310) none).targetDrop = some (heardReport 2#8 0).dropId.toNat
      ∧ (window .upkeep (some 310) none).captured = none ∧ (window .loop none none).captured = none)
    ∧ (window .upkeep (some 310) (some { offset := 1, level := 1 })).captured ≠ none := by decide +kernel

def helloOf (x : Serial) : QueuedReport := { tag := 3, offset := 100, level := 60, hello := some (x, true) }
def hearing (x : Serial) : Port := { street with processing := some (helloOf x) }

theorem witness_HellosTakeTheirRegistryStep :
    (let q := { street with arrivals := [helloOf 0x60] };
      q.state = .run ∧ q.processing = none ∧ q.arrivals = helloOf 0x60 :: [])
    ∧ (street.processing = none ∧ street.arrivals = [])
    ∧ ((hearing 0x60).processing = some (helloOf 0x60) ∧ (helloOf 0x60).hello = some (0x60#64, true)
      ∧ (hearing 0x60).heardTag ≠ some (helloOf 0x60).tag)
    ∧ (let q := { hearing 0x60 with heardTag := some 3, heard := [0x60#64] };
      q.heardTag = some (helloOf 0x60).tag ∧ 0x60#64 ∈ q.heard)
    ∧ ({ (helloOf 0) with hello := none } : QueuedReport).hello = none
    ∧ (let s := bench drop (hearing 0x60);
      mapGet s.serialIndex (0x60#64).toNat = some 310 ∧ s.verifies 310 = true ∧ (s.record 310).port = 1
        ∧ (s.record 310).state.ranged = true ∧ (s.port 1).activation.length < 8 ∧ (310 : Nat) < 480)
    ∧ (let s := bench { drop with state := .active } { hearing 0x60 with outbound := full64 };
      (s.record 310).state = .active ∧ (s.record 310).state.ranged = true ∧ (s.port 1).outbound.length = 64)
    ∧ (mapGet (bench drop (hearing 0x77)).serialIndex (0x77#64).toNat = none
      ∧ (bench drop (hearing 0x77)).stranger 0x77#64 = none
      ∧ ({ bench drop (hearing 0x77) with strangers := [stranger60] } : State).stranger 0x77#64 = some stranger60)
    ∧ upset.verifies 310 = false
    ∧ ((bench { drop with state := .named, attempts := 1 } (hearing 0x60)).record 310).attempts + 1 < 3
    ∧ (3 ≤ ((bench { drop with state := .named, attempts := 2 } (hearing 0x60)).record 310).attempts + 1
      ∧ ((bench { drop with state := .named, attempts := 2 } (hearing 0x60)).record 310).state.activating = true)
    ∧ 8 ≤ ((bench drop { hearing 0x60 with activation := full8Entries }).port 1).activation.length
    ∧ (let s := bench { drop with state := .expected, port := 2 } (hearing 0x60);
      (s.record 310).port ≠ 1 ∧ s.phase = .build ∧ (s.record 310).state = .expected ∧ (s.record 310).pinned = false)
    ∧ ((bench { drop with port := 2 } (hearing 0x60)).record 310).state ≠ .expected
    ∧ ((bench { drop with state := .expected } (hearing 0x60)).record 310).state = .expected
    ∧ ((bench { drop with state := .barred } (hearing 0x60)).record 310).state = .barred := by decide +kernel

theorem witness_MessagesAreTaken :
    ((ready.port 1).outbound = [] ∧ ready.resetHeld = false)
    ∧ (((bench drop { street with outbound := [.release 1 5] }).port 1).outbound = .release 1 5 :: [])
    ∧ (let s := bench drop { street with outbound := [.setDelay 310, .level 310] };
      (s.port 1).outbound = .setDelay 310 :: [.level 310] ∧ (Descriptor.setDelay 310).names = some 310
        ∧ s.verifies 310 = true ∧ (s.record 310).port = 1)
    ∧ upset.verifies 310 = false
    ∧ ((bench { drop with delaySync := .waiting } street).record 310).delaySync = .waiting := by decide +kernel

theorem witness_LookupsOpenTheActiveDrop :
    ((State.reset.port 1).state = .down ∧ 126 < (127#8).toNat ∧ mapGet (ready.port 1).dropMap (126#8).toNat = none)
    ∧ (let s := bench { drop with state := .active } street;
      (s.port 1).state ≠ .down ∧ 1 ≤ (17#8).toNat ∧ (17#8).toNat ≤ 126 ∧ mapGet (s.port 1).dropMap (17#8).toNat = some 310
        ∧ s.verifies 310 = true ∧ (s.record 310).state = .active)
    ∧ (ready.record 310).state ≠ .active ∧ upset.verifies 310 = false := by decide +kernel

theorem witness_StepsKeepAttentionIntegrityAndPhase : step State.reset = .next State.reset ∧ State.reset.attentionTrue
    ∧ ({ State.reset with phase := .service } : State).pending.head? ≠ some .hardResetAssert := by
  refine ⟨rfl, by decide +kernel, by decide⟩

theorem witness_StepsKeepBoundsWindowsAndMaps : step { State.reset with pending := [.commandTake] } =
    .next (State.arbitrate { State.reset with pending := [] }).settle := rfl

theorem witness_RecordsVerifyUntilAnUpset : ready.allVerify ∧ step ready = .next ready
    ∧ ∀ r image check rest, ready.pending ≠ .storageUpset r image check :: rest :=
  ⟨fun n _ => bench_verifies _ _ n, rfl, fun _ _ _ _ h => by
    have : ready.pending = [] := rfl
    rw [this] at h
    exact absurd h (by simp)⟩

theorem witness_StepsKeepTheTie : late.allVerify ∧ step late = .next late ∧ late.pending = [] ∧ late.mapsRise ∧ late.tied :=
  ⟨fun n _ => bench_verifies _ _ n, rfl, rfl, by decide +kernel, late_tied⟩

theorem witness_StepsQueueOneSetDelay : late.oneSetDelay ∧ step late = .next late := ⟨late_tied.2.2.2.1.2, rfl⟩

theorem street_bounds : ready.bounded ∧ ready.mapsRise := by decide +kernel

theorem ready_ports (p : Nat) (h : p < 4) : ready.port p = if p = 1 then street else Port.reset := by
  have : ∀ p, p < 4 → ready.port p = if p = 1 then street else Port.reset := by decide +kernel
  exact this p h

theorem witness_StepsKeepLawfulPorts : ready.lawful := by
  intro p hp
  rw [ready_ports p hp]
  split
  · exact ⟨fun w hw => (nomatch hw), by decide, by decide⟩
  · exact ⟨fun w hw => (nomatch hw), by decide, by decide⟩

/-! ### One step each: the manual's worked sequences -/

/-- R111: the code 0 is WEAK also where the window begins at 0 (log entry 34). -/
theorem test_code_zero_is_weak : serviceCondition { PortConfig.default with floor := 0, lo := 0 } 0 = .weak
    ∧ serviceCondition { PortConfig.default with floor := 0, lo := 0 } 1 = .normal := by decide

/-- What a field reads after one command. -/
def after {α : Type} (i : Instr) (s : State) (f : State → α) : Option α := (nextOf (exec i s)).map f

/-- 6.7: the ECHO close at 60,812 with code 40. -/
theorem test_echo_close : after (.echoClose 1) (echoed 60812 40)
    (fun t => ((t.record 310).state, (t.record 310).ranging.map Ranging.eqd, (t.record 310).levelIndex, (t.port 1).outbound)) =
    some (.levelling, some 175400, 5, [.setDelay 310, .level 310]) := by decide +kernel

/-- 6.7: an echo beyond reach fails the activation at once and its drop id is released. -/
theorem test_echo_beyond : after (.echoClose 1) (echoed 240000 40)
    (fun t => ((t.record 310).state, (t.record 310).cause, (t.port 1).outbound)) =
    some (.expected, .failedReach, [.release 1 17]) := by decide +kernel

/-- 6.7: the VERIFY close at 236,215 with code 49. -/
theorem test_verify_close : after (.verifyClose 1) (verified 236215 49)
    (fun t => ((t.record 310).state, (t.record 310).ranging, (t.record 310).levelCondition, (t.port 1).activation)) =
    some (.ready, some { roundTrip := 24603, eqd := 175397, length := 2010 }, .normal, []) := by decide +kernel

/-- Record 300 of 8.10. -/
def drifting : Record := { drop with
  state := .active, levelIndex := 5, ranging := some { roundTrip := 24603, eqd := 175397, length := 2010 } }

/-- 8.10, first close. -/
theorem test_upkeep_correct : after (.upkeepClose 1) (kept drifting (some { offset := 236230, level := 38 }))
    (fun t => ((t.record 310).ranging, (t.record 310).levelIndex, (t.record 310).levelCondition, (t.record 310).outstanding,
      (t.port 1).outbound)) =
    some (some { roundTrip := 24621, eqd := 175379, length := 2012 }, 6, .weak, 2, [.setDelay 310, .level 310]) := by
  decide +kernel

/-- 8.10, second close. -/
theorem test_upkeep_excess : after (.upkeepClose 1)
    (kept { drifting with ranging := some { roundTrip := 24621, eqd := 175379, length := 2012 } }
      (some { offset := 236260, level := 52 }))
    (fun t => ((t.record 310).state, (t.record 310).cause, (t.record 310).dropId, (t.port 1).outbound, t.changed)) =
    some (.named, .reranged, 17, [.shut 310, .name 310], [310]) := by decide +kernel

/-- 8.10, a drop at the far end. -/
theorem test_upkeep_out_of_reach : after (.upkeepClose 1)
    (kept { drop with ranging := some { roundTrip := 199990, eqd := 10, length := 16339 } }
      (some { offset := 236227, level := 52 }))
    (fun t => ((t.record 310).state, (t.record 310).cause, (t.port 1).dropMap)) =
    some (.expected, .lostReach, []) := by decide +kernel

/-- 9.8: CHANGEOVER is accepted and the feed switches to B. -/
theorem test_changeover : after (.changeover .host 5#8 1#8 310#16) (bench drop (awaiting .awaitVerify))
    (fun t => ((t.port 1).state, (t.port 1).feed, (t.port 1).changeover.previousFeed, (t.port 1).activation)) =
    some (.changeover, .b, some .a, [{ record := 310, phase := .awaitEcho }]) := by decide +kernel

/-- 9.8: the close with an echo at 246,012 on a reference that holds 24,603. -/
theorem test_reference_close : after (.referenceClose 1) (bench drifting { changing 2 with
      window := some (window .reference (some 310) (some { offset := 246012, level := 58 })) })
    (fun t => ((t.record 310).ranging, (t.record 310).cause, (t.port 1).state, (t.port 1).outbound)) =
    some (some { roundTrip := 34403, eqd := 165597, length := 2811 }, .coAdjusted, .run, [.setDelay 310]) := by
  decide +kernel

/-- 1.8: a serial that no record holds joins the stranger list and raises NEW_STRANGER. -/
theorem test_stranger : after (.reportRegistryStep 1) (bench drop (hearing 0x77))
    (fun t => (t.strangers.map Stranger.sightings, t.newStranger, t.attention)) = some ([1], true, true) := by decide +kernel

/-- 1.8: the HELLO of an EXPECTED record names it with the lowest free drop id. -/
theorem test_hello_names : after (.reportRegistryStep 1)
    (bench { drop with state := .expected, dropId := 0, ranging := none } { hearing 0x60 with dropMap := [(1, 9), (2, 8)] })
    (fun t => ((t.record 310).state, (t.record 310).dropId, (t.port 1).outbound)) =
    some (.named, 3, [.name 310]) := by decide +kernel

/-- R172: a craft ADOPT of a pinned record is refused before R17 looks for the stranger. -/
theorem test_craft_adopt_pinned : after (.adopt .craft 5#8 310#16 0x77#64)
    (bench { drop with state := .expected, pinned := true } street)
    (fun t => t.craft.replies.map (fun f => f.status)) = some [.pinned] := by decide +kernel

/-- R183: a refusal PINNED (06h) of an EXPECTED record with cause ACTIVATED, in bytes. -/
theorem test_reply_bytes : ({ tag := 5#8, status := .pinned, payload := [1#8, 1#8, 3#8] } : ReplyFrame).bytes =
    [0xA7#8, 0#8, 6#8, 5#8, 6#8, 1#8, 1#8, 3#8, 0x43#8] := by decide +kernel

/-- R186: the grant of an INVITE with tag 3 and spread exponent 2, and the lane without a window. -/
theorem test_grant_shown : (ready.modPort 1 (fun q => { q with window := some { window .invite none none with spread := 2 } })).grantShown 1 =
    [1#8, 3#8, 127#8, 2#8] ∧ ready.grantShown 1 = [0#8, 0#8, 0#8, 0#8] := by decide +kernel

/-- 1.8: ADOPT on a port in RUN names the record at once. -/
theorem test_adopt : after (.adopt .craft 5#8 310#16 0x77#64)
    { bench { drop with state := .expected, dropId := 0, serial := none, ranging := none } { street with dropMap := [] } with
      serialIndex := [], strangers := [stranger60] }
    (fun t => ((t.record 310).state, (t.record 310).cause, t.serialIndex, t.strangers)) =
    some (.named, .named, [(0x77, 310)], []) := by decide +kernel

/-- 1.8: a plot that another record holds gives DUPLICATE and changes nothing. -/
theorem test_plan_duplicate : after (.plan .host 5#8 { planArgs with plot := 12#16 }) ready
    (fun t => (t.host.replies.map ReplyFrame.status, (t.record 311).state)) = some ([.duplicate], .vacant) := by decide +kernel

/-- 1.8: a QUERY record whose new band holds its length becomes ACTIVE with an OPEN. -/
theorem test_amend_band : after (.amend .host 5#8 { amendBand with
      plan := { amendBand.plan with presence := 4#8, dmin := 900#16, dmax := 2010#16 } })
    (bench { drop with state := .query, autoAdmit := true, band := some { dmin := 900, dmax := 1400 } } street)
    (fun t => ((t.record 310).state, (t.record 310).cause, (t.port 1).outbound)) =
    some (.active, .activated, [.openDrop 310]) := by decide +kernel

/-- 1.9: the items of the silence map. -/
theorem test_silence_runs : runsOf ([3, 4, 5, 7, 9, 10, 100, 101, 200, 202] : List Nat) =
    [(3, 5), (7, 7), (9, 10), (100, 101), (200, 200), (202, 202)] := by decide

/-- R78: a SET DELAY carries the EqD that the record holds at its take, and leaves it SYNCED. -/
theorem test_take_set_delay : after (.messageTake 1)
    (bench { drop with delaySync := .queued, outstanding := 1 } { street with outbound := [.setDelay 310] })
    (fun t => ((t.port 1).takeAnswer.delay, (t.record 310).delaySync, (t.record 310).outstanding)) =
    some (175400, .synced, 0) := by decide +kernel

/-- R79: the place that a take frees in a full queue goes to the WAITING record. -/
theorem test_take_serves_the_waiting : after (.messageTake 1) (bench waiting { street with outbound := full64 })
    (fun t => ((t.port 1).outbound.length, (t.port 1).outbound.getLast?, (t.record 310).delaySync, (t.record 310).outstanding)) =
    some (64, some (.setDelay 310), .queued, 1) := by decide +kernel

/-- R76: a record that a SET DELAY names gets no second one, also where an upset has left it WAITING. -/
theorem test_no_second_set_delay : after (.setDelayQueue 1) (bench waiting { street with outbound := [.setDelay 310] })
    (fun t => (t.port 1).outbound) = some [.setDelay 310] := by decide +kernel

/-- R31 and R186: an ACTIVE record of class 5 answers OPEN with 85h. -/
theorem test_lookup_open : after (.admissionLookup 1 17#8) (bench { drop with state := .active, serviceClass := 5 } street)
    (fun t => (t.port 1).lookupAnswer) = some 0x85#8 := by decide +kernel

/-- R163, R166: an access to an upset record leaves it DAMAGED, counted and latched, and answers DAMAGED. -/
theorem test_read_damaged : after (.readRecord .host 5#8 310#16) upset
    (fun t => ((t.record 310).state, t.integrityCount, t.firstDamaged, t.host.replies.map ReplyFrame.status)) =
    some (.damaged, 1, some 310, [.damaged]) := by decide +kernel

/-- R176: a frame whose bytes do not sum to 0 is MALFORMED. -/
theorem test_host_bad_sum : after (.hostSelectEnd [0xA7#8, 3#8, 9#8, 0x39#8, 0#8]) State.reset
    (fun t => (t.host.queue.length, t.host.replies)) =
    some (0, [{ tag := 9#8, status := .malformed, payload := [] }]) := by decide +kernel

/-- R176: a code that is not listed is UNKNOWN_COMMAND. -/
theorem test_host_unknown_code : after (.hostSelectEnd (withCheck [0xA7#8, 3#8, 9#8, 0x10#8])) State.reset
    (fun t => t.host.replies.map ReplyFrame.status) = some [.unknownCommand] := by decide +kernel

/-- R183, R184: DEVICE STATUS written out byte by byte is queued, taken from the host link and answered. -/
theorem test_host_device_status : after (.hostSelectEnd [0xA7#8, 3#8, 9#8, 0x39#8, 0x14#8]) State.reset
    (fun t => t.host.queue) = some [{ tag := 9#8, command := .deviceStatus }] := by decide +kernel
theorem test_command_take : after .commandTake
    { State.reset with host := { State.reset.host with queue := [{ tag := 9#8, command := .phaseService }] } }
    (fun t => (t.phase, t.lastServed, t.host.replies)) =
    some (.service, .host, [{ tag := 9#8, status := .ok, payload := [0#8, 1#8] }]) := by decide +kernel

/-- R174: one reply is shifted out in a select period, and the idle byte follows it until the next. -/
theorem test_one_reply_a_period : after .hostReplyShiftedOut
    { State.reset with hostRead := true, host := { State.reset.host with replies := [frame] } }
    (fun t => (t.host.replies.length, t.hostShiftsOut)) = some (1, [0xFF#8]) := by decide +kernel

/-- R177: a row that finds its reply path full waits in its link's command queue. -/
theorem test_row_waits_for_its_reply : after (.pin .host 5#8 310#16)
    { ready with host := { ready.host with replies := full8 } }
    (fun t => (t.host.queue, t.host.replies.length, (t.record 310).pinned)) = some ([queued], 8, false) := by decide +kernel

/-- R163: PORT DISABLE verifies a record that only its queue names, and handles its damage. -/
theorem test_port_disable_verifies : after (.portDisable .host 5#8 1#8)
    (({ upset with changed := [] } : State).modPort 1 (fun q =>
      { q with state := .standby, dropMap := [], outbound := [.level 310] }))
    (fun t => ((t.record 310).state, (t.record 310).outstanding, t.integrityCount, (t.port 1).outbound)) =
    some (.damaged, 0, 1, []) := by decide +kernel

/-- R172: the host alone may send PHASE SERVICE. -/
theorem test_craft_not_permitted : after (.phaseService .craft 9#8) State.reset
    (fun t => (t.phase, t.craft.replies.map ReplyFrame.status)) = some (.build, [.notPermitted]) := by decide +kernel

/-- R43: START of an uncalibrated port. -/
theorem test_start_uncalibrated : after (.start .host 9#8 3#8) (State.reset.modPort 3 (fun q => { q with state := .standby }))
    (fun t => ((t.port 3).state, t.host.replies.map ReplyFrame.status)) = some (.standby, [.notCalibrated]) := by
  decide +kernel

/-- R63, R64: the first window after a reset carries tag 1, and opens when the gap counter has reached the traffic gap of 2. -/
theorem test_first_window : after (.frameStart 1 7#16)
    (State.reset.modPort 1 (fun q => { q with state := .calibrating, gapCounter := 1 }))
    (fun t => ((t.port 1).window.map OpenWindow.kind, (t.port 1).window.map OpenWindow.tag, (t.port 1).frame)) =
    some (some .loop, some 1, 7) := by decide +kernel

end Sys2Proof.Tests
end

section
/-! The state after a hard reset: what it holds (R25), and that it meets the invariants of the machine. -/

namespace Sys2Proof.Machine

@[simp] theorem State.reset_stored (n : Nat) : State.reset.stored n = StoredRecord.vacant := by
  by_cases h : n < 480
  · simp [State.stored, State.reset, h]
  · exact State.reset.stored_of_le (Nat.le_of_not_lt h)

@[simp] theorem State.reset_record (n : Nat) : State.reset.record n = Record.vacant := by
  simp [State.record, StoredRecord.vacant]

@[simp] theorem State.reset_port (p : Nat) : State.reset.port p = Port.reset := by
  by_cases h : p < 4 <;> simp [State.port, State.reset, h]

@[simp] theorem State.reset_serialIndex : State.reset.serialIndex = [] := rfl
@[simp] theorem State.reset_plotIndex : State.reset.plotIndex = [] := rfl

@[simp] theorem StoredRecord.vacant_verifies : StoredRecord.vacant.verifies = true := by
  simp [StoredRecord.verifies, StoredRecord.vacant]

@[simp] theorem State.reset_verifies (n : Nat) : State.reset.verifies n = true := by
  simp [State.verifies]

/-- Settles O2: every record of the reset state is the VACANT one of R25. -/
theorem hardResetEmptiesTheRegistry : Obligations.HardResetEmptiesTheRegistry := by
  refine ⟨fun n _ => ?_, rfl, rfl, rfl, rfl, rfl, fun p _ => by rw [State.reset_port]; rfl⟩
  rw [State.reset_record, State.reset_stored]
  simp [Record.vacant, StoredRecord.vacant, Record.checkWord]

theorem State.reset_attentionTrue : State.reset.attentionTrue := by
  have hc : ∀ p, (State.reset.port p).conditions = Conditions.clear := fun p => by rw [State.reset_port]; rfl
  simp only [State.attentionTrue, hc]
  simp [State.reset, LinkState.reset]

theorem State.reset_bounded : State.reset.bounded := by
  refine ⟨fun p _ => ?_, by decide, by decide, by decide, by decide, by decide, by decide, by decide, by decide⟩
  rw [State.reset_port]
  decide

theorem State.reset_lawful : State.reset.lawful := by
  intro p _
  rw [State.reset_port]
  refine ⟨fun w hw => ?_, by decide, rfl⟩
  cases hw

theorem State.reset_mapsRise : State.reset.mapsRise := by
  refine ⟨.nil, .nil, .nil, fun p _ => ?_⟩
  rw [State.reset_port]
  exact .nil

theorem State.reset_oneSetDelay : State.reset.oneSetDelay := by
  intro n
  simp [Port.reset]

theorem Record.vacant_tidy : Record.vacant.tidy := by
  simp [Record.tidy, Record.vacant, RecState.activating, RecState.ranged]

/-- No map, index, queue or entry refers to a record, and no record has anything that would be referred to. -/
theorem State.reset_tied : State.reset.tied := by
  refine ⟨fun n _ => ?_, fun p d n _ => ?_, ⟨fun k n => ?_, fun k n => ?_, fun e he => ?_⟩,
    ⟨fun n _ => ?_, State.reset_oneSetDelay⟩, fun n g _ hg => ?_, fun p _ => ?_, fun n _ ha => ?_⟩
  · rw [State.reset_record]; exact Record.vacant_tidy
  · simp only [State.reset_port, State.reset_record, Port.reset, Record.vacant, mapGet]
    simp only [reduceCtorEq, false_iff, not_and]
    rintro _ _ rfl; simp
  · simp [Record.vacant, mapGet]
  · simp [Record.vacant, mapGet]
  · cases he
  · simp [State.queuedNaming, State.setDelayQueued, Port.reset, Record.vacant, countNaming, allPorts]
  · simp [Record.vacant] at hg
  · simp [Port.reset]
  · simp [Record.vacant, RecState.activating] at ha

/-- Settles O4, invariant by invariant. -/
theorem resetMeetsTheInvariants : Obligations.ResetMeetsTheInvariants :=
  ⟨State.reset_attentionTrue, by decide, State.reset_bounded, fun n _ => State.reset_verifies n,
    State.reset_lawful, State.reset_mapsRise, State.reset_oneSetDelay, State.reset_tied⟩

end Sys2Proof.Machine
end

section
/-! What the operations over several ports and damage handling do to the ports and the records. -/

namespace Sys2Proof.Machine

variable (s : State)

/-! ### Changes of the ports -/

theorem mem_allPorts {p : Nat} : p ∈ allPorts ↔ p < 4 := by
  simp only [allPorts, List.mem_cons, List.not_mem_nil, or_false]
  omega

theorem State.modPort_congr {p : Nat} {f g : Port → Port} (h : f (s.port p) = g (s.port p)) :
    s.modPort p f = s.modPort p g := by
  simp [State.modPort, h]

/-- A change of every port acts on each port alone. -/
theorem State.modAllPorts_port {p : Nat} (h : p < 4) (f : Nat → Port → Port) :
    (eachNumber (fun s p => s.modPort p (f p)) allPorts s).port p = f p (s.port p) := by
  simp only [allPorts, eachNumber_cons, eachNumber_nil]
  interval_cases p <;> simp [State.modPort_port_ne]

/-- What every step of a fold leaves alone, the fold leaves alone. -/
theorem eachNumber_field {α : Type} (g : State → α) {f : State → Nat → State} {ns : List Nat}
    (step : ∀ s n, n ∈ ns → g (f s n) = g s) (s : State) : g (eachNumber f ns s) = g s :=
  eachNumber_keeps (P := fun t => g t = g s) (fun t n hn ht => (step t n hn).trans ht) rfl

theorem State.clearTargets_port {p : Nat} (h : p < 4) (r : Nat) :
    (s.clearTargets r).port p = { s.port p with
      window := (s.port p).window.map (fun w => if w.target = some r then { w with target := none } else w) } :=
  s.modAllPorts_port h _

@[simp] theorem State.clearTargets_records (r : Nat) : (s.clearTargets r).records = s.records :=
  eachNumber_field State.records (f := fun s p => s.clearTarget r p) (fun _ _ _ => rfl) s

theorem State.removeEntries_port {p : Nat} (h : p < 4) (r : Nat) :
    (eachNumber (fun s p => s.removeEntry p r) allPorts s).port p =
      { s.port p with activation := (s.port p).activation.filter (fun e => e.record ≠ r) } :=
  s.modAllPorts_port h _

/-- The content of a record, its check word and its verification are read from the records alone. -/
theorem State.stored_congr {s t : State} (h : t.records = s.records) (n : Nat) : t.stored n = s.stored n := by
  simp [State.stored, h]

/-! ### The outbound queue -/

theorem State.enqueue_release_records (p x d : Nat) : (s.enqueue p (.release x d)).records = s.records := by
  rcases s.enqueue_cases p (.release x d) with ⟨_, h⟩ | ⟨_, h⟩ <;> rw [h]
  · rfl
  · rfl

@[simp] theorem State.releaseEntry_records (p d : Nat) : (s.releaseEntry p d).records = s.records :=
  s.enqueue_release_records p p d

/-! ### A changeover's failure (R159) -/

/-- A port whose changeover has failed: back to its previous feed and to RUN, an open REFERENCE window abandoned (R66, R159). -/
def Port.changeoverFailed (q : Port) : Port :=
  { q with
    window := if q.window.any (fun w => w.kind == .reference) then none else q.window
    gapCounter := if q.window.any (fun w => w.kind == .reference) then 0 else q.gapCounter
    feed := q.changeover.previousFeed.getD q.feed
    changeover := q.changeover.ended
    state := .run
    conditions := { q.conditions with changeoverFailed := true } }

/-- The abandonment of a REFERENCE window touches its own port alone (R66). -/
theorem State.abandonReference_eq (p : Nat) :
    s.abandonReference p = s.modPort p (fun q => { q with
      window := if q.window.any (fun w => w.kind == .reference) then none else q.window
      gapCounter := if q.window.any (fun w => w.kind == .reference) then 0 else q.gapCounter }) := by
  unfold State.abandonReference
  split
  · next w hw =>
    split
    · next hk =>
      have ho : (s.dropWindow p).abandonOwner p w = s.dropWindow p := by
        unfold State.abandonOwner
        simp [hk]
      rw [s.abandon_some hw, ho]
      exact s.modPort_congr (by simp [hw, hk])
    · next hk => exact (s.modPort_id _ (by simp [hw, hk]; rw [← hw])).symm
  · next hw => exact (s.modPort_id _ (by simp [hw]; rw [← hw])).symm

theorem State.failIfReference_eq (r p : Nat) :
    s.failIfReference r p =
      s.modPort p (fun q => if q.changeover.reference = some r then q.changeoverFailed else q) := by
  unfold State.failIfReference
  split
  · next h =>
    rw [State.failChangeover, h]
    simp only
    rw [s.abandonReference_eq, s.modPort_modPort]
    exact s.modPort_congr (by simp only [h, if_true, Port.changeoverFailed])
  · next h => exact (s.modPort_id _ (by simp [h])).symm

theorem State.failIfReferences_port {p : Nat} (h : p < 4) (r : Nat) :
    (eachNumber (fun s p => s.failIfReference r p) allPorts s).port p =
      if (s.port p).changeover.reference = some r then (s.port p).changeoverFailed else s.port p := by
  simp only [State.failIfReference_eq]
  exact s.modAllPorts_port h (fun _ q => if q.changeover.reference = some r then q.changeoverFailed else q)

@[simp] theorem State.failIfReferences_records (r : Nat) :
    (eachNumber (fun s p => s.failIfReference r p) allPorts s).records = s.records :=
  eachNumber_field State.records (fun t p _ => by rw [t.failIfReference_eq]; rfl) s

/-! ### Damage handling (R165, R166) -/

@[simp] theorem State.countDamage_records (r : Nat) : (s.countDamage r).records = s.records := by
  unfold State.countDamage
  split
  · rfl
  · split <;> rfl

@[simp] theorem State.countDamage_port (r p : Nat) : (s.countDamage r).port p = s.port p := by
  unfold State.countDamage
  split
  · rfl
  · split <;> rfl

@[simp] theorem State.unindex_records (r : Nat) : (s.unindex r).records = s.records := rfl

/-- Taking a record out of the trusted structures changes no record (R165, steps 1 to 4). -/
@[simp] theorem State.detach_records (r : Nat) : (s.detach r).records = s.records := by
  have h1 : (eachNumber (fun s p => s.releaseRecord r p) allPorts s).records = s.records :=
    eachNumber_field State.records (fun t p _ =>
      eachNumber_field State.records (fun u d _ => u.releaseEntry_records p d) t) s
  have h2 : ∀ t : State, (eachNumber (fun s p => s.removeEntry p r) allPorts t).records = t.records :=
    eachNumber_field State.records (f := fun s p => s.removeEntry p r) (fun _ _ _ => rfl)
  simp only [State.detach, State.clearTargets_records, h2, State.unindex_records, h1]

/-- What damage handling makes of record `n`: the content as read, with its counts taken from the queues (R166). -/
def State.damagedAs (s : State) (n : Nat) : Record :=
  (s.record n).damagedContent ((s.detach n).queuedNaming allPorts n) ((s.detach n).setDelayQueued allPorts n)

/-- Damage handling stores the damaged content with a check word of its own, and no other record (R166). -/
theorem State.damage_records (n : Nat) : (s.damage n).records = (s.freshRecord n (s.damagedAs n)).records := by
  have hr : (s.detach n).record n = s.record n := by
    rw [State.record, State.stored_congr (s.detach_records n), State.record]
  simp only [State.damage, State.failIfReferences_records, State.countDamage_records, State.noteChanged_records]
  simp only [State.freshRecord, State.store, State.detach_records, hr, State.damagedAs]

theorem State.damage_stored_ne {n m : Nat} (h : m ≠ n) : (s.damage n).stored m = s.stored m := by
  rw [State.stored_congr (s.damage_records n), State.freshRecord_stored_ne _ h]

theorem State.damage_record_self {n : Nat} (h : n < 480) : (s.damage n).record n = s.damagedAs n := by
  rw [State.record, State.stored_congr (s.damage_records n)]
  exact s.freshRecord_record_self h _

theorem State.damage_verifies_ne {n m : Nat} (h : m ≠ n) : (s.damage n).verifies m = s.verifies m := by
  rw [State.verifies, s.damage_stored_ne h, State.verifies]

theorem State.damage_verifies_self {n : Nat} (h : n < 480) : (s.damage n).verifies n = true := by
  rw [State.verifies, State.stored_congr (s.damage_records n)]
  exact s.freshRecord_verifies_self h _

/-- A damaged record is DAMAGED with cause DAMAGED, and holds neither a plot nor a serial (R166). -/
theorem State.damage_record {n : Nat} (h : n < 480) :
    ((s.damage n).record n).state = .damaged ∧ ((s.damage n).record n).cause = .damaged
      ∧ ((s.damage n).record n).plot = none ∧ ((s.damage n).record n).serial = none := by
  rw [s.damage_record_self h]
  exact ⟨rfl, rfl, rfl, rfl⟩

theorem Port.changeoverFailed_activation (q : Port) : q.changeoverFailed.activation = q.activation := rfl

/-- A damaged record has no activation entry left (R165, step 3). -/
theorem State.damage_phaseOf {p : Nat} (h : p < 4) (n : Nat) : (s.damage n).phaseOf p n = none := by
  have ha : ((s.damage n).port p).activation = ((s.detach n).port p).activation := by
    rw [State.damage, State.failIfReferences_port _ h]
    split
    · simp [Port.changeoverFailed_activation]
    · simp
  rw [State.phaseOf, ha, State.detach, State.clearTargets_port _ h, State.removeEntries_port _ h]
  simp

theorem State.damage_phaseAnywhere (n : Nat) : (s.damage n).phaseAnywhere n = none := by
  rw [State.phaseAnywhere, List.findSome?_eq_none_iff]
  exact fun p hp => s.damage_phaseOf (mem_allPorts.mp hp) n

/-- Only one of the 480 records can fail verification (R1). -/
theorem State.lt_of_verifies_false {n : Nat} (h : s.verifies n = false) : n < 480 := by
  by_contra hn
  rw [State.verifies, s.stored_of_le (Nat.le_of_not_lt hn), StoredRecord.vacant_verifies] at h
  cases h

end Sys2Proof.Machine
end

section
/-! Link commands and record commands: the row of a command carries the command out (R177), and a record command makes the checks of R10
in their order. -/

namespace Sys2Proof.Machine

variable (s : State)

/-! ### Rows -/

/-- The row of a link command carries out what COMMAND_TAKE would (R177; log entry 1). -/
theorem exec_commandRow (l : Link) (tag : Byte) (c : Command) :
    exec (commandRow l tag c) s = linkCommand l tag c (runCommand l c) s := by
  cases c <;> rfl

/-- A command that is carried out leaves its effect and its reply (R177, R178). -/
theorem exec_answered {l : Link} (hr : s.ready l) (tag : Byte) (c : Command) {t : State} {st : Status} {payload : List Byte}
    (h : runCommand l c s = (t, { status := st, payload := payload })) :
    exec (commandRow l tag c) s = .next (t.replied l tag st payload) := by
  rw [exec_commandRow, linkCommand_ready s hr, h]

/-! ### Checks 1 to 4 of R10 -/

section
variable {l : Link} {k : Permit} {n : Nat} {check : State → Record → Option Status} (apply : State → State)

theorem recordCommand_noSuchRecord (hp : permitted l s.phase k = true) (hn : 480 ≤ n) (argsOk : Bool) :
    recordCommand l k n argsOk check apply s = (s, bare .noSuchRecord) := by
  simp [recordCommand, hp, Config.records, hn]

theorem recordCommand_outOfRange (hp : permitted l s.phase k = true) (hn : n < 480) :
    recordCommand l k n false check apply s = (s, bare .outOfRange) := by
  simp [recordCommand, hp, Config.records, Nat.not_le.mpr hn]

theorem recordCommand_damaged (hp : permitted l s.phase k = true) (hn : n < 480) (hv : s.verifies n = false) :
    recordCommand l k n true check apply s =
      (s.damage n, recordReply .damaged ((s.damage n).record n) ((s.damage n).record n)) := by
  simp [recordCommand, hp, Config.records, Nat.not_le.mpr hn, hv]
end

/-! ### A record command that reaches its own checks 5 to 8 (R10, R11) -/

section
variable {l : Link} {k : Permit} {n : Nat} {argsOk : Bool} {check : State → Record → Option Status} {apply : State → State}

/-- A refusal by checks 5 to 8 answers the state as it stands, twice, and the last cause. -/
theorem exec_refused {tag : Byte} {c : Command} {st : Status}
    (hc : ∀ s, runCommand l c s = recordCommand l k n argsOk check apply s) (hr : s.ready l)
    (hp : permitted l s.phase k = true) (hn : n < 480) (hv : s.verifies n = true) (ha : argsOk = true)
    (hst : check s (s.record n) = some st) :
    exec (commandRow l tag c) s = .next (s.replied l tag st
      [(s.record n).state.code, (s.record n).state.code, (s.record n).cause.code]) := by
  subst ha
  exact exec_answered s hr tag c ((hc s).trans (recordCommand_refused s hp hn hv hst apply))

/-- A record command past its checks answers the states before and after and the last cause. -/
theorem exec_accepted {tag : Byte} {c : Command} {t : State}
    (hc : ∀ s, runCommand l c s = recordCommand l k n argsOk check apply s) (hr : s.ready l)
    (hp : permitted l s.phase k = true) (hn : n < 480) (hv : s.verifies n = true) (ha : argsOk = true)
    (hst : check s (s.record n) = none) (ht : apply s = t) :
    exec (commandRow l tag c) s = .next (t.replied l tag .ok
      [(s.record n).state.code, (t.record n).state.code, (t.record n).cause.code]) := by
  subst ha ht
  exact exec_answered s hr tag c ((hc s).trans (recordCommand_ok s hp hn hv hst apply))
end

/-! ### The commands' own checks -/

theorem heldByOther_iff {m : NumMap} {k n : Nat} :
    heldByOther m k n = true ↔ ∃ other, mapGet m k = some other ∧ other ≠ n := by
  unfold heldByOther
  cases mapGet m k <;> simp

theorem permitted_host (phase : SitePhase) (k : Permit) : permitted .host phase k = true := rfl

theorem craftPinned_iff {l : Link} {c : Record} : craftPinned l c = true ↔ l = .craft ∧ c.pinned = true := by
  simp [craftPinned]

/-- What AMEND asks of a record's state, as R14 lists it. -/
theorem amendStateOk_iff {a : AmendArgs} {st : RecState} :
    amendStateOk a st = true ↔ st ≠ .vacant ∧ st ≠ .damaged
      ∧ (st = .expected ∨ st = .barred ∨ (selects a 5 = false ∧ selects a 6 = false)) := by
  cases st <;> simp [amendStateOk]

/-- Checks 5 and 6 of RETIRE (R16). -/
def retireCheck (_ : State) (c : Record) : Option Status :=
  if c.state = .vacant then some .refusedState else if c.pinned then some .pinned else none

theorem runCommand_retire (l : Link) (r : Half) (s : State) :
    runCommand l (.retire r) s =
      recordCommand l .hostOnly r.toNat true retireCheck (fun s => s.retireRecord r.toNat) s := rfl

/-- Every record command makes the checks of R10 on the record it names, and check 5 refuses the states that its rule
does not list. -/
theorem runCommand_record {l : Link} {c : Command} {r : Half} {argsOk : Bool} {states : RecState → Bool}
    (h : recordDemand c = some (r, argsOk, states)) :
    ∃ check apply, (∀ s, runCommand l c s = recordCommand l (commandPermit c) r.toNat argsOk check apply s)
      ∧ ∀ (s : State) (d : Record), states d.state = false → check s d = some .refusedState := by
  cases c <;> cases h
  case plan a => exact ⟨_, _, fun _ => rfl, fun s d hd => by simp_all [planCheck]⟩
  case restore a => exact ⟨_, _, fun _ => rfl, fun s d hd => by simp_all [planCheck]⟩
  case amend a =>
    refine ⟨_, _, fun _ => rfl, fun s d hd => ?_⟩
    have : amendStateOk a d.state = false := by
      rw [← Bool.not_eq_true, amendStateOk_iff]
      simpa [Decidable.not_and_iff_or_not, and_assoc] using hd
    simp [amendCheck, this]
  case retire => exact ⟨_, _, runCommand_retire l _, fun s d hd => by simp_all [retireCheck]⟩
  case adopt => exact ⟨_, _, fun _ => rfl, fun s d hd => by simp_all [adoptCheck]⟩
  case retry => exact ⟨_, _, fun _ => rfl, fun s d hd => by simp_all [needState]⟩
  case pin => exact ⟨_, _, fun _ => rfl, fun s d hd => by simp_all [pinCheck, Decidable.or_iff_not_imp_left]⟩
  case unpin => exact ⟨_, _, fun _ => rfl, fun s d hd => by simp_all [pinCheck, Decidable.or_iff_not_imp_left]⟩
  case confirm => exact ⟨_, _, fun _ => rfl, fun s d hd => by simp_all [needState]⟩
  case reject => exact ⟨_, _, fun _ => rfl, fun s d hd => by simp_all [rejectCheck]⟩
  case admitDrop => exact ⟨_, _, fun _ => rfl, fun s d hd => by simp_all [needState]⟩
  case suspend => exact ⟨_, _, fun _ => rfl, fun s d hd => by simp_all [needState]⟩
  case rediscover =>
    refine ⟨_, _, fun _ => rfl, fun s d hd => ?_⟩
    have : d.state.ranged = false := by
      cases hs : d.state <;> simp_all [RecState.ranged]
    simp [rediscoverCheck, this]

/-- Check 7 of PLAN and RESTORE: a plot or a serial held by another record (R12, R19). -/
theorem planCheck_duplicate {a : PlanArgs} {needed : RecState} {d : Record} (hs : d.state = needed)
    (h : heldByOther s.plotIndex a.plot.toNat a.record.toNat = true
      ∨ ∃ x, givenSerial a = some x ∧ heldByOther s.serialIndex x.toNat a.record.toNat = true) :
    planCheck a needed s d = some .duplicate := by
  unfold planCheck
  rcases h with h | ⟨x, hx, h⟩
  · simp [hs, h]
  · simp [hs, hx, h]

/-- Check 7 of AMEND, for a selected plot or serial (R14). -/
theorem amendCheck_duplicate {a : AmendArgs} {d : Record} (hs : amendStateOk a d.state = true) (hp : d.pinned = false)
    (h : (selects a 4 = true ∧ heldByOther s.plotIndex a.plan.plot.toNat a.plan.record.toNat = true)
      ∨ (selects a 5 = true ∧ ∃ x, givenSerial a.plan = some x
        ∧ heldByOther s.serialIndex x.toNat a.plan.record.toNat = true)) :
    amendCheck a s d = some .duplicate := by
  unfold amendCheck
  rcases h with ⟨h4, h⟩ | ⟨h5, x, hx, h⟩
  · simp [hs, hp, h4, h]
  · simp [hs, hp, h5, hx, h]

/-- Settles O13: checks 2 to 5 from `runCommand_record`, checks 6 to 8 command by command. -/
theorem recordCommandsAreChecked : Obligations.RecordCommandsAreChecked := by
  constructor
  · intro l tag c r argsOk states s hr hp hd
    obtain ⟨check, apply, hrun, hstate⟩ := runCommand_record (l := l) hd
    refine ⟨fun hn => ?_, fun hn ha => ?_, fun hn ha hv => ?_, fun ⟨hn, hv⟩ ha hs => ?_⟩
    · exact exec_answered s hr tag c ((hrun s).trans (recordCommand_noSuchRecord s apply hp hn argsOk))
    · subst ha
      exact exec_answered s hr tag c ((hrun s).trans (recordCommand_outOfRange s apply hp hn))
    · subst ha
      obtain ⟨hst, hcause, -, -⟩ := s.damage_record hn
      refine exec_answered s hr tag c ((hrun s).trans ((recordCommand_damaged s apply hp hn hv).trans ?_))
      rw [recordReply, hst, hcause]
    · exact exec_refused s hrun hr hp hn hv ha (hstate s _ hs)
  · intro l tag r s n c held refused hr ⟨hn, hv⟩ hn' hc hheld hrefused
    subst hn' hc hheld hrefused
    simp only [← heldByOther_iff]
    refine ⟨fun hpin hl hs => ?_, fun hpin hp hs => ?_, fun hpin hl hph => ⟨fun hs => ?_, fun hs => ?_, fun hs => ?_,
      fun x hx hs => ?_⟩, fun x e hx hpin hl hs he hpe => ?_, fun x hx hp hpin hs he => ?_, fun hp hs hpin hb => ?_,
      fun a ha hok hl hh => ⟨fun hs => ?_, fun hs => ?_⟩,
      fun a ha hok hl hs1 hs2 hs3 => ⟨fun hpin hsel => ?_, fun hpin hh => ?_⟩⟩
    · subst hl
      exact exec_refused s (runCommand_retire _ r) hr (permitted_host _ .hostOnly) hn hv rfl (by simp [retireCheck, hs, hpin])
    · exact exec_refused s (c := .reject r) (fun _ => rfl) hr hp hn hv rfl (by simp [rejectCheck, hs, hpin])
    · subst hl
      exact exec_refused s (c := .retry r) (fun _ => rfl) hr (by rw [hph]; rfl) hn hv rfl
        (by simp [needState, hs, craftPinned, hpin])
    · subst hl
      exact exec_refused s (c := .confirm r) (fun _ => rfl) hr (by rw [hph]; rfl) hn hv rfl
        (by simp [needState, hs, craftPinned, hpin])
    · subst hl
      exact exec_refused s (c := .rediscover r) (fun _ => rfl) hr (by rw [hph]; rfl) hn hv rfl
        (by simp [rediscoverCheck, hs, craftPinned, hpin])
    · subst hl
      exact exec_refused s (c := .adopt r x) (fun _ => rfl) hr (by rw [hph]; rfl) hn hv (by simpa using hx)
        (by simp [adoptCheck, hs, craftPinned, hpin])
    · subst hl
      have hpe' : ((s.record r.toNat).serial.isSome || e.port != (s.record r.toNat).port) = true := by
        simpa [Option.isSome_iff_ne_none] using hpe
      exact exec_refused s (c := .adopt r x) (fun _ => rfl) hr (permitted_host _ .crew) hn hv (by simpa using hx)
        (by simp only [adoptCheck, hs, craftPinned, hpin, he, hpe']; rfl)
    · have : craftPinned l (s.record r.toNat) = false := by
        rw [← Bool.not_eq_true, craftPinned_iff]
        rcases hpin with rfl | hpin <;> simp [*]
      exact exec_refused s (c := .adopt r x) (fun _ => rfl) hr hp hn hv (by simpa using hx)
        (by simp [adoptCheck, hs, this, he])
    · exact exec_refused s (c := .reject r) (fun _ => rfl) hr hp hn hv rfl
        (by simp [rejectCheck, hs, hpin, State.isReference, hb])
    · subst hl ha
      exact exec_refused s (c := .plan a) (fun _ => rfl) hr (permitted_host _ .hostOnly) hn hv hok (planCheck_duplicate s hs hh)
    · subst hl ha
      exact exec_refused s (c := .restore a) (fun _ => rfl) hr (permitted_host _ .hostOnly) hn hv hok (planCheck_duplicate s hs hh)
    · subst hl ha
      have hst := amendStateOk_iff.mpr ⟨hs1, hs2, hs3⟩
      refine exec_refused s (c := .amend a) (fun _ => rfl) hr (permitted_host _ .hostOnly) hn hv hok ?_
      have hsel' : (selects a 4 || selects a 5 || selects a 6) = true := by simpa [or_assoc] using hsel
      simp [amendCheck, hst, hpin, hsel']
    · subst hl ha
      exact exec_refused s (c := .amend a) (fun _ => rfl) hr (permitted_host _ .hostOnly) hn hv hok
        (amendCheck_duplicate s (amendStateOk_iff.mpr ⟨hs1, hs2, hs3⟩) hpin hh)

end Sys2Proof.Machine
end

section
/-! The record commands that fill, amend, adopt, retry and pin a record (R12 to R15, R17 to R20), and naming (R13, R89). -/

namespace Sys2Proof.Machine

variable (s : State)

/-! ### What an operation leaves alone -/

/-- Nothing but the records, the ports and the changed set differs. -/
def State.sameOutside (s t : State) : Prop :=
  t = { s with records := t.records, ports := t.ports, changed := t.changed }

theorem State.sameOutside_refl : s.sameOutside s := rfl

theorem State.sameOutside.trans {s t u : State} (h : s.sameOutside t) (h' : t.sameOutside u) : s.sameOutside u := by
  unfold State.sameOutside at *
  rw [h'.trans (by rw [h])]

theorem State.sameOutside.eq_of_changed {s t : State} {ns : List Nat} (h : s.sameOutside t) (hc : t.changed = ns) :
    t = { s with records := t.records, ports := t.ports, changed := ns } := hc ▸ h

theorem State.modRecord_sameOutside (n : Nat) (f : Record → Record) : s.sameOutside (s.modRecord n f) := rfl

theorem State.change_sameOutside (n : Nat) (f : Record → Record) : s.sameOutside (s.change n f) := rfl

theorem State.modPort_sameOutside (p : Nat) (f : Port → Port) : s.sameOutside (s.modPort p f) := rfl

theorem State.push_sameOutside (p : Nat) (d : Descriptor) : s.sameOutside (s.push p d) := by
  cases hd : d.names with
  | none => rw [State.push, hd]; exact s.modPort_sameOutside p _
  | some r => rw [s.push_names hd]; exact (s.modPort_sameOutside p _).trans (State.modRecord_sameOutside _ r _)

theorem State.enqueue_sameOutside (p : Nat) (d : Descriptor) : s.sameOutside (s.enqueue p d) := by
  rcases s.enqueue_cases p d with ⟨_, h⟩ | ⟨_, h⟩ <;> rw [h]
  · exact s.push_sameOutside p d
  · exact s.modPort_sameOutside p _

/-! ### Descriptors queued (R77) -/

theorem State.push_port (p q : Nat) (d : Descriptor) :
    (s.push p d).port q = (s.modPort p (fun x => { x with outbound := x.outbound ++ [d] })).port q := by
  cases hd : d.names with
  | none => rw [State.push, hd]
  | some r => rw [s.push_names hd]; rfl

@[simp] theorem State.push_changed (p : Nat) (d : Descriptor) : (s.push p d).changed = s.changed := by
  cases hd : d.names with
  | none => rw [State.push, hd]; rfl
  | some r => rw [s.push_names hd]; rfl

@[simp] theorem State.enqueue_changed (p : Nat) (d : Descriptor) : (s.enqueue p d).changed = s.changed := by
  rcases s.enqueue_cases p d with ⟨_, h⟩ | ⟨_, h⟩ <;> rw [h]
  · exact s.push_changed p d
  · rfl

/-- A descriptor offered joins the queue or is dropped with OUTBOUND_OVERRUN. -/
theorem State.enqueue_port_self {p : Nat} (h : p < 4) (d : Descriptor) :
    (s.enqueue p d).port p = (s.port p).offered [d] := by
  rcases s.enqueue_cases p d with ⟨hl, he⟩ | ⟨hl, he⟩ <;> rw [he]
  · obtain ⟨k, hk⟩ : ∃ k, 64 - (s.port p).outbound.length = k + 1 := ⟨63 - (s.port p).outbound.length, by omega⟩
    simp [State.push_port, h, Port.offered, Config.outboundLimit, hk]
  · have hk : 64 - (s.port p).outbound.length = 0 := by omega
    simp [State.flag, h, Port.offered, Config.outboundLimit, hk]

theorem State.enqueue_port_ne {p q : Nat} (h : q ≠ p) (d : Descriptor) : (s.enqueue p d).port q = s.port q := by
  rcases s.enqueue_cases p d with ⟨_, he⟩ | ⟨_, he⟩ <;> rw [he]
  · rw [State.push_port, State.modPort_port_ne _ h]
  · exact s.modPort_port_ne h _

@[simp] theorem State.push_verifies (p n : Nat) (d : Descriptor) : (s.push p d).verifies n = s.verifies n := by
  cases hd : d.names with
  | none => rw [State.push, hd]; rfl
  | some r => rw [s.push_names hd]; simp

@[simp] theorem State.enqueue_verifies (p n : Nat) (d : Descriptor) : (s.enqueue p d).verifies n = s.verifies n := by
  rcases s.enqueue_cases p d with ⟨_, h⟩ | ⟨_, h⟩ <;> rw [h]
  · exact s.push_verifies p n d
  · rfl

/-- A record that a queued descriptor does not name is stored as before. -/
theorem State.enqueue_stored_other {p n : Nat} {d : Descriptor} (h : d.names ≠ some n) :
    (s.enqueue p d).stored n = s.stored n := by
  rcases s.enqueue_cases p d with ⟨_, he⟩ | ⟨_, he⟩ <;> rw [he]
  · cases hd : d.names with
    | none => rw [State.push, hd]; rfl
    | some r =>
      have hn : n ≠ r := fun hn => h (hn ▸ hd)
      rw [s.push_names hd, State.modRecord_stored_ne _ hn]; rfl
  · rfl

/-- The record a descriptor names counts it where it joins the queue (R4, R77). -/
theorem State.enqueue_record_named {p n : Nat} {d : Descriptor} (hd : d.names = some n) (hn : n < 480) :
    (s.enqueue p d).record n = { s.record n with
      outstanding := (s.record n).outstanding + (if (s.port p).outbound.length < 64 then 1 else 0) } := by
  rcases s.enqueue_cases p d with ⟨hl, he⟩ | ⟨hl, he⟩ <;> rw [he]
  · rw [s.push_names hd, State.modRecord_record_self _ hn, if_pos hl]; rfl
  · rw [if_neg (Nat.not_lt.mpr hl)]; rfl

/-! ### Changes of a record that verifies (R5, R162) -/

theorem State.change_of_verifies {n : Nat} (h : s.verifies n = true) (f : Record → Record) :
    s.change n f = (s.freshRecord n (f (s.record n))).noteChanged n := by
  rw [State.change, s.modRecord_of_verifies h]

theorem State.change_record_self {n : Nat} (h : n < 480) (f : Record → Record) :
    (s.change n f).record n = f (s.record n) := s.modRecord_record_self h f

theorem State.change_stored_ne {n m : Nat} (h : m ≠ n) (f : Record → Record) :
    (s.change n f).stored m = s.stored m := s.modRecord_stored_ne h f

/-! ### Naming (R13, R89) -/

/-- What naming makes of an EXPECTED record: drop id `d`, the initial level index, NAMED (R13, R89). -/
def Record.namedWith (c : Record) (d index : Nat) (cause : Cause) (heard : Option Bool) : Record :=
  { c with
    dropId := d
    levelable := if heard.isSome then heard else c.levelable
    levelIndex := index
    attempts := 0
    rounds := 0
    lastHeard := none
    state := .named
    cause := cause }

/-- Naming with room in the activation queue and a drop id free: the id entered, the record NAMED, a NAME and an entry at the tail. -/
theorem State.nameExpected_named {p r d : Nat} (hp : p < 4) (hroom : (s.port p).activation.length < 8)
    (hd : s.allocate p (s.record r).preferred = some d) (cause : Cause) (heard : Option Bool) :
    s.nameExpected p r cause heard =
      (((s.holdDrop p d r).change r (fun c => c.namedWith d (s.port p).config.initIndex cause heard)).enqueue p
        (.name r)).appendEntry p r := by
  have hroom' : s.activationRoom p = true := decide_eq_true hroom
  have hport : ((s.holdDrop p d r).port p).config = (s.port p).config := by simp [State.holdDrop, hp]
  simp only [State.nameExpected, hroom', hd, hport]
  rfl

theorem State.nameExpected_deferred {p : Nat} (hfull : 8 ≤ (s.port p).activation.length) (r : Nat) (cause : Cause)
    (heard : Option Bool) : s.nameExpected p r cause heard = s.flag p (fun c => { c with deferred := true }) := by
  have : s.activationRoom p = false := decide_eq_false (Nat.not_lt.mpr hfull)
  simp [State.nameExpected, this]

theorem State.nameExpected_portFull {p r : Nat} (hroom : (s.port p).activation.length < 8)
    (hd : s.allocate p (s.record r).preferred = none) (cause : Cause) (heard : Option Bool) :
    s.nameExpected p r cause heard = s.flag p (fun c => { c with portFull := true }) := by
  have : s.activationRoom p = true := decide_eq_true hroom
  simp [State.nameExpected, this, hd]

/-- Settles O18: the three outcomes of naming, and of the last one what each of its four updates does to the record, the port and the
rest. -/
theorem namingGivesADropId : Obligations.NamingGivesADropId := by
  rintro s t p r cause heard hp hr hv rfl
  refine ⟨fun hfull => s.nameExpected_deferred hfull r cause heard,
    fun hroom hd => s.nameExpected_portFull hroom hd cause heard, fun d hroom hd => ?_⟩
  have hport : (s.holdDrop p d r).port p = { s.port p with dropMap := mapPut (s.port p).dropMap d r } := by
    simp [State.holdDrop, hp]
  rw [s.nameExpected_named hp hroom hd, State.appendEntry]
  refine ⟨?_, ?_, ?_, fun n hn => ?_, fun q hq => ?_, ?_⟩
  · rw [State.modPort_record, State.enqueue_record_named _ rfl hr, State.change_record_self _ hr, State.change_port, hport]
    rfl
  · rw [State.modPort_verifies, State.enqueue_verifies, State.change_verifies]
    exact hv
  · rw [State.modPort_port_self _ hp, State.enqueue_port_self _ hp, State.change_port, hport]
    rfl
  · have hn' : n ≠ r := by simpa using hn
    rw [State.modPort_stored, State.enqueue_stored_other _ (by simpa [Descriptor.names] using hn'.symm),
      State.change_stored_ne _ hn']
    rfl
  · have hq' : q ≠ p := by simpa using hq
    rw [State.modPort_port_ne _ hq', State.enqueue_port_ne _ hq', State.change_port]
    exact s.modPort_port_ne hq' _
  · have hsame : s.sameOutside (((s.holdDrop p d r).change r
        (fun c => c.namedWith d (s.port p).config.initIndex cause heard)).enqueue p (.name r)) :=
      (State.change_sameOutside (s.holdDrop p d r) r _).trans (State.enqueue_sameOutside _ p _)
    have h := hsame.trans (State.modPort_sameOutside _ p (fun q =>
      { q with activation := q.activation ++ [{ record := r, phase := .awaitEcho }] }))
    exact h.eq_of_changed (by rw [State.modPort_changed, State.enqueue_changed]; rfl)

end Sys2Proof.Machine
end

section
/-! The record commands that fill, amend, adopt, retry and pin a record (R12 to R15, R17 to R20). -/

namespace Sys2Proof.Machine

variable (s : State)

/-! ### RETRY, PIN, UNPIN (R18, R20) -/

/-- Settles O27: each command past its checks changes a record that verifies. -/
theorem retryPinAndUnpin : Obligations.RetryPinAndUnpin := by
  rintro l tag r s n c hr ⟨hn, hv⟩ rfl rfl
  refine ⟨fun hs hp hpin => ?_, fun hs1 hs2 hl => ?_⟩
  · have hcraft : craftPinned l (s.record r.toNat) = false := by
      rw [← Bool.not_eq_true, craftPinned_iff]
      rcases hpin with rfl | hpin <;> simp [*]
    have h := exec_accepted s (tag := tag) (c := .retry r) (fun _ => rfl) hr hp hn hv rfl
      (by simp [needState, hs, hcraft]) (s.change_of_verifies hv _)
    rwa [State.noteChanged_record, s.freshRecord_record_self hn, hs] at h
  · subst hl
    have hcheck : pinCheck s (s.record r.toNat) = none := by simp [pinCheck, hs1, hs2]
    constructor
    · have h := exec_accepted s (tag := tag) (c := .pin r) (fun _ => rfl) hr (permitted_host _ .hostOnly) hn hv rfl
        hcheck (s.modRecord_of_verifies hv _)
      rwa [s.freshRecord_record_self hn] at h
    · have h := exec_accepted s (tag := tag) (c := .unpin r) (fun _ => rfl) hr (permitted_host _ .hostOnly) hn hv rfl
        hcheck (s.modRecord_of_verifies hv _)
      rwa [s.freshRecord_record_self hn] at h

/-! ### Naming at once (R13) -/

theorem State.nameAtOnce_on {n p : Nat} (h : (s.record n).port = p) (cause : Cause) :
    s.nameAtOnce n cause = if (s.port p).state = .run then s.nameExpected p n cause none else s := by
  subst h
  rfl

/-- The entry found for a serial is that serial's (R8). -/
theorem State.stranger_serial {x : Serial} {e : Stranger} (h : s.stranger x = some e) : e.serial = x := by
  simpa using List.find?_some h

/-! ### PLAN and RESTORE (R12, R19) -/

/-- PLAN and RESTORE past their checks. -/
theorem exec_planRecord (restore : Bool) {tag : Byte} {a : PlanArgs} {t : State} (hr : s.ready .host)
    (hs : s.sound a.record) (hok : planArgsOk a = true)
    (hstate : (s.record a.record.toNat).state = (if restore then .damaged else .vacant))
    (hplot : heldByOther s.plotIndex a.plot.toNat a.record.toNat = false)
    (hserial : ∀ x, givenSerial a = some x → heldByOther s.serialIndex x.toNat a.record.toNat = false)
    (ht : s.planRecord a (if restore then .restored else .planned) (if restore then .restored else .adopted)
      (if restore then .restored else .named) = t) :
    exec (if restore then .restore .host tag a else .plan .host tag a) s = .next (t.replied .host tag .ok
      [if restore then RecState.damaged.code else RecState.vacant.code,
        (t.record a.record.toNat).state.code, (t.record a.record.toNat).cause.code]) := by
  have hcheck : planCheck a (if restore then .damaged else .vacant) s (s.record a.record.toNat) = none := by
    unfold planCheck
    cases hx : givenSerial a with
    | none => simp [hstate, hplot]
    | some x => simp [hstate, hplot, hserial x hx]
  cases restore with
  | false =>
    have h := exec_accepted s (tag := tag) (c := .plan a) (fun _ => rfl) hr (permitted_host _ .hostOnly) hs.1 hs.2 hok
      hcheck ht
    rwa [hstate] at h
  | true =>
    have h := exec_accepted s (tag := tag) (c := .restore a) (fun _ => rfl) hr (permitted_host _ .hostOnly) hs.1 hs.2 hok
      hcheck ht
    rwa [hstate] at h

theorem State.planPlain_eq {a : PlanArgs} (hv : s.verifies a.record.toNat = true) (cause : Cause) :
    s.planPlain a cause =
      { (s.freshRecord a.record.toNat (plannedContent a a.port.toNat none cause
          (s.record a.record.toNat))).noteChanged a.record.toNat with
        plotIndex := mapPut s.plotIndex a.plot.toNat a.record.toNat
        serialIndex := match givenSerial a with
          | some x => mapPut s.serialIndex x.toNat a.record.toNat
          | none => s.serialIndex } := by
  simp only [State.planPlain, s.change_of_verifies hv]
  cases givenSerial a <;> rfl

theorem State.planPlain_record {a : PlanArgs} (hs : s.sound a.record) (cause : Cause) :
    (s.planPlain a cause).record a.record.toNat = plannedContent a a.port.toNat none cause (s.record a.record.toNat) := by
  rw [s.planPlain_eq hs.2]
  exact s.freshRecord_record_self hs.1 _

/-- Settles O22: with no stranger's serial the plan is a plain one. -/
theorem planAndRestoreFillTheRecord : Obligations.PlanAndRestoreFillTheRecord := by
  intro restore tag a s hr hs hok hstate hplot hserial
  have hnone : (givenSerial a).bind s.stranger = none := by
    cases hx : givenSerial a with
    | none => rfl
    | some x => exact (hserial x hx).2
  have hplain : ∀ cause cause' cause'', s.planRecord a cause cause' cause'' = s.planPlain a cause := by
    intro cause cause' cause''
    rw [State.planRecord, hnone]
  have h := exec_planRecord s restore (tag := tag) hr hs hok hstate hplot (fun x hx => (hserial x hx).1) (hplain _ _ _)
  rw [s.planPlain_record hs, s.planPlain_eq hs.2] at h
  cases restore
  · exact h
  · exact h

/-- The adopted record before its naming: the entry's port and levelable flag, both indexes entered, the entry gone (R12). -/
theorem State.planAdopting_eq {a : PlanArgs} {e : Stranger} (hs : s.sound a.record) (cause causeNamed : Cause) {base : State}
    (hb : base = { (s.freshRecord a.record.toNat (plannedContent a e.port (some e.levelable) cause
          (s.record a.record.toNat))).noteChanged a.record.toNat with
        plotIndex := mapPut s.plotIndex a.plot.toNat a.record.toNat
        serialIndex := mapPut s.serialIndex e.serial.toNat a.record.toNat
        strangers := s.strangers.filter (fun y => y.serial != e.serial) }) :
    s.planAdopting a e cause causeNamed =
      if (s.port e.port).state = .run then base.nameExpected e.port a.record.toNat causeNamed none else base := by
  have hport : (base.record a.record.toNat).port = e.port := by
    rw [hb]
    exact congrArg Record.port (s.freshRecord_record_self hs.1 _)
  have hbase : (((s.change a.record.toNat (plannedContent a e.port (some e.levelable) cause)).indexPlot a.plot.toNat
      a.record.toNat).indexSerial e.serial a.record.toNat).removeStranger e.serial = base := by
    rw [s.change_of_verifies hs.2, hb]
    rfl
  simp only [State.planAdopting, hbase]
  rw [base.nameAtOnce_on hport, hb]
  rfl

/-- Settles O23: with a stranger's serial the plan is an adoption. -/
theorem planAndRestoreAdoptAStranger : Obligations.PlanAndRestoreAdoptAStranger := by
  intro restore tag a x e s base t hr hs hok hstate hplot hx hheld he hbase ht
  have hxe := s.stranger_serial he
  subst hxe
  have hbind : (givenSerial a).bind s.stranger = some e := by rw [hx]; exact he
  refine exec_planRecord s restore (tag := tag) hr hs hok hstate hplot (fun y hy => ?_) ?_
  · rw [hx] at hy
    cases hy
    exact hheld
  · rw [State.planRecord, hbind, ht]
    refine s.planAdopting_eq hs _ _ (hbase.trans ?_)
    rw [plannedContent, hx]

/-! ### ADOPT (R17) -/

/-- The adopted record before its naming: serial, port and levelable flag of the entry, which leaves the list. -/
theorem State.adoptRecord_eq {n : Nat} {x : Serial} {e : Stranger} (hn : n < 480) (hv : s.verifies n = true)
    (he : s.stranger x = some e) {base : State}
    (hb : base = { (s.freshRecord n { s.record n with
        serial := some x
        port := e.port
        levelable := some e.levelable
        lastHeard := none
        cause := .adopted }).noteChanged n with
      serialIndex := mapPut (match (s.record n).serial with
        | some y => mapErase s.serialIndex y.toNat
        | none => s.serialIndex) x.toNat n
      strangers := s.strangers.filter (fun y => y.serial != x) }) :
    s.adoptRecord n x = if (s.port e.port).state = .run then base.nameExpected e.port n .named none else base := by
  have hport : (base.record n).port = e.port := by
    rw [hb]
    exact congrArg Record.port (s.freshRecord_record_self hn _)
  have hbase : (((s.unindexSerial (s.record n).serial).indexSerial x n).removeStranger x).change n (fun c => { c with
      serial := some x
      port := e.port
      levelable := some e.levelable
      lastHeard := none
      cause := .adopted }) = base := by
    rw [State.change_of_verifies _ (by cases (s.record n).serial <;> exact hv), hb]
    cases (s.record n).serial <;> rfl
  simp only [State.adoptRecord, he, hbase]
  rw [base.nameAtOnce_on hport, hb]
  rfl

/-- Settles O26: past its checks ADOPT leaves the adopted record, named at once on a port in RUN. -/
theorem adoptGivesTheStrangersSerial : Obligations.AdoptGivesTheStrangersSerial := by
  rintro l tag r x e s base t n c hr hp ⟨hn, hv⟩ hx rfl rfl hstate he hpin hbase ht
  have hcheck : adoptCheck l x s (s.record r.toNat) = none := by
    rcases hpin with hpin | ⟨rfl, hserial, hport⟩
    · simp [adoptCheck, hstate, craftPinned, hpin, he]
    · simp [adoptCheck, hstate, craftPinned, hserial, hport, he]
  have h := exec_accepted s (tag := tag) (c := .adopt r x) (fun _ => rfl) hr hp hn hv (by simpa using hx) hcheck
    ((s.adoptRecord_eq hn hv he hbase).trans ht.symm)
  rwa [hstate] at h

end Sys2Proof.Machine
end

section
/-! AMEND (R14, R15). -/

namespace Sys2Proof.Machine

variable (s : State)

/-- The plot index follows a selected plot, and stays otherwise (R7). -/
theorem State.amendPlot_eq (a : AmendArgs) (old : Option Nat) :
    s.amendPlot a old = { s with
      plotIndex :=
        if selects a 4 then
          mapPut (match old with
            | some q => mapErase s.plotIndex q
            | none => s.plotIndex) a.plan.plot.toNat a.plan.record.toNat
        else s.plotIndex } := by
  unfold State.amendPlot
  cases selects a 4 <;> cases old <;> rfl

/-- The serial index and the stranger list follow a selected serial, and stay otherwise (R15). -/
theorem State.amendSerial_eq (a : AmendArgs) (old : Option Serial) :
    s.amendSerial a old = { s with
      serialIndex :=
        if selects a 5 then
          match old, givenSerial a.plan with
          | none, none => s.serialIndex
          | some y, none => mapErase s.serialIndex y.toNat
          | none, some x => mapPut s.serialIndex x.toNat a.plan.record.toNat
          | some y, some x => mapPut (mapErase s.serialIndex y.toNat) x.toNat a.plan.record.toNat
        else s.serialIndex
      strangers :=
        match selects a 5, givenSerial a.plan with
        | true, some x => s.strangers.filter (fun y => y.serial != x)
        | _, _ => s.strangers } := by
  unfold State.amendSerial
  cases selects a 5 <;> cases givenSerial a.plan <;> cases old <;> rfl

/-- A number that is already in the changed set need not enter it again (R5). -/
theorem State.noteChanged_same {n : Nat} (h : insertNumber s.changed n = s.changed) : s.noteChanged n = s := by
  rw [State.noteChanged, h]

/-- A second change of a record in one step, once it is in the changed set. -/
theorem State.change_again {n : Nat} (hv : s.verifies n = true) (h : insertNumber s.changed n = s.changed)
    (f : Record → Record) : s.change n f = s.freshRecord n (f (s.record n)) := by
  rw [s.change_of_verifies hv]
  exact State.noteChanged_same (s.freshRecord n _) h

/-- A QUERY record already in the changed set is resolved as at finish (R15). -/
theorem State.resolveQuery_eq {n : Nat} {c : Record} (hc : s.record n = c) (hv : s.verifies n = true)
    (h : insertNumber s.changed n = s.changed) :
    s.resolveQuery n =
      if c.autoAdmit then
        (s.freshRecord n { c with state := .active, cause := .activated }).enqueue c.port (.openDrop n)
      else s.freshRecord n { c with state := .ready, cause := .activated } := by
  subst hc
  simp only [State.resolveQuery, s.change_again hv h]

/-- Checks 5 to 7 of AMEND pass (R14). -/
theorem amendCheck_none {a : AmendArgs} {c : Record} (hst : amendStateOk a c.state = true)
    (hpin : c.pinned = false ∨ (selects a 4 = false ∧ selects a 5 = false ∧ selects a 6 = false))
    (h4 : selects a 4 = true → heldByOther s.plotIndex a.plan.plot.toNat a.plan.record.toNat = false)
    (h5 : selects a 5 = true → ∀ x, givenSerial a.plan = some x →
      heldByOther s.serialIndex x.toNat a.plan.record.toNat = false) :
    amendCheck a s c = none := by
  have hp : (c.pinned && (selects a 4 || selects a 5 || selects a 6)) = false := by
    rcases hpin with h | ⟨h, h', h''⟩ <;> simp [*]
  have hplot : (selects a 4 && heldByOther s.plotIndex a.plan.plot.toNat a.plan.record.toNat) = false := by
    cases hsel : selects a 4 <;> simp [*]
  simp only [amendCheck, hst, hp, hplot]
  cases hsel : selects a 5 with
  | false => simp
  | true =>
    cases hx : givenSerial a.plan with
    | none => simp
    | some x => simp [h5 hsel x hx]

/-- Settles O24: the selected fields with the structures that follow them give `base`, which is resolved for a QUERY record
inside its new band. -/
theorem amendChangesItsSelection : Obligations.AmendChangesItsSelection := by
  rintro tag a s base t n c c' hr ⟨hn, hv⟩ hok rfl rfl hs1 hs2 hs3 hpin h4 h5 hc' hbase ht
  have hamended : ((s.change a.plan.record.toNat (amendedContent a)).amendPlot a (s.record a.plan.record.toNat).plot).amendSerial a
      (s.record a.plan.record.toNat).serial = base := by
    rw [s.change_of_verifies hv, State.amendPlot_eq, State.amendSerial_eq, hbase, hc']
    rfl
  have hrec : base.record a.plan.record.toNat = c' := by
    rw [hbase]; exact s.freshRecord_record_self hn c'
  have hver : base.verifies a.plan.record.toNat = true := by
    rw [hbase]; exact s.freshRecord_verifies_self hn c'
  have hchanged : insertNumber base.changed a.plan.record.toNat = base.changed := by
    rw [hbase]; exact insertNumber_insertNumber _ _
  have heffect : s.amendRecord a = t := by
    simp only [State.amendRecord, hamended]
    rw [ht]
    split
    · next hq =>
      have h6 : selects a 6 = false := by
        rcases hs3 with h | h | h
        · simp [h] at hq
        · simp [h] at hq
        · exact h.2
      have hport : c'.port = (s.record a.plan.record.toNat).port := by simp [hc', h6]
      rw [base.resolveQuery_eq hrec hver hchanged, hport]
    · rfl
  exact exec_accepted s (tag := tag) (c := .amend a) (fun _ => rfl) hr (permitted_host _ .hostOnly) hn hv hok
    (amendCheck_none s (amendStateOk_iff.mpr ⟨hs1, hs2, hs3⟩) hpin h4 h5) heffect

end Sys2Proof.Machine
end

section
/-! RETIRE (R16, R159). -/

namespace Sys2Proof.Machine

variable (s : State)

/-! ### Giving up a drop id (R30) -/

theorem Port.offered_nil (q : Port) : q.offered [] = q := by
  simp [Port.offered]

@[simp] theorem State.releaseHeld_records (r : Nat) : (s.releaseHeld r).records = s.records := by
  by_cases h : (s.record r).dropId = 0
  · rw [s.releaseHeld_none h]
  · rw [s.releaseHeld_some h]
    exact s.enqueue_release_records _ _ _

theorem State.releaseHeld_sameOutside (r : Nat) : s.sameOutside (s.releaseHeld r) := by
  by_cases h : (s.record r).dropId = 0
  · rw [s.releaseHeld_none h]
    exact s.sameOutside_refl
  · rw [s.releaseHeld_some h]
    exact (s.enqueue_sameOutside _ _).trans (State.modPort_sameOutside _ _ _)

@[simp] theorem State.releaseHeld_changed (r : Nat) : (s.releaseHeld r).changed = s.changed := by
  by_cases h : (s.record r).dropId = 0
  · rw [s.releaseHeld_none h]
  · rw [s.releaseHeld_some h]
    exact s.enqueue_changed _ _

/-- A drop id held on port `p` is offered as a RELEASE and leaves the map; the other ports stay as they are. -/
theorem State.releaseHeld_port {p r : Nat} (hp : p < 4) :
    (s.releaseHeld r).port p =
      { (s.port p).offered (if p = (s.record r).port ∧ (s.record r).dropId ≠ 0 then [.release p (s.record r).dropId] else [])
        with dropMap :=
          if p = (s.record r).port ∧ (s.record r).dropId ≠ 0 then mapErase (s.port p).dropMap (s.record r).dropId
          else (s.port p).dropMap } := by
  by_cases hd : (s.record r).dropId = 0
  · simp [s.releaseHeld_none hd, hd, Port.offered_nil]
  · rw [s.releaseHeld_some hd]
    by_cases h : p = (s.record r).port
    · subst h
      rw [State.freeDrop, State.modPort_port_self _ hp, s.enqueue_port_self hp]
      simp [hd, Port.offered]
    · rw [State.freeDrop, State.modPort_port_ne _ h, s.enqueue_port_ne h]
      simp [h, Port.offered_nil]

/-! ### The parts of RETIRE -/

/-- RETIRE first takes the record out of the structures that name it (R16). -/
def State.retireDetached (s : State) (n : Nat) : State :=
  ((((s.releaseHeld n).unindexSerial (s.record n).serial).unindexPlot (s.record n).plot).removeEntry (s.record n).port
    n).clearTargets n

/-- What RETIRE leaves in a record: VACANT, with what its queued descriptors still owe (R16). -/
def Record.retired (c : Record) (sync : DelaySync) : Record :=
  { Record.vacant with outstanding := c.outstanding, delaySync := sync }

theorem State.retireRecord_eq (n : Nat) :
    s.retireRecord n = eachNumber (fun s p => s.failIfReference n p) allPorts
      ((s.retireDetached n).change n (fun c => c.retired ((s.retireDetached n).idleSync n))) := rfl

@[simp] theorem State.unindexSerial_records (x : Option Serial) : (s.unindexSerial x).records = s.records := by
  cases x <;> rfl

@[simp] theorem State.unindexPlot_records (x : Option Nat) : (s.unindexPlot x).records = s.records := by
  cases x <;> rfl

@[simp] theorem State.unindexSerial_port (x : Option Serial) (p : Nat) : (s.unindexSerial x).port p = s.port p := by
  cases x <;> rfl

@[simp] theorem State.unindexPlot_port (x : Option Nat) (p : Nat) : (s.unindexPlot x).port p = s.port p := by
  cases x <;> rfl

theorem State.removeEntry_port {p : Nat} (hp : p < 4) (x r : Nat) :
    (s.removeEntry x r).port p = { s.port p with
      activation := if p = x then (s.port p).activation.filter (fun e => e.record ≠ r) else (s.port p).activation } := by
  by_cases h : p = x
  · subst h
    rw [State.removeEntry, State.modPort_port_self _ hp, if_pos rfl]
  · rw [State.removeEntry, State.modPort_port_ne _ h, if_neg h]

@[simp] theorem State.retireDetached_records (n : Nat) : (s.retireDetached n).records = s.records := by
  rw [State.retireDetached, State.clearTargets_records, State.removeEntry, State.modPort_records, State.unindexPlot_records,
    State.unindexSerial_records, State.releaseHeld_records]

/-- A port from which RETIRE of record `n`, whose content is `c`, has taken what names it (R16). -/
def Port.retireFreed (q : Port) (p n : Nat) (c : Record) : Port :=
  { q.offered (if p = c.port ∧ c.dropId ≠ 0 then [.release p c.dropId] else []) with
    dropMap := if p = c.port ∧ c.dropId ≠ 0 then mapErase q.dropMap c.dropId else q.dropMap
    activation := if p = c.port then q.activation.filter (fun e => e.record ≠ n) else q.activation
    window := q.window.map (fun w => if w.target = some n then { w with target := none } else w) }

theorem State.retireDetached_port {p n : Nat} (hp : p < 4) :
    (s.retireDetached n).port p = (s.port p).retireFreed p n (s.record n) := by
  rw [State.retireDetached, State.clearTargets_port _ hp, State.removeEntry_port _ hp, State.unindexPlot_port,
    State.unindexSerial_port, s.releaseHeld_port hp]
  rfl

/-- A RELEASE is no SET DELAY, so RETIRE's own one changes nothing in what is queued for the record (R76). -/
theorem State.retireDetached_setDelayQueued (n : Nat) :
    (s.retireDetached n).setDelayQueued allPorts n = s.setDelayQueued allPorts n := by
  have hport : ∀ p < 4, ((s.retireDetached n).port p).outbound.any (fun d => d.isSetDelayOf n)
      = (s.port p).outbound.any (fun d => d.isSetDelayOf n) := by
    intro p hp
    rw [s.retireDetached_port hp]
    simp only [Port.retireFreed, Port.offered, List.any_append]
    split
    · have : ((List.take (Config.outboundLimit - (s.port p).outbound.length)
          [Descriptor.release p (s.record n).dropId]).any (fun d => d.isSetDelayOf n)) = false := by
        rw [List.any_eq_false]
        intro d hd
        rw [List.mem_singleton.mp (List.mem_of_mem_take hd)]
        simp [Descriptor.isSetDelayOf]
      rw [this, Bool.or_false]
    · simp
  simp [State.setDelayQueued, allPorts, hport]

theorem State.failIfReference_sameOutside (r p : Nat) : s.sameOutside (s.failIfReference r p) := by
  rw [s.failIfReference_eq]
  exact s.modPort_sameOutside _ _

@[simp] theorem State.failIfReferences_changed (r : Nat) :
    (eachNumber (fun s p => s.failIfReference r p) allPorts s).changed = s.changed :=
  eachNumber_field State.changed (fun t p _ => by rw [t.failIfReference_eq]; rfl) s

@[simp] theorem State.clearTargets_changed (r : Nat) : (s.clearTargets r).changed = s.changed :=
  eachNumber_field State.changed (f := fun s p => s.clearTarget r p) (fun _ _ _ => rfl) s

@[simp] theorem State.unindexSerial_changed (x : Option Serial) : (s.unindexSerial x).changed = s.changed := by
  cases x <;> rfl

@[simp] theorem State.unindexPlot_changed (x : Option Nat) : (s.unindexPlot x).changed = s.changed := by
  cases x <;> rfl

/-- What every step of a fold leaves alone outside records, ports and changed set, the fold leaves alone. -/
theorem eachNumber_sameOutside {f : State → Nat → State} (h : ∀ (t : State) n, t.sameOutside (f t n)) (ns : List Nat) :
    s.sameOutside (eachNumber f ns s) :=
  eachNumber_keeps (P := fun t => s.sameOutside t) (fun t n _ ht => ht.trans (h t n)) s.sameOutside_refl

/-- The frame of operations that take a serial and a plot out of the indexes (R6, R7). -/
theorem State.sameOutside.frame_of_unindexed {s t u : State} {x : Option Serial} {y : Option Nat} (h : s.sameOutside t) :
    ((t.unindexSerial x).unindexPlot y).sameOutside u →
    u = { s with
      records := u.records
      ports := u.ports
      changed := u.changed
      serialIndex := match x with
        | some x => mapErase s.serialIndex x.toNat
        | none => s.serialIndex
      plotIndex := match y with
        | some x => mapErase s.plotIndex x
        | none => s.plotIndex } := by
  intro h'
  refine Eq.trans h' ?_
  rw [State.sameOutside] at h
  rw [h]
  cases x <;> cases y <;> rfl

/-- Outside records, ports and changed set, RETIRE changes the indexes alone (R6, R7). -/
theorem State.retireRecord_frame (n : Nat) :
    s.retireRecord n =
      { s with
        records := (s.retireRecord n).records
        ports := (s.retireRecord n).ports
        changed := insertNumber s.changed n
        serialIndex := match (s.record n).serial with
          | some x => mapErase s.serialIndex x.toNat
          | none => s.serialIndex
        plotIndex := match (s.record n).plot with
          | some x => mapErase s.plotIndex x
          | none => s.plotIndex } := by
  have h1 := s.releaseHeld_sameOutside n
  have h2 : (((s.releaseHeld n).unindexSerial (s.record n).serial).unindexPlot (s.record n).plot).sameOutside
      (s.retireDetached n) :=
    (State.modPort_sameOutside _ _ _).trans (eachNumber_sameOutside _ (fun t p => t.modPort_sameOutside p _) allPorts)
  have h3 : (s.retireDetached n).sameOutside (s.retireRecord n) := by
    rw [s.retireRecord_eq]
    exact (State.change_sameOutside _ n _).trans (eachNumber_sameOutside _ (fun t p => t.failIfReference_sameOutside n p) allPorts)
  have hc : (s.retireRecord n).changed = insertNumber s.changed n := by
    rw [s.retireRecord_eq, State.failIfReferences_changed, State.change_changed, State.retireDetached,
      State.clearTargets_changed, State.removeEntry, State.modPort_changed, State.unindexPlot_changed,
      State.unindexSerial_changed, State.releaseHeld_changed]
  have h := h1.frame_of_unindexed (h2.trans h3)
  rw [hc] at h
  exact h

/-! ### Reading a state to which a reply has been appended -/

section
variable (l : Link) (tag : Byte) (st : Status) (payload : List Byte)

@[simp] theorem State.replied_records : (s.replied l tag st payload).records = s.records := by
  cases l <;> rfl

@[simp] theorem State.replied_ports : (s.replied l tag st payload).ports = s.ports := by
  cases l <;> rfl

@[simp] theorem State.replied_changed : (s.replied l tag st payload).changed = s.changed := by
  cases l <;> rfl

@[simp] theorem State.replied_stored (n : Nat) : (s.replied l tag st payload).stored n = s.stored n :=
  State.stored_congr (s.replied_records l tag st payload) n

@[simp] theorem State.replied_record (n : Nat) : (s.replied l tag st payload).record n = s.record n :=
  congrArg StoredRecord.content (s.replied_stored l tag st payload n)

@[simp] theorem State.replied_verifies (n : Nat) : (s.replied l tag st payload).verifies n = s.verifies n :=
  congrArg StoredRecord.verifies (s.replied_stored l tag st payload n)

@[simp] theorem State.replied_port (p : Nat) : (s.replied l tag st payload).port p = s.port p := by
  simp [State.port]

/-- Of the host link's reply everything but the path, the last-served link and the attention output stays. -/
theorem State.replied_host :
    s.replied .host tag st payload = { s with
      host := { s.host with replies := s.host.replies ++ [{ tag := tag, status := st, payload := payload }] }
      lastServed := .host
      attention := (s.replied .host tag st payload).attention } := rfl

/-- The frame of an operation that leaves all but the registry and the ports, once the host has its reply. -/
theorem State.replied_host_frame {s u : State} {changed : List Nat} {serials plots : NumMap}
    (h : u = { s with
      records := u.records, ports := u.ports, changed := changed, serialIndex := serials, plotIndex := plots }) :
    u.replied .host tag st payload = { s with
      records := (u.replied .host tag st payload).records
      ports := (u.replied .host tag st payload).ports
      changed := changed
      serialIndex := serials
      plotIndex := plots
      host := { s.host with replies := s.host.replies ++ [{ tag := tag, status := st, payload := payload }] }
      lastServed := .host
      attention := (u.replied .host tag st payload).attention } := by
  rw [State.replied_host, h]
end

/-! ### RETIRE as a whole -/

theorem State.retireRecord_record {n : Nat} (hn : n < 480) :
    (s.retireRecord n).record n = (s.record n).retired (if s.setDelayQueued allPorts n then .queued else .synced) := by
  rw [s.retireRecord_eq, State.record, State.stored_congr (State.failIfReferences_records _ n)]
  refine (State.change_record_self _ hn _).trans ?_
  rw [State.record, State.stored_congr (s.retireDetached_records n), State.idleSync, s.retireDetached_setDelayQueued]
  rfl

theorem State.retireRecord_verifies {n : Nat} (hv : s.verifies n = true) : (s.retireRecord n).verifies n = true := by
  rw [s.retireRecord_eq, State.verifies, State.stored_congr (State.failIfReferences_records _ n)]
  refine (State.change_verifies _ n n _).trans ?_
  rw [State.verifies, State.stored_congr (s.retireDetached_records n)]
  exact hv

theorem State.retireRecord_stored_ne {n m : Nat} (h : m ≠ n) : (s.retireRecord n).stored m = s.stored m := by
  rw [s.retireRecord_eq, State.stored_congr (State.failIfReferences_records _ n), State.change_stored_ne _ h,
    State.stored_congr (s.retireDetached_records n)]

/-- A changeover that referred to the record fails (R159); of the other ports the record is taken out, and no more. -/
theorem State.retireRecord_port {p n : Nat} (hp : p < 4) :
    (s.retireRecord n).port p =
      if (s.port p).changeover.reference = some n then ((s.port p).retireFreed p n (s.record n)).changeoverFailed
      else (s.port p).retireFreed p n (s.record n) := by
  rw [s.retireRecord_eq, State.failIfReferences_port _ hp, State.change_port, s.retireDetached_port hp]
  rfl

/-- Clearing a window's target leaves its kind (R61). -/
theorem Port.retireFreed_referenceOpen (q : Port) (p n : Nat) (c : Record) :
    (q.retireFreed p n c).window.any (fun w => w.kind == .reference) = true ↔
      ∃ w, q.window = some w ∧ w.kind = .reference := by
  have hkind : ∀ w : OpenWindow, (if w.target = some n then { w with target := none } else w).kind = w.kind :=
    fun w => by split <;> rfl
  cases hw : q.window <;> simp [Port.retireFreed, hw, hkind]

/-- Settles O25: record, ports and frame of `retireRecord`, and the reply. -/
theorem retireEmptiesTheRecord : Obligations.RetireEmptiesTheRecord := by
  rintro tag r s n c hr ⟨hn, hv⟩ rfl rfl hs hpin hport
  have hexec := exec_accepted s (tag := tag) (runCommand_retire .host r) hr (permitted_host _ .hostOnly) hn hv rfl
    (by simp [retireCheck, hs, hpin]) rfl
  rw [s.retireRecord_record hn] at hexec
  refine ⟨_, hexec, ?_, ?_, ?_, fun m hm => ?_, ?_⟩
  · rw [State.replied_record, s.retireRecord_record hn]
    rfl
  · rw [State.replied_verifies, s.retireRecord_verifies hv]
  · rintro p q freed referenceOpen hp rfl hfreed hopen
    have hiff := (s.port p).retireFreed_referenceOpen p r.toNat (s.record r.toNat)
    have ht := s.retireRecord_port (n := r.toNat) hp
    have hfreed' : freed = (s.port p).retireFreed p r.toNat (s.record r.toNat) := hfreed
    rw [State.replied_port, ht, hopen, ← hiff, ← hfreed']
    refine ⟨fun href => if_neg href, fun href => ?_⟩
    rw [if_pos href]
    refine ⟨fun ho => ⟨if_pos ho, if_pos ho⟩, fun ho => ⟨if_neg ho, (if_neg ho).trans (hfreed' ▸ rfl)⟩, hfreed' ▸ rfl⟩
  · rw [State.replied_stored, s.retireRecord_stored_ne (by simpa using hm)]
  · exact State.replied_host_frame _ _ _ (s.retireRecord_frame r.toNat)

end Sys2Proof.Machine
end

section
/-! The reads of chapter 1 (R21 to R24), PORT STATUS (R58) and DEVICE STATUS (R180). -/

namespace Sys2Proof.Machine

variable (s : State)

/-! ### READ RECORD, FIND SERIAL, FIND PLOT (R21, R22) -/

theorem State.recordContent_eq (n : Nat) :
    s.recordContent n = (s.record n).image ++ beBytes 2 (s.stored n).check.toNat
      ++ [match s.phaseAnywhere n with
          | some ph => ph.code
          | none => 0xFF#8] := by
  unfold State.recordContent
  cases s.phaseAnywhere n <;> rfl

theorem State.lookedUp_ok {n : Nat} (h : s.verifies n = true) (items : State → List Byte) :
    s.lookedUp n items = (s, { status := .ok, payload := items s }) := by
  simp [State.lookedUp, h, okReply]

theorem State.lookedUp_damaged {n : Nat} (h : s.verifies n = false) (items : State → List Byte) :
    s.lookedUp n items = (s.damage n, { status := .damaged, payload := items (s.damage n) }) := by
  simp [State.lookedUp, h]

/-- What a lookup reports of a damaged record: it holds neither plot nor serial any more (R166; log entry 29). -/
theorem State.foundItems_damage {n : Nat} (h : n < 480) :
    (s.damage n).foundItems n = beBytes 2 n ++ [RecState.damaged.code] ++ beBytes 1 ((s.damage n).record n).port := by
  rw [State.foundItems, (s.damage_record h).1]

theorem doReadRecord_ok {r : Half} (h : s.sound r) :
    doReadRecord r s = (s, { status := .ok, payload := s.recordContent r.toNat }) := by
  obtain ⟨hn, hv⟩ := h
  simp [doReadRecord, Nat.not_le.mpr hn, hv, okReply]

theorem doReadRecord_noSuchRecord {r : Half} (h : 480 ≤ r.toNat) :
    doReadRecord r s = (s, { status := .noSuchRecord, payload := [] }) := by
  simp [doReadRecord, Config.records, h, bare]

theorem doReadRecord_damaged {r : Half} (h : s.verifies r.toNat = false) :
    doReadRecord r s = (s.damage r.toNat, { status := .damaged, payload := (s.damage r.toNat).recordContent r.toNat }) := by
  have hn : ¬ Config.records ≤ r.toNat := Nat.not_le.mpr (s.lt_of_verifies_false h)
  simp [doReadRecord, hn, h]

theorem doFindSerial_held {x : Serial} {n : Nat} (h : mapGet s.serialIndex x.toNat = some n) :
    doFindSerial x s = s.lookedUp n (fun s => s.foundItems n ++ optionalItem 2 (s.record n).plot) := by
  simp [doFindSerial, h]

theorem doFindSerial_notHeld {x : Serial} (h : mapGet s.serialIndex x.toNat = none) :
    doFindSerial x s = (s, { status := .notFound, payload := s.notHeldItems x }) := by
  simp [doFindSerial, h]

theorem doFindPlot_held {plot : Half} {n : Nat} (h1 : 1 ≤ plot.toNat) (h2 : plot.toNat ≤ 9999)
    (h : mapGet s.plotIndex plot.toNat = some n) :
    doFindPlot plot s =
      s.lookedUp n (fun s => s.foundItems n ++ optionalItem 8 ((s.record n).serial.map BitVec.toNat)) := by
  simp [doFindPlot, plotOk, h1, h2, h]

/-- Settles O36: each read in each of its cases. -/
theorem readsShowTheRecord : Obligations.ReadsShowTheRecord := by
  intro l tag s hr
  refine ⟨fun r h => ?_, fun r h => ?_, ?_, ?_, ?_, fun x n h hv => ?_, fun x e h he => ?_, fun x h he => ?_,
    fun plot n h1 h2 h hv => ?_, fun plot h1 h2 h => ?_, fun plot h => ?_⟩
  · have hrun := doReadRecord_ok s h
    rw [State.recordContent_eq] at hrun
    exact exec_answered s hr tag (.readRecord r) hrun
  · exact exec_answered s hr tag (.readRecord r) (doReadRecord_noSuchRecord s h)
  · intro r u h hu
    rw [hu]
    have hrun := doReadRecord_damaged s h
    rw [State.recordContent_eq, s.damage_phaseAnywhere] at hrun
    exact exec_answered s hr tag (.readRecord r) hrun
  · intro x n u h hv hu
    rw [hu]
    have hn := s.lt_of_verifies_false hv
    obtain ⟨-, -, hplot, -⟩ := s.damage_record hn
    have hrun := (doFindSerial_held s h).trans (s.lookedUp_damaged hv _)
    rw [s.foundItems_damage hn, hplot] at hrun
    exact exec_answered s hr tag (.findSerial x) hrun
  · intro plot n u h1 h2 h hv hu
    rw [hu]
    have hn := s.lt_of_verifies_false hv
    obtain ⟨-, -, -, hserial⟩ := s.damage_record hn
    have hrun := (doFindPlot_held s h1 h2 h).trans (s.lookedUp_damaged hv _)
    rw [s.foundItems_damage hn, hserial] at hrun
    exact exec_answered s hr tag (.findPlot plot) hrun
  · exact exec_answered s hr tag (.findSerial x) ((doFindSerial_held s h).trans (s.lookedUp_ok hv _))
  · have hitems : s.notHeldItems x = [1#8] ++ beBytes 1 e.port ++ beBytes 1 e.sightings ++ beBytes 2 e.lastFrame := by
      simp [State.notHeldItems, he, flagByte]
    exact hitems ▸ exec_answered s hr tag (.findSerial x) (doFindSerial_notHeld s h)
  · have hitems : s.notHeldItems x = [0#8] := by
      simp [State.notHeldItems, he, flagByte]
    exact hitems ▸ exec_answered s hr tag (.findSerial x) (doFindSerial_notHeld s h)
  · exact exec_answered s hr tag (.findPlot plot) ((doFindPlot_held s h1 h2 h).trans (s.lookedUp_ok hv _))
  · exact exec_answered s hr tag (.findPlot plot) (by simp [runCommand, doFindPlot, plotOk, h1, h2, h, bare])
  · have hp : plotOk plot.toNat = false := by
      simp only [plotOk, decide_eq_false_iff_not]
      omega
    exact exec_answered s hr tag (.findPlot plot) (by simp [runCommand, doFindPlot, hp, bare])

/-! ### STRANGERS, PORT STATUS, DEVICE STATUS (R23, R58, R180) -/

theorem doPortStatus_host {p : Byte} (h : p.toNat < 4) :
    doPortStatus .host p s = (s.flag p.toNat (fun _ => Conditions.clear),
      { status := .ok, payload := (s.port p.toNat).statusBytes }) := by
  simp [doPortStatus, Config.ports, Nat.not_le.mpr h, okReply]

theorem doPortStatus_outOfRange {p : Byte} (h : 4 ≤ p.toNat) (l : Link) :
    doPortStatus l p s = (s, { status := .outOfRange, payload := [] }) := by
  simp [doPortStatus, Config.ports, h, bare]

theorem doPortStatus_craft {p : Byte} (h : p.toNat < 4) :
    doPortStatus .craft p s = (s, { status := .ok, payload := (s.port p.toNat).statusBytes }) := by
  simp [doPortStatus, Config.ports, Nat.not_le.mpr h, okReply]

/-- Settles O37: the payload of PORT STATUS written out, and the three reads. -/
theorem statusReadsAnswer : Obligations.StatusReadsAnswer := by
  intro l tag s status hr hstatus
  have hpayload : ∀ q : Port, status q = q.statusBytes := by
    intro q
    rw [hstatus]
    delta Port.statusBytes PortConfig.bytes
    simp only [Port.capturedCount, List.append_assoc]
    cases q.state <;> cases q.window <;> cases q.changeover.lastOffset <;> rfl
  refine ⟨?_, ?_, fun p hp hl => ?_, fun p hp hl => ?_, fun p hp => ?_⟩
  · exact exec_answered s hr tag .strangers rfl
  · exact exec_answered s hr tag .deviceStatus rfl
  · subst hl
    rw [hpayload]
    exact exec_answered s hr tag (.portStatus p) (doPortStatus_craft s hp)
  · subst hl
    rw [hpayload]
    exact exec_answered s hr tag (.portStatus p) (doPortStatus_host s hp)
  · exact exec_answered s hr tag (.portStatus p) (doPortStatus_outOfRange s hp l)

end Sys2Proof.Machine
end

section
/-! SILENCE MAP (R24): the runs it reports, and the scan that verifies what it reads (R163). -/

namespace Sys2Proof.Machine

variable (s : State)

/-! ### Runs -/

/-- The first run of a list starts at its first number. -/
theorem runsOf_cons_head (n : Nat) (ns : List Nat) : ∃ b rest, runsOf (n :: ns) = (n, b) :: rest := by
  simp only [runsOf]
  split
  · split
    · exact ⟨_, _, rfl⟩
    · exact ⟨_, _, rfl⟩
  · exact ⟨_, _, rfl⟩

/-- The items of a list of numbers spell it out, each rises, and a gap stands between one and the next. -/
structure RunsSpell (items : List (Nat × Nat)) (ns : List Nat) : Prop where
  flat : (items.map (fun i => List.range' i.1 (i.2 + 1 - i.1))).flatten = ns
  rise : ∀ i ∈ items, i.1 ≤ i.2
  gap : items.Pairwise (fun i j => i.2 + 1 < j.1)

/-- A number just below the first run extends it. -/
theorem RunsSpell.extend {n b : Nat} {rest : List (Nat × Nat)} {ns : List Nat} (h : RunsSpell ((n + 1, b) :: rest) ns) :
    RunsSpell ((n, b) :: rest) (n :: ns) := by
  obtain ⟨hflat, hle, hgap⟩ := h
  have hb : n + 1 ≤ b := hle _ List.mem_cons_self
  refine ⟨?_, fun i hi => ?_, List.pairwise_cons.mpr (List.pairwise_cons.mp hgap)⟩
  · obtain ⟨k, hk⟩ : ∃ k, b + 1 - n = k + 1 := ⟨b - n, by omega⟩
    have hk' : b + 1 - (n + 1) = k := by omega
    rw [← hflat]
    simp [hk, hk', List.range'_succ]
  · rcases List.mem_cons.mp hi with rfl | hi
    · exact Nat.le_of_succ_le hb
    · exact hle _ (List.mem_cons_of_mem _ hi)

/-- A number further below is a run of its own. -/
theorem RunsSpell.single {n : Nat} {items : List (Nat × Nat)} {ns : List Nat} (h : RunsSpell items ns)
    (hn : ∀ i ∈ items, n + 1 < i.1) : RunsSpell ((n, n) :: items) (n :: ns) := by
  obtain ⟨hflat, hle, hgap⟩ := h
  refine ⟨?_, fun i hi => ?_, List.pairwise_cons.mpr ⟨hn, hgap⟩⟩
  · rw [← hflat]
    simp
  · rcases List.mem_cons.mp hi with rfl | hi
    · exact Nat.le_refl _
    · exact hle _ hi

theorem runsOf_spell {ns : List Nat} (h : rising ns) : RunsSpell (runsOf ns) ns := by
  induction ns with
  | nil => exact ⟨rfl, nofun, .nil⟩
  | cons n ns ih =>
    obtain ⟨hlt, hns⟩ := List.pairwise_cons.mp h
    specialize ih hns
    cases ns with
    | nil => exact RunsSpell.single ih nofun
    | cons m ms =>
      obtain ⟨b, rest, hruns⟩ := runsOf_cons_head m ms
      have hstep : runsOf (n :: m :: ms) = if m = n + 1 then (n, b) :: rest else (n, n) :: (m, b) :: rest := by
        rw [runsOf, hruns]
      rw [hruns] at ih
      rw [hstep]
      split
      · next hm => exact RunsSpell.extend (hm ▸ ih)
      · next hm =>
        have hnm : n < m := hlt m List.mem_cons_self
        have hmb : m ≤ b := ih.rise _ List.mem_cons_self
        refine ih.single (fun i hi => ?_)
        rcases List.mem_cons.mp hi with rfl | hi
        · exact Nat.lt_of_le_of_ne hnm (Ne.symm hm)
        · have := List.rel_of_pairwise_cons ih.gap hi
          simp only at this
          omega

/-! ### The scan -/

theorem allRecords_nodup : allRecords.Nodup := List.nodup_range

/-- A scan handles as damage exactly the records that fail verification when it begins: damage handling of one leaves the others
verifying as they did (R163, R167). -/
theorem State.scan_eq (ns : List Nat) (h : ns.Nodup) :
    eachNumber State.verifyOrDamage ns s = (ns.filter (fun n => !s.verifies n)).foldl State.damage s := by
  induction ns generalizing s with
  | nil => rfl
  | cons n ns ih =>
    obtain ⟨hn, hns⟩ := List.nodup_cons.mp h
    rw [eachNumber_cons]
    cases hv : s.verifies n with
    | true => rw [s.verifyOrDamage_of_verifies hv, ih s hns, List.filter_cons_of_neg (by simp [hv])]
    | false =>
      have hsame : ns.filter (fun m => !(s.damage n).verifies m) = ns.filter (fun m => !s.verifies m) :=
        List.filter_congr (fun m hm => by rw [s.damage_verifies_ne (ne_of_mem_of_not_mem hm hn)])
      rw [s.verifyOrDamage_of_damaged hv, ih _ hns, hsame, List.filter_cons_of_pos (by simp [hv]), List.foldl_cons]

theorem State.silentFrom_eq (p first : Nat) :
    s.silentFrom p first = (List.range 480).filter (fun n => decide (first ≤ n)
      && ((s.record n).port == p && (s.record n).state != .vacant && (s.record n).state != .active)) := by
  rw [State.silentFrom, State.recordsWhere_eq, List.filter_filter]
  rfl

theorem silencePayload_eq (items : List (Nat × Nat)) :
    silencePayload items = ((items.take 32).map (fun i => beBytes 2 i.1 ++ beBytes 2 i.2)).flatten
      ++ [flagByte (decide (32 < items.length))] ++ optionalItem 2 ((items.drop 32).head?.map (fun i => i.1)) := by
  have hmore : (!(items.drop 32).isEmpty) = decide (32 < items.length) := by
    rw [Bool.eq_iff_iff]
    simp
  simp only [silencePayload, Config.silenceLimit, hmore]

theorem doSilenceMap_scan {b : Byte} {first : Half} (hp : b.toNat < 4) (hf : first.toNat < 480) :
    doSilenceMap b first s =
      (eachNumber State.verifyOrDamage (allRecords.filter (fun n => first.toNat ≤ n)) s,
        { status := .ok, payload := silencePayload (runsOf
          ((eachNumber State.verifyOrDamage (allRecords.filter (fun n => first.toNat ≤ n)) s).silentFrom b.toNat
            first.toNat)) }) := by
  simp [doSilenceMap, Config.ports, Config.records, Nat.not_le.mpr hp, Nat.not_le.mpr hf, okReply]

theorem doSilenceMap_outOfRange {b : Byte} (hp : 4 ≤ b.toNat) (first : Half) :
    doSilenceMap b first s = (s, { status := .outOfRange, payload := [] }) := by
  simp [doSilenceMap, Config.ports, hp, bare]

theorem doSilenceMap_noSuchRecord {b : Byte} {first : Half} (hp : b.toNat < 4) (hf : 480 ≤ first.toNat) :
    doSilenceMap b first s = (s, { status := .noSuchRecord, payload := [] }) := by
  simp [doSilenceMap, Config.ports, Config.records, Nat.not_le.mpr hp, hf, bare]

/-- Settles O38: the runs by induction on the list, the reply from the scan. -/
theorem silenceMapReportsMaximalRuns : Obligations.SilenceMapReportsMaximalRuns := by
  refine ⟨fun ns h => ⟨(runsOf_spell h).flat, (runsOf_spell h).rise, (runsOf_spell h).gap⟩,
    fun l tag p first s hr => ⟨fun hp => ?_, fun hp hf => ?_, fun u silent hp hf hu hs => ?_⟩⟩
  · exact exec_answered s hr tag (.silenceMap p first) (doSilenceMap_outOfRange s hp first)
  · exact exec_answered s hr tag (.silenceMap p first) (doSilenceMap_noSuchRecord s hp hf)
  · have hscan : eachNumber State.verifyOrDamage (allRecords.filter (fun n => first.toNat ≤ n)) s = u := by
      rw [s.scan_eq _ (allRecords_nodup.filter _), List.filter_filter, hu]
      simp only [Bool.and_comm]
      rfl
    have hrun := doSilenceMap_scan s hp hf
    rw [hscan, State.silentFrom_eq, ← hs, silencePayload_eq] at hrun
    exact exec_answered s hr tag (.silenceMap p first) hrun

end Sys2Proof.Machine
end

section
/-! SOFT RESET, first part (R26, R66, R80, R181): open windows are abandoned, the outbound queues emptied and the ports reset. -/

namespace Sys2Proof.Machine

variable (s : State)

/-- A record number above 479 reads as a VACANT record (R1). -/
theorem State.lt_of_state {n : Nat} (h : (s.record n).state ≠ .vacant) : n < 480 := by
  by_contra hn
  rw [State.record, s.stored_of_le (Nat.le_of_not_lt hn)] at h
  exact h rfl

/-! ### Abandonment in a soft reset (R66) -/

/-- `t` is `s` after some windows have been abandoned, as far as a soft reset sees it: records in RANGING may have gone back to NAMED,
and of a port only what the reset sets anyway is different. -/
structure State.Abandoned (s t : State) : Prop where
  same : s.sameOutside t
  verifies : ∀ n, t.verifies n = s.verifies n
  record : ∀ n, t.record n = s.record n ∨ (s.record n).state = .ranging ∧ t.record n = { s.record n with state := .named }
  kept : ∀ n ∈ s.changed, n ∈ t.changed
  gained : ∀ n ∈ t.changed, n ∈ s.changed ∨ (s.record n).state = .ranging
  reset : ∀ p < 4, (t.port p).softReset = (s.port p).softReset
  outbound : ∀ p < 4, (t.port p).outbound = (s.port p).outbound
  window : ∀ p < 4, (t.port p).window = none
    ∨ (t.port p).window = (s.port p).window ∧ (t.port p).activation = (s.port p).activation

theorem State.Abandoned.refl : s.Abandoned s where
  same := s.sameOutside_refl
  verifies _ := rfl
  record _ := .inl rfl
  kept _ h := h
  gained _ h := .inl h
  reset _ _ := rfl
  outbound _ _ := rfl
  window _ _ := .inr ⟨rfl, rfl⟩

variable {s}

/-- A change of a port that a soft reset undoes, and that leaves it without a window. -/
theorem State.Abandoned.modPort {t : State} (h : s.Abandoned t) {p : Nat} {f : Port → Port}
    (hreset : ∀ q, (f q).softReset = q.softReset) (hout : ∀ q, (f q).outbound = q.outbound)
    (hw : (f (t.port p)).window = none) : s.Abandoned (t.modPort p f) where
  same := h.same.trans (t.modPort_sameOutside p f)
  verifies := h.verifies
  record := h.record
  kept := h.kept
  gained := h.gained
  reset q hq := by
    by_cases hqp : q = p
    · subst hqp
      rw [t.modPort_port_self hq, hreset, h.reset q hq]
    · rw [t.modPort_port_ne hqp, h.reset q hq]
  outbound q hq := by
    by_cases hqp : q = p
    · subst hqp
      rw [t.modPort_port_self hq, hout, h.outbound q hq]
    · rw [t.modPort_port_ne hqp, h.outbound q hq]
  window q hq := by
    by_cases hqp : q = p
    · subst hqp
      exact .inl (by rw [t.modPort_port_self hq, hw])
    · rw [t.modPort_port_ne hqp]
      exact h.window q hq

/-- A record in RANGING goes back to NAMED. -/
theorem State.Abandoned.toNamed {t : State} (h : s.Abandoned t) {r : Nat} (hr : (s.record r).state = .ranging) :
    s.Abandoned (t.change r (fun c => { c with state := .named })) where
  same := h.same.trans (t.change_sameOutside r _)
  verifies n := (t.change_verifies r n _).trans (h.verifies n)
  record n := by
    by_cases hn : n = r
    · subst hn
      have hlt : n < 480 := s.lt_of_state (by simp [hr])
      rw [t.change_record_self hlt]
      rcases h.record n with hs | ⟨-, hs⟩
      · exact .inr ⟨hr, by rw [hs]⟩
      · exact .inr ⟨hr, by rw [hs]⟩
    · rw [State.record, t.change_stored_ne hn]
      exact h.record n
  kept n hn := mem_insertNumber.mpr (.inr (h.kept n hn))
  gained n hn := by
    rcases mem_insertNumber.mp hn with rfl | hn
    · exact .inr hr
    · exact h.gained n hn
  reset := h.reset
  outbound := h.outbound
  window := h.window

/-- An open ECHO window awaits a record in RANGING (R116). -/
def State.echoesRange (s : State) : Prop :=
  ∀ p w r, p < 4 → (s.port p).window = some w → w.kind = .echo → w.target = some r →
    s.phaseOf p r = some .echoOpen → (s.record r).state = .ranging

theorem State.Abandoned.dropWindow {t : State} (h : s.Abandoned t) (p : Nat) : s.Abandoned (t.dropWindow p) :=
  h.modPort (fun _ => rfl) (fun _ => rfl) rfl

theorem State.Abandoned.abandon {t : State} (hs : s.echoesRange) (h : s.Abandoned t) {p : Nat} (hp : p < 4) :
    s.Abandoned (t.abandon p) := by
  cases hw : (t.port p).window with
  | none => rwa [t.abandon_none hw]
  | some w =>
    obtain ⟨hwin, hact⟩ : (t.port p).window = (s.port p).window ∧ (t.port p).activation = (s.port p).activation := by
      rcases h.window p hp with hnone | hsame
      · rw [hw] at hnone
        cases hnone
      · exact hsame
    have hd := h.dropWindow p
    have hnone : ((t.dropWindow p).port p).window = none := by
      rw [State.dropWindow, t.modPort_port_self hp]
    have hphase : ∀ r, (t.dropWindow p).phaseOf p r = s.phaseOf p r := by
      intro r
      rw [State.phaseOf, State.dropWindow, t.modPort_port_self hp, hact, State.phaseOf]
    rw [t.abandon_some hw]
    unfold State.abandonOwner
    split
    · exact hd.modPort (fun _ => rfl) (fun _ => rfl) hnone
    · next r hk ht =>
      split
      · next hopen =>
        rw [hphase] at hopen
        have hsw : (s.port p).window = some w := by
          rw [← hwin, hw]
        have hset : s.Abandoned ((t.dropWindow p).setPhase p r .awaitEcho) :=
          hd.modPort (fun _ => rfl) (fun _ => rfl) hnone
        exact hset.toNamed (hs p w r hp hsw hk ht hopen)
      · exact hd
    · split
      · exact hd.modPort (fun _ => rfl) (fun _ => rfl) hnone
      · exact hd
    · exact hd.modPort (fun _ => rfl) (fun _ => rfl) hnone
    · exact hd

theorem State.abandoned_all (hs : s.echoesRange) : s.Abandoned (eachNumber State.abandon allPorts s) :=
  eachNumber_keeps (P := fun t => s.Abandoned t) (fun _ _ hp h => h.abandon hs (mem_allPorts.mp hp)) (State.Abandoned.refl s)

variable (s)

/-! ### The outbound queues emptied (R80) -/

theorem State.discard_stored_ne {d : Descriptor} {n : Nat} (h : d.names ≠ some n) : (s.discard d).stored n = s.stored n := by
  cases d with
  | release => rfl
  | name r | setDelay r | level r | openDrop r | shut r =>
    exact s.modRecord_stored_ne (fun hn => h (by rw [hn]; rfl)) _

/-- A record whose descriptors `ds` are discarded counts them no longer, and takes the delay sync of R80 where its SET DELAY was one. -/
def Record.afterDiscard (c : Record) (count : Nat) (setDelay : Bool) : Record :=
  { c with
    outstanding := c.outstanding - count
    delaySync := if setDelay then c.queueEmptied else c.delaySync }

theorem Record.afterDiscard_zero (c : Record) : c.afterDiscard 0 false = c := rfl

/-- Discarding on and on only adds up. -/
theorem Record.afterDiscard_afterDiscard (c : Record) (k k' : Nat) (b b' : Bool) :
    (c.afterDiscard k b).afterDiscard k' b' = c.afterDiscard (k + k') (b || b') := by
  cases b <;> cases b' <;> simp [Record.afterDiscard, Record.queueEmptied, Nat.sub_sub]

theorem State.discard_record {n : Nat} (hn : n < 480) (d : Descriptor) :
    (s.discard d).record n = (s.record n).afterDiscard (countNaming [d] n) (d.isSetDelayOf n) := by
  by_cases h : d.names = some n
  · cases d with
    | release => cases h
    | name r | setDelay r | level r | openDrop r | shut r =>
      cases h
      refine (s.modRecord_record_self hn _).trans ?_
      simp [Record.afterDiscard, countNaming, Descriptor.names, Descriptor.isSetDelayOf, Record.queueEmptied]
  · have hs : d.isSetDelayOf n = false := by
      rw [Descriptor.isSetDelayOf, beq_eq_false_iff_ne]
      rintro rfl
      exact h rfl
    have hc : countNaming [d] n = 0 := by simp [countNaming, h]
    rw [hs, hc, Record.afterDiscard_zero, State.record, s.discard_stored_ne h, State.record]

theorem State.discards_record {n : Nat} (hn : n < 480) (ds : List Descriptor) :
    (ds.foldl State.discard s).record n =
      (s.record n).afterDiscard (countNaming ds n) (ds.any (fun d => d.isSetDelayOf n)) := by
  induction ds generalizing s with
  | nil => rfl
  | cons d ds ih =>
    have hcount : countNaming (d :: ds) n = countNaming [d] n + countNaming ds n := by
      simp [countNaming, List.countP_cons, Nat.add_comm]
    rw [List.foldl_cons, ih, s.discard_record hn, Record.afterDiscard_afterDiscard, List.any_cons, hcount]

/-- `t` is `s` but for the counts and delay syncs of records: what discarding descriptors leaves alone (R80). -/
structure State.CountsOnly (s t : State) : Prop where
  ports : t.ports = s.ports
  changed : t.changed = s.changed
  same : s.sameOutside t
  verifies : ∀ n, t.verifies n = s.verifies n

theorem State.discard_countsOnly (d : Descriptor) : s.CountsOnly (s.discard d) := by
  cases d with
  | release => exact ⟨rfl, rfl, rfl, fun _ => rfl⟩
  | name r | setDelay r | level r | openDrop r | shut r =>
    exact ⟨rfl, rfl, rfl, fun n => s.modRecord_verifies r n _⟩

theorem State.discards_countsOnly (ds : List Descriptor) : s.CountsOnly (ds.foldl State.discard s) := by
  induction ds generalizing s with
  | nil => exact ⟨rfl, rfl, rfl, fun _ => rfl⟩
  | cons d ds ih =>
    have h := s.discard_countsOnly d
    have h' := ih (s.discard d)
    exact ⟨h'.ports.trans h.ports, h'.changed.trans h.changed, h.same.trans h'.same,
      fun n => (h'.verifies n).trans (h.verifies n)⟩

end Sys2Proof.Machine
end

section
/-! SOFT RESET, second part (R26, R30, R82): the part once its windows, queues and ports are quiet, and the registry record by record. -/

namespace Sys2Proof.Machine

variable (s : State)

/-! ### The outbound queues emptied (R80) -/

theorem State.emptyOutbound_record {n : Nat} (hn : n < 480) (p : Nat) :
    (s.emptyOutbound p).record n =
      (s.record n).afterDiscard (s.queuedNaming [p] n) (s.setDelayQueued [p] n) := by
  rw [State.emptyOutbound, State.modPort_record, s.discards_record hn]
  simp [State.queuedNaming, State.setDelayQueued]

theorem State.emptyOutbound_port_ne {p q : Nat} (h : q ≠ p) : (s.emptyOutbound p).port q = s.port q := by
  rw [State.emptyOutbound, State.modPort_port_ne _ h, State.port, (s.discards_countsOnly _).ports, State.port]

/-- A port reset afterwards need not have its queue emptied first (R82). -/
theorem State.emptyOutbound_softReset (p : Nat) {q : Nat} (hq : q < 4) :
    ((s.emptyOutbound p).port q).softReset = (s.port q).softReset := by
  by_cases h : q = p
  · subst h
    rw [State.emptyOutbound, State.modPort_port_self _ hq, State.port, (s.discards_countsOnly _).ports]
    rfl
  · rw [s.emptyOutbound_port_ne h]

theorem State.emptyOutbound_changed (p : Nat) : (s.emptyOutbound p).changed = s.changed := (s.discards_countsOnly _).changed

theorem State.emptyOutbound_sameOutside (p : Nat) : s.sameOutside (s.emptyOutbound p) :=
  (s.discards_countsOnly _).same.trans (State.modPort_sameOutside _ _ _)

theorem State.emptyOutbound_verifies (p n : Nat) : (s.emptyOutbound p).verifies n = s.verifies n :=
  (s.discards_countsOnly _).verifies n

/-- The queues of several ports emptied: a record loses all that named it there. -/
theorem State.emptyOutbounds_record {n : Nat} (hn : n < 480) {ps : List Nat} (hps : ps.Nodup) :
    (eachNumber State.emptyOutbound ps s).record n =
      (s.record n).afterDiscard (s.queuedNaming ps n) (s.setDelayQueued ps n) := by
  induction ps generalizing s with
  | nil => rfl
  | cons p ps ih =>
    obtain ⟨hp, hps⟩ := List.nodup_cons.mp hps
    have hport : ∀ q ∈ ps, (s.emptyOutbound p).port q = s.port q :=
      fun q hq => s.emptyOutbound_port_ne (ne_of_mem_of_not_mem hq hp)
    have hcount : (s.emptyOutbound p).queuedNaming ps n = s.queuedNaming ps n := by
      rw [State.queuedNaming, State.queuedNaming, List.map_congr_left (fun q hq => by rw [hport q hq])]
    have hdelay : (s.emptyOutbound p).setDelayQueued ps n = s.setDelayQueued ps n := by
      rw [State.setDelayQueued, State.setDelayQueued, Bool.eq_iff_iff, List.any_eq_true, List.any_eq_true]
      exact exists_congr fun q => and_congr_right fun hq => by rw [hport q hq]
    rw [eachNumber_cons, ih _ hps, s.emptyOutbound_record hn, Record.afterDiscard_afterDiscard, hcount, hdelay]
    simp [State.queuedNaming, State.setDelayQueued]

/-! ### Windows, queues and ports quiet -/

/-- A soft reset before it turns to the registry: windows abandoned, queues emptied, ports reset. -/
def State.quieted (s : State) : State :=
  eachNumber (fun s p => s.modPort p Port.softReset) allPorts
    (eachNumber State.emptyOutbound allPorts (eachNumber State.abandon allPorts s))

theorem allPorts_nodup : allPorts.Nodup := by decide

variable {s}

theorem State.quieted_port (hs : s.echoesRange) {p : Nat} (hp : p < 4) : s.quieted.port p = (s.port p).softReset := by
  rw [State.quieted, State.modAllPorts_port _ hp]
  refine (eachNumber_keeps (P := fun t => (t.port p).softReset = (s.port p).softReset) (fun t q _ ht => ?_) ?_)
  · exact (t.emptyOutbound_softReset q hp).trans ht
  · exact (State.abandoned_all hs).reset p hp

/-- Before the registry's part of a soft reset a record has lost its descriptors, and may be back from RANGING to NAMED. -/
theorem State.quieted_record (hs : s.echoesRange) {n : Nat} (hn : n < 480) :
    ∃ c, (c = s.record n ∨ (s.record n).state = .ranging ∧ c = { s.record n with state := .named })
      ∧ s.quieted.record n = c.afterDiscard (s.queuedNaming allPorts n) (s.setDelayQueued allPorts n) := by
  have ha := State.abandoned_all hs
  refine ⟨_, ha.record n, ?_⟩
  have hrec : s.quieted.record n = (eachNumber State.emptyOutbound allPorts (eachNumber State.abandon allPorts s)).record n :=
    eachNumber_field (fun t => t.record n) (f := fun t p => t.modPort p Port.softReset) (fun _ _ _ => rfl) _
  have hcount : (eachNumber State.abandon allPorts s).queuedNaming allPorts n = s.queuedNaming allPorts n := by
    rw [State.queuedNaming, State.queuedNaming,
      List.map_congr_left (fun q hq => by rw [ha.outbound q (mem_allPorts.mp hq)])]
  have hdelay : (eachNumber State.abandon allPorts s).setDelayQueued allPorts n = s.setDelayQueued allPorts n := by
    rw [State.setDelayQueued, State.setDelayQueued, Bool.eq_iff_iff, List.any_eq_true, List.any_eq_true]
    exact exists_congr fun q => and_congr_right fun hq => by rw [ha.outbound q (mem_allPorts.mp hq)]
  rw [hrec, State.emptyOutbounds_record _ hn allPorts_nodup, hcount, hdelay]

theorem State.quieted_verifies (hs : s.echoesRange) (n : Nat) : s.quieted.verifies n = s.verifies n := by
  rw [State.quieted, eachNumber_field (fun t => t.verifies n) (f := fun t p => t.modPort p Port.softReset) (fun _ _ _ => rfl),
    eachNumber_field (fun t => t.verifies n) (fun t p _ => t.emptyOutbound_verifies p n)]
  exact (State.abandoned_all hs).verifies n

theorem State.quieted_changed (s : State) :
    s.quieted.changed = (eachNumber State.abandon allPorts s).changed := by
  rw [State.quieted, eachNumber_field State.changed (f := fun t p => t.modPort p Port.softReset) (fun _ _ _ => rfl),
    eachNumber_field State.changed (fun t p _ => t.emptyOutbound_changed p)]

theorem State.quieted_sameOutside (hs : s.echoesRange) : s.sameOutside s.quieted :=
  ((State.abandoned_all hs).same.trans (eachNumber_sameOutside _ (fun t p => t.emptyOutbound_sameOutside p) _)).trans
    (eachNumber_sameOutside _ (fun t p => t.modPort_sameOutside p _) _)

variable (s)

/-! ### Descriptors offered one after another, drop ids given up one after another -/

theorem Port.offered_offered (q : Port) (ds es : List Descriptor) : (q.offered ds).offered es = q.offered (ds ++ es) := by
  have hlen : 64 - (q.outbound.length + min (64 - q.outbound.length) ds.length)
      = 64 - q.outbound.length - ds.length := by omega
  have hover : (decide (64 - q.outbound.length < ds.length) || decide (64 - q.outbound.length - ds.length < es.length))
      = decide (64 - q.outbound.length < ds.length + es.length) := by
    rw [Bool.eq_iff_iff, Bool.or_eq_true, decide_eq_true_eq, decide_eq_true_eq, decide_eq_true_eq]
    omega
  simp [Port.offered, Config.outboundLimit, hlen, List.take_append, Bool.or_assoc]
  exact congrArg _ hover

theorem mapGet_erased (m : NumMap) (ds : List Nat) (d : Nat) :
    mapGet (ds.foldl mapErase m) d = if d ∈ ds then none else mapGet m d := by
  induction ds generalizing m with
  | nil => rfl
  | cons e ds ih =>
    rw [List.foldl_cons, ih]
    by_cases hd : d ∈ ds
    · simp [hd]
    · by_cases he : d = e
      · simp [he, mapGet_mapErase_self]
      · simp [hd, he, mapGet_mapErase_ne m he]

/-! ### The registry record by record (R26) -/

theorem State.softResetRecord_activating {r : Nat} (hv : s.verifies r = true) (ha : (s.record r).state.activating = true) :
    s.softResetRecord r = (s.releaseHeld r).change r Record.softReset := by
  simp [State.softResetRecord, hv, ha]

theorem State.softResetRecord_other {r : Nat} (hv : s.verifies r = true) (ha : (s.record r).state.activating = false) :
    s.softResetRecord r = s.modRecord r Record.softReset := by
  simp [State.softResetRecord, hv, ha]

/-- What a soft reset of one record does to the registry, the changed set and what it leaves alone. -/
theorem State.softResetRecord_registry {r : Nat} (hr : r < 480) (hv : s.verifies r = true) :
    (s.softResetRecord r).record r = (s.record r).softReset
      ∧ (∀ n, n ≠ r → (s.softResetRecord r).record n = s.record n)
      ∧ (∀ n, (s.softResetRecord r).verifies n = s.verifies n)
      ∧ (∀ n, n ∈ (s.softResetRecord r).changed ↔ n ∈ s.changed ∨ (n = r ∧ (s.record r).state.activating = true))
      ∧ s.sameOutside (s.softResetRecord r) := by
  cases ha : (s.record r).state.activating with
  | true =>
    have hrec : ∀ n, (s.releaseHeld r).record n = s.record n := fun n => by
      rw [State.record, State.stored_congr (s.releaseHeld_records r), State.record]
    rw [s.softResetRecord_activating hv ha]
    refine ⟨?_, fun n hn => ?_, fun n => ?_, fun n => ?_, (s.releaseHeld_sameOutside r).trans (State.change_sameOutside _ r _)⟩
    · rw [State.change_record_self _ hr, hrec]
    · rw [State.record, State.change_stored_ne _ hn]
      exact hrec n
    · rw [State.change_verifies, State.verifies, State.stored_congr (s.releaseHeld_records r), State.verifies]
    · rw [State.change_changed, mem_insertNumber, s.releaseHeld_changed, and_iff_left rfl, or_comm]
  | false =>
    rw [s.softResetRecord_other hv ha]
    refine ⟨s.modRecord_record_self hr _, fun n hn => ?_, fun n => s.modRecord_verifies r n _, fun n => ?_,
      s.modRecord_sameOutside r _⟩
    · rw [State.record, s.modRecord_stored_ne hn, State.record]
    · simp

/-- The drop ids that the records `rs` under activation hold on port `p`. -/
def State.idsHeld (s : State) (p : Nat) (rs : List Nat) : List Nat :=
  (rs.filter (fun r => (s.record r).state.activating && (s.record r).port == p && (s.record r).dropId != 0)).map
    (fun r => (s.record r).dropId)

theorem State.idsHeld_cons (p r : Nat) (rs : List Nat) : s.idsHeld p (r :: rs) = s.idsHeld p [r] ++ s.idsHeld p rs := by
  rw [State.idsHeld, State.idsHeld, State.idsHeld, ← List.map_append, ← List.filter_append, List.singleton_append]

/-- A port that gives up drop ids: a RELEASE offered for each, and each out of the map (R30). -/
def Port.givingUp (q : Port) (p : Nat) (ds : List Nat) : Port :=
  { q.offered (ds.map (Descriptor.release p)) with dropMap := ds.foldl mapErase q.dropMap }

theorem Port.givingUp_givingUp (q : Port) (p : Nat) (ds es : List Nat) :
    (q.givingUp p ds).givingUp p es = q.givingUp p (ds ++ es) := by
  have h := q.offered_offered (ds.map (Descriptor.release p)) (es.map (Descriptor.release p))
  simp only [Port.givingUp, List.map_append, List.foldl_append, ← h]
  rfl

theorem Port.givingUp_nil (q : Port) (p : Nat) : q.givingUp p [] = q := by
  simp [Port.givingUp, Port.offered_nil]

theorem State.softResetRecord_port {p r : Nat} (hp : p < 4) (hv : s.verifies r = true) :
    (s.softResetRecord r).port p = (s.port p).givingUp p (s.idsHeld p [r]) := by
  cases ha : (s.record r).state.activating with
  | true =>
    rw [s.softResetRecord_activating hv ha, State.change_port, s.releaseHeld_port hp]
    by_cases h : p = (s.record r).port ∧ (s.record r).dropId ≠ 0
    · obtain ⟨rfl, hd⟩ := h
      simp [State.idsHeld, ha, hd, Port.givingUp]
    · have hids : s.idsHeld p [r] = [] := by
        simp only [State.idsHeld, List.map_eq_nil_iff, List.filter_eq_nil_iff, List.forall_mem_singleton, ha,
          Bool.and_eq_true, beq_iff_eq, bne_iff_ne, true_and]
        exact fun hc => h ⟨hc.1.symm, hc.2⟩
      simp [h, hids, Port.givingUp_nil, Port.offered_nil]
  | false =>
    have hids : s.idsHeld p [r] = [] := by simp [State.idsHeld, ha]
    rw [s.softResetRecord_other hv ha, hids, Port.givingUp_nil]
    rfl

/-- `t` is `s` once a soft reset has gone over the records `rs`: each is reset, and a port gives up the drop ids that those under
activation hold. -/
structure State.RegistryReset (s : State) (rs : List Nat) (t : State) : Prop where
  record : ∀ n, t.record n = if n ∈ rs then (s.record n).softReset else s.record n
  verifies : ∀ n, t.verifies n = s.verifies n
  changed : ∀ n, n ∈ t.changed ↔ n ∈ s.changed ∨ (n ∈ rs ∧ (s.record n).state.activating = true)
  same : s.sameOutside t
  port : ∀ p < 4, t.port p = (s.port p).givingUp p (s.idsHeld p rs)

/-- The registry's part of a soft reset over records that all verify. -/
theorem State.softResetRecords {rs : List Nat} (hrs : rs.Nodup) (hlt : ∀ r ∈ rs, r < 480)
    (hv : ∀ r ∈ rs, s.verifies r = true) :
    s.RegistryReset rs (eachNumber State.softResetRecord rs s) := by
  induction rs generalizing s with
  | nil =>
    exact ⟨fun n => by simp, fun n => rfl, fun n => by simp, s.sameOutside_refl, fun p _ => (Port.givingUp_nil _ p).symm⟩
  | cons r rs ih =>
    obtain ⟨hr, hrs⟩ := List.nodup_cons.mp hrs
    obtain ⟨hself, hother, hver, hchanged, hsame⟩ :=
      s.softResetRecord_registry (hlt r List.mem_cons_self) (hv r List.mem_cons_self)
    obtain ⟨ihrec, ihver, ihchanged, ihsame, ihport⟩ := ih (s.softResetRecord r) hrs
      (fun n hn => hlt n (List.mem_cons_of_mem _ hn))
      (fun n hn => (hver n).trans (hv n (List.mem_cons_of_mem _ hn)))
    have hne : ∀ n ∈ rs, n ≠ r := fun n hn => ne_of_mem_of_not_mem hn hr
    rw [eachNumber_cons]
    refine ⟨fun n => ?_, fun n => (ihver n).trans (hver n), fun n => ?_, hsame.trans ihsame, fun p hp => ?_⟩
    · rw [ihrec]
      by_cases hn : n = r
      · subst hn
        simp [hr, hself]
      · simp [hn, hother n hn]
    · rw [ihchanged, hchanged]
      by_cases hn : n = r
      · subst hn
        simp [hr]
      · simp [hn, hother n hn]
    · have hids : (s.softResetRecord r).idsHeld p rs = s.idsHeld p rs := by
        have hrec : ∀ n ∈ rs, (s.softResetRecord r).record n = s.record n := fun n hn => hother n (hne n hn)
        unfold State.idsHeld
        rw [List.filter_congr (fun n hn => by rw [hrec n hn])]
        exact List.map_congr_left (fun n hn => by rw [hrec n (List.mem_of_mem_filter hn)])
      rw [ihport p hp, s.softResetRecord_port hp (hv r List.mem_cons_self), Port.givingUp_givingUp, hids, ← s.idsHeld_cons]

end Sys2Proof.Machine
end

section
/-! SOFT RESET, third part (R79, R82): SET DELAY queued for the WAITING records of every port. -/

namespace Sys2Proof.Machine

variable (s : State)

/-! ### One SET DELAY (R79) -/

theorem State.setDelayQueued_false_iff {r : Nat} :
    s.setDelayQueued allPorts r = false ↔ ∀ p < 4, Descriptor.setDelay r ∉ (s.port p).outbound := by
  simp [State.setDelayQueued, List.any_eq_false, mem_allPorts, Descriptor.isSetDelayOf]

/-- A record whose SET DELAY is queued: one descriptor more names it (R77, R79). -/
def Record.served (c : Record) : Record := { c with outstanding := c.outstanding + 1, delaySync := .queued }

/-- The SET DELAY of record `r` joins the queue of port `p` (R79). -/
def State.serve (s : State) (p r : Nat) : State :=
  (s.push p (.setDelay r)).modRecord r (fun c => { c with delaySync := .queued })

theorem State.serve_port_self {p : Nat} (hp : p < 4) (r : Nat) :
    (s.serve p r).port p = { s.port p with outbound := (s.port p).outbound ++ [.setDelay r] } := by
  rw [State.serve, State.modRecord_port, s.push_port, State.modPort_port_self _ hp]

theorem State.serve_port_ne {p q : Nat} (h : q ≠ p) (r : Nat) : (s.serve p r).port q = s.port q := by
  rw [State.serve, State.modRecord_port, s.push_port, State.modPort_port_ne _ h]

theorem State.serve_record_self {r : Nat} (hr : r < 480) (p : Nat) : (s.serve p r).record r = (s.record r).served := by
  rw [State.serve, State.modRecord_record_self _ hr, s.push_names rfl, State.modRecord_record_self _ hr]
  rfl

theorem State.serve_record_ne {n r : Nat} (h : n ≠ r) (p : Nat) : (s.serve p r).record n = s.record n := by
  rw [State.record, State.serve, State.modRecord_stored_ne _ h, s.push_names rfl, State.modRecord_stored_ne _ h]
  rfl

theorem State.serve_verifies (p r n : Nat) : (s.serve p r).verifies n = s.verifies n := by
  rw [State.serve, State.modRecord_verifies, State.push_verifies]

theorem State.serve_changed (p r : Nat) : (s.serve p r).changed = s.changed := by
  rw [State.serve, State.modRecord_changed, State.push_changed]

theorem State.serve_sameOutside (p r : Nat) : s.sameOutside (s.serve p r) :=
  (s.push_sameOutside p _).trans (State.modRecord_sameOutside _ r _)

/-! ### What serving some records of one port leaves -/

/-- `t` is `s` once the SET DELAYs of the records `ns` have joined the queue of port `p` (R79). -/
structure State.Served (s : State) (p : Nat) (ns : List Nat) (t : State) : Prop where
  port_self : t.port p = { s.port p with outbound := (s.port p).outbound ++ ns.map .setDelay }
  port_ne : ∀ q, q ≠ p → t.port q = s.port q
  record : ∀ n, t.record n = if n ∈ ns then (s.record n).served else s.record n
  verifies : ∀ n, t.verifies n = s.verifies n
  changed : t.changed = s.changed
  same : s.sameOutside t

theorem State.Served.none (p : Nat) : s.Served p [] s where
  port_self := by simp
  port_ne _ _ := rfl
  record n := by simp
  verifies _ := rfl
  changed := rfl
  same := s.sameOutside_refl

variable {s}

theorem State.Served.cons {p r : Nat} {ns : List Nat} {t : State} (hp : p < 4) (hr : r < 480) (hn : r ∉ ns)
    (h : (s.serve p r).Served p ns t) : s.Served p (r :: ns) t where
  port_self := by
    rw [h.port_self, s.serve_port_self hp]
    simp
  port_ne q hq := (h.port_ne q hq).trans (s.serve_port_ne hq r)
  record n := by
    rw [h.record]
    by_cases hnr : n = r
    · subst hnr
      simp [hn, s.serve_record_self hr]
    · simp [hnr, s.serve_record_ne hnr]
  verifies n := (h.verifies n).trans (s.serve_verifies p r n)
  changed := h.changed.trans (s.serve_changed p r)
  same := (s.serve_sameOutside p r).trans h.same

variable (s)

/-- Records without a queued SET DELAY are served in their order while there is room (R79). -/
theorem State.queueSetDelays {p : Nat} (hp : p < 4) {ns : List Nat} (hns : ns.Nodup) (hlt : ∀ r ∈ ns, r < 480)
    (hfree : ∀ r ∈ ns, s.setDelayQueued allPorts r = false) :
    s.Served p (ns.take (64 - (s.port p).outbound.length)) (eachNumber (fun s r => s.queueSetDelay p r) ns s) := by
  induction ns generalizing s with
  | nil => simpa using State.Served.none s p
  | cons r ns ih =>
    obtain ⟨hr, hns⟩ := List.nodup_cons.mp hns
    have hlt' : ∀ n ∈ ns, n < 480 := fun n hn => hlt n (List.mem_cons_of_mem _ hn)
    have hfree' : ∀ n ∈ ns, s.setDelayQueued allPorts n = false := fun n hn => hfree n (List.mem_cons_of_mem _ hn)
    rw [eachNumber_cons]
    by_cases hroom : (s.port p).outbound.length < 64
    · have hstep : s.queueSetDelay p r = s.serve p r := s.queueSetDelay_room hroom (hfree r List.mem_cons_self)
      have hlen : 64 - (s.port p).outbound.length = (64 - ((s.serve p r).port p).outbound.length) + 1 := by
        rw [s.serve_port_self hp, List.length_append, List.length_singleton]
        omega
      have hstill : ∀ n ∈ ns, (s.serve p r).setDelayQueued allPorts n = false := by
        intro n hn
        have hnr : n ≠ r := ne_of_mem_of_not_mem hn hr
        rw [State.setDelayQueued_false_iff]
        intro q hq
        have hs := s.setDelayQueued_false_iff.mp (hfree' n hn) q hq
        by_cases hqp : q = p
        · subst hqp
          rw [s.serve_port_self hp]
          simpa [hnr] using hs
        · rwa [s.serve_port_ne hqp]
      rw [hstep, hlen, List.take_succ_cons]
      exact (ih _ hns hlt' hstill).cons hp (hlt r List.mem_cons_self) (fun hm => hr (List.mem_of_mem_take hm))
    · have hfull : 64 - (s.port p).outbound.length = 0 := by omega
      have hstep : s.queueSetDelay p r = s := s.queueSetDelay_none (.inl (Nat.le_of_not_lt hroom))
      have h := ih s hns hlt' hfree'
      rw [hstep]
      rw [hfull, List.take_zero] at h ⊢
      exact h

/-! ### Every port (R79) -/

/-- No WAITING record has a SET DELAY queued. -/
def State.waitersFree (s : State) : Prop :=
  ∀ r, (s.record r).delaySync = .waiting → s.setDelayQueued allPorts r = false

/-- The WAITING records of a port that its queue has room for, lowest first (R79). -/
def State.servedOn (s : State) (p : Nat) : List Nat := (s.waiting p).take (64 - (s.port p).outbound.length)

theorem State.mem_waiting {p n : Nat} :
    n ∈ s.waiting p ↔ n < 480 ∧ (s.record n).port = p ∧ (s.record n).delaySync = .waiting := by
  rw [State.waiting, State.mem_recordsWhere]
  simp

/-- A record that is served waits on its port. -/
theorem State.waiting_of_servedOn {p n : Nat} (h : n ∈ s.servedOn p) :
    (s.record n).port = p ∧ (s.record n).delaySync = .waiting :=
  (s.mem_waiting.mp (List.mem_of_mem_take h)).2

theorem State.waiting_nodup (p : Nat) : (s.waiting p).Nodup := by
  rw [State.waiting, State.recordsWhere_eq]
  exact List.nodup_range.filter _

theorem State.fillSetDelay_served (h : s.waitersFree) {p : Nat} (hp : p < 4) :
    s.Served p (s.servedOn p) (s.fillSetDelay p) :=
  s.queueSetDelays hp (s.waiting_nodup p) (fun _ hr => (s.mem_waiting.mp hr).1)
    (fun r hr => by
      obtain ⟨-, -, hw⟩ := s.mem_waiting.mp hr
      exact h r hw)

theorem State.fillSetDelay_waitersFree (h : s.waitersFree) {p : Nat} (hp : p < 4) : (s.fillSetDelay p).waitersFree := by
  have hf := s.fillSetDelay_served h hp
  intro r hr
  have hn : r ∉ s.servedOn p := by
    intro hm
    rw [hf.record, if_pos hm] at hr
    cases hr
  rw [hf.record, if_neg hn] at hr
  have hs := s.setDelayQueued_false_iff.mp (h r hr)
  rw [State.setDelayQueued_false_iff]
  intro q hq
  by_cases hqp : q = p
  · subst hqp
    rw [hf.port_self]
    simpa [hn] using hs q hq
  · rw [hf.port_ne q hqp]
    exact hs q hq

/-- Serving one port leaves the others' WAITING records as they are. -/
theorem State.Served.servedOn_ne {p q : Nat} {t : State} (h : s.Served p (s.servedOn p) t) (hq : q ≠ p) :
    t.servedOn q = s.servedOn q := by
  have hw : t.waiting q = s.waiting q := by
    rw [State.waiting, State.recordsWhere_eq, State.waiting, State.recordsWhere_eq]
    refine List.filter_congr (fun n _ => ?_)
    rw [h.record]
    split
    · next hm =>
      have hp := (s.waiting_of_servedOn hm).1
      have hne : ((s.record n).port == q) = false := by
        rw [beq_eq_false_iff_ne, hp]
        exact hq.symm
      have hne' : ((s.record n).served.port == q) = false := hne
      rw [hne, hne']
      rfl
    · rfl
  rw [State.servedOn, State.servedOn, hw, h.port_ne q hq]

/-- `t` is `s` once the ports `ps` have been served: each queue takes what it has room for, and a record is served on its own port. -/
structure State.Filled (s : State) (ps : List Nat) (t : State) : Prop where
  port : ∀ p, t.port p =
    if p ∈ ps then { s.port p with outbound := (s.port p).outbound ++ (s.servedOn p).map .setDelay } else s.port p
  record : ∀ n, t.record n =
    if (s.record n).port ∈ ps ∧ n ∈ s.servedOn (s.record n).port then (s.record n).served else s.record n
  verifies : ∀ n, t.verifies n = s.verifies n
  changed : t.changed = s.changed
  same : s.sameOutside t

theorem State.fillSetDelays (h : s.waitersFree) {ps : List Nat} (hps : ps.Nodup) (hlt : ∀ p ∈ ps, p < 4) :
    s.Filled ps (eachNumber State.fillSetDelay ps s) := by
  induction ps generalizing s with
  | nil => exact ⟨fun p => by simp, fun n => by simp, fun _ => rfl, rfl, s.sameOutside_refl⟩
  | cons p ps ih =>
    obtain ⟨hp, hps⟩ := List.nodup_cons.mp hps
    have hp4 := hlt p List.mem_cons_self
    have hf := s.fillSetDelay_served h hp4
    obtain ⟨ihport, ihrec, ihver, ihchanged, ihsame⟩ :=
      ih (s.fillSetDelay p) (s.fillSetDelay_waitersFree h hp4) hps (fun q hq => hlt q (List.mem_cons_of_mem _ hq))
    rw [eachNumber_cons]
    refine ⟨fun q => ?_, fun n => ?_, fun n => (ihver n).trans (hf.verifies n), ihchanged.trans hf.changed,
      hf.same.trans ihsame⟩
    · rw [ihport]
      by_cases hqp : q = p
      · subst hqp
        simp [hp, hf.port_self]
      · simp [hqp, hf.port_ne q hqp, hf.servedOn_ne s hqp]
    · rw [ihrec, hf.record]
      by_cases hm : n ∈ s.servedOn p
      · have hport := (s.waiting_of_servedOn hm).1
        have hport' : (s.record n).served.port = p := hport
        simp [hm, hport, hport', hp]
      · rw [if_neg hm]
        by_cases hport : (s.record n).port = p
        · simp [hport, hp, hm]
        · simp [hport, hf.servedOn_ne s hport]

end Sys2Proof.Machine
end

section
/-! SOFT RESET as a whole (R26, R60, R82, R181): the records, the ports and the queues it leaves. -/

namespace Sys2Proof.Machine

variable (s : State)

/-! ### The content of a record (R26) -/

theorem RecState.not_activating_of_ranged {st : RecState} (h : st.ranged = true) : st.activating = false := by
  cases st <;> first | rfl | cases h

/-- What a soft reset makes of a record under activation (R26). -/
def Record.restarted (c : Record) : Record :=
  { c with
    state := .expected
    cause := .restarted
    dropId := 0
    ranging := none
    attempts := 0
    rounds := 0
    delaySync := .synced
    outstanding := 0 }

theorem Record.softReset_activating {c : Record} (h : c.state.activating = true) : c.softReset = c.restarted := by
  rw [Record.softReset, if_pos h]
  rfl

theorem Record.softReset_ranged {c : Record} (h : c.state.ranged = true) :
    c.softReset = { c with
      misses := 0, outstanding := 0, delaySync := if c.delaySync = .queued then .waiting else c.delaySync } := by
  simp [Record.softReset, RecState.not_activating_of_ranged h, h]

theorem Record.softReset_other {c : Record} (ha : c.state.activating = false) (hr : c.state.ranged = false) :
    c.softReset = { c with
      outstanding := 0, delaySync := if c.delaySync = .queued then .synced else c.delaySync } := by
  simp [Record.softReset, ha, hr]

theorem Record.softReset_port (c : Record) : c.softReset.port = c.port := by
  unfold Record.softReset
  split
  · rfl
  · split <;> rfl

/-! ### The records a soft reset visits (R163) -/

theorem State.softResetSet_nodup : s.softResetSet.Nodup := allRecords_nodup.filter _

theorem State.mem_softResetSet {n : Nat} :
    n ∈ s.softResetSet ↔ n < 480 ∧ (s.namedByPorts n = true ∨ (s.record n).softReset ≠ s.record n
      ∨ (s.record n).state.activating = true ∨ (s.record n).state.ranged = true ∨ (s.record n).delaySync = .waiting) := by
  simp [State.softResetSet, allRecords, Config.records, or_assoc]

/-- A record that no port names has no descriptor in a queue. -/
theorem State.unnamed_queues {n : Nat} (h : s.namedByPorts n = false) :
    s.queuedNaming allPorts n = 0 ∧ s.setDelayQueued allPorts n = false := by
  have hq : ∀ p ∈ allPorts, ∀ d ∈ (s.port p).outbound, d.names ≠ some n := by
    intro p hp d hd hn
    have hp' := List.any_eq_false.mp h p hp
    simp only [Bool.or_eq_true, not_or] at hp'
    exact hp'.2 (List.any_eq_true.mpr ⟨d, hd, by simp [hn]⟩)
  constructor
  · rw [State.queuedNaming, List.sum_eq_zero_iff]
    intro x hx
    obtain ⟨p, hp, rfl⟩ := List.mem_map.mp hx
    exact List.countP_eq_zero.mpr (fun d hd => by simpa using hq p hp d hd)
  · rw [State.setDelayQueued, List.any_eq_false]
    intro p hp
    rw [List.any_eq_true]
    rintro ⟨d, hd, hs⟩
    rw [Descriptor.isSetDelayOf, beq_iff_eq] at hs
    exact hq p hp d hd (by rw [hs]; rfl)

/-- The part once the registry is reset too, before SET DELAYs are queued. -/
def State.registryReset (s : State) : State := eachNumber State.softResetRecord s.softResetSet s.quieted

variable {s}

section
variable (hs : s.echoesRange) (hv : s.allVerify)
include hs

theorem State.quieted_state (n : Nat) (hn : n < 480) :
    (s.quieted.record n).state.activating = (s.record n).state.activating
      ∧ (s.quieted.record n).port = (s.record n).port ∧ (s.quieted.record n).dropId = (s.record n).dropId := by
  obtain ⟨c, hc, hq⟩ := State.quieted_record hs hn
  rw [hq]
  rcases hc with rfl | ⟨hr, rfl⟩
  · exact ⟨rfl, rfl, rfl⟩
  · exact ⟨by rw [hr]; rfl, rfl, rfl⟩

/-- Unless it is in RANGING, a record only loses its descriptors before the registry's part. -/
theorem State.quieted_record_other {n : Nat} (hn : n < 480) (h : (s.record n).state ≠ .ranging) :
    s.quieted.record n = (s.record n).afterDiscard (s.queuedNaming allPorts n) (s.setDelayQueued allPorts n) := by
  obtain ⟨c, hc, hq⟩ := State.quieted_record hs hn
  rcases hc with rfl | ⟨hr, -⟩
  · exact hq
  · exact absurd hr h

include hv

theorem State.registryReset_spec : s.quieted.RegistryReset s.softResetSet s.registryReset := by
  have hlt : ∀ r ∈ s.softResetSet, r < 480 := fun r hr => (s.mem_softResetSet.mp hr).1
  exact s.quieted.softResetRecords s.softResetSet_nodup hlt
    (fun r hr => (State.quieted_verifies hs r).trans (hv r (hlt r hr)))

theorem State.registryReset_port {p : Nat} (hp : p < 4) :
    s.registryReset.port p = (s.port p).softReset.givingUp p (s.quieted.idsHeld p s.softResetSet) := by
  rw [(State.registryReset_spec hs hv).port p hp, State.quieted_port hs hp]

/-- Of a record that is not visited nothing would change. -/
theorem State.registryReset_record {n : Nat} (hn : n < 480) :
    s.registryReset.record n = (s.quieted.record n).softReset := by
  rw [(State.registryReset_spec hs hv).record]
  split
  · rfl
  · next hm =>
    rw [State.mem_softResetSet] at hm
    simp only [hn, true_and, not_or, not_not] at hm
    obtain ⟨hnamed, hfix, hact, -, -⟩ := hm
    obtain ⟨hcount, hdelay⟩ := s.unnamed_queues (Bool.not_eq_true _ ▸ hnamed)
    have hne : (s.record n).state ≠ .ranging := fun h => hact (by rw [h]; rfl)
    have hsame : s.quieted.record n = s.record n := by
      rw [State.quieted_record_other hs hn hne, hcount, hdelay, Record.afterDiscard_zero]
    rw [hsame, hfix]

theorem State.registryReset_activating {n : Nat} (hn : n < 480) (h : (s.record n).state.activating = true) :
    s.registryReset.record n = (s.record n).restarted := by
  have ha : (s.quieted.record n).state.activating = true := (State.quieted_state hs n hn).1.trans h
  rw [State.registryReset_record hs hv hn, Record.softReset_activating ha]
  obtain ⟨c, hc, hq⟩ := State.quieted_record hs hn
  rw [hq]
  rcases hc with rfl | ⟨-, rfl⟩
  · rfl
  · rfl

/-- The delay sync of a ranged record whose queue has been emptied, before SET DELAYs are queued again (R26, R80). -/
def State.rangedSync (s : State) (n : Nat) : DelaySync :=
  let d := if s.setDelayQueued allPorts n then (s.record n).queueEmptied else (s.record n).delaySync
  if d = .queued then .waiting else d

theorem State.registryReset_ranged {n : Nat} (hn : n < 480) (h : (s.record n).state.ranged = true) :
    s.registryReset.record n = { s.record n with misses := 0, outstanding := 0, delaySync := s.rangedSync n } := by
  have hne : (s.record n).state ≠ .ranging := fun hr => by rw [hr] at h; cases h
  have hq := State.quieted_record_other hs hn hne
  have hr : (s.quieted.record n).state.ranged = true := by rw [hq]; exact h
  rw [State.registryReset_record hs hv hn, Record.softReset_ranged hr, hq]
  rfl

/-- The delay sync of a record out of service whose queue has been emptied (R26, R80). -/
def State.idleResetSync (s : State) (n : Nat) : DelaySync :=
  let d := if s.setDelayQueued allPorts n then (s.record n).queueEmptied else (s.record n).delaySync
  if d = .queued then .synced else d

theorem State.registryReset_other {n : Nat} (hn : n < 480) (ha : (s.record n).state.activating = false)
    (hr : (s.record n).state.ranged = false) :
    s.registryReset.record n = { s.record n with outstanding := 0, delaySync := s.idleResetSync n } := by
  have hne : (s.record n).state ≠ .ranging := fun h => by rw [h] at ha; cases ha
  have hq := State.quieted_record_other hs hn hne
  have ha' : (s.quieted.record n).state.activating = false := by rw [hq]; exact ha
  have hr' : (s.quieted.record n).state.ranged = false := by rw [hq]; exact hr
  rw [State.registryReset_record hs hv hn, Record.softReset_other ha' hr', hq]
  rfl

omit hs hv in
/-- Without an EqD to hand over, the record owes no SET DELAY. -/
theorem State.idleResetSync_eq {n : Nat} (h : (s.record n).ranging = none) :
    s.idleResetSync n =
      if s.setDelayQueued allPorts n = true ∨ (s.record n).delaySync = .queued then .synced
      else (s.record n).delaySync := by
  cases hq : s.setDelayQueued allPorts n <;> simp [State.idleResetSync, hq, Record.queueEmptied, h]

theorem State.registryReset_outbound {p : Nat} (hp : p < 4) :
    (s.registryReset.port p).outbound =
      ((s.quieted.idsHeld p s.softResetSet).map (Descriptor.release p)).take 64 := by
  rw [State.registryReset_port hs hv hp]
  rfl

/-- After the registry's part the queues hold RELEASEs alone. -/
theorem State.registryReset_waitersFree : s.registryReset.waitersFree := by
  intro r _
  rw [State.setDelayQueued_false_iff]
  intro p hp hm
  rw [State.registryReset_outbound hs hv hp] at hm
  obtain ⟨d, -, hd⟩ := List.mem_map.mp (List.mem_of_mem_take hm)
  cases hd
end

end Sys2Proof.Machine
end

section
/-! SOFT RESET as its row shows it: the effect put together, and what it holds where the records agree with the queues (R26, R82). -/

namespace Sys2Proof.Machine

variable (s : State)

/-! ### The flags cleared (R181) -/

theorem State.clearFlags_port {p : Nat} (hp : p < 4) :
    s.clearFlags.port p = { s.port p with conditions := Conditions.clear } :=
  State.modAllPorts_port { s with newStranger := false } hp (fun _ q => { q with conditions := Conditions.clear })

theorem State.clearFlags_records : s.clearFlags.records = s.records :=
  eachNumber_field State.records (f := fun t p => t.flag p (fun _ => Conditions.clear)) (fun _ _ _ => rfl) _

theorem State.clearFlags_changed : s.clearFlags.changed = s.changed :=
  eachNumber_field State.changed (f := fun t p => t.flag p (fun _ => Conditions.clear)) (fun _ _ _ => rfl) _

theorem State.clearFlags_frame : State.sameOutside { s with newStranger := false } s.clearFlags :=
  eachNumber_sameOutside _ (fun t p => t.modPort_sameOutside p _) allPorts

/-! ### The effect put together -/

/-- The part once SET DELAYs are queued again: what is left of a soft reset is to clear flags and lists. -/
def State.refilled (s : State) : State := eachNumber State.fillSetDelay allPorts s.registryReset

/-- Flags, stranger list, scrubber and integrity record at their reset values (R26, R60, R161, R169). -/
def State.listsCleared (s : State) : State :=
  { s.clearFlags with
    strangers := [], scrubCursor := 0, scrubCounter := 0, integrityCount := 0, firstDamaged := none }

theorem State.listsCleared_records : s.listsCleared.records = s.records := s.clearFlags_records

theorem State.listsCleared_changed : s.listsCleared.changed = s.changed := s.clearFlags_changed

theorem State.listsCleared_port {p : Nat} (hp : p < 4) :
    s.listsCleared.port p = { s.port p with conditions := Conditions.clear } := s.clearFlags_port hp

theorem State.softReset_eq : s.softReset = s.refilled.listsCleared := rfl

/-- The frame of SOFT RESET with its reply. -/
theorem State.listsCleared_frame {w : State} (h : s.sameOutside w) (tag : Byte) :
    w.listsCleared.replied .host tag .ok [] = { s with
      records := (w.listsCleared.replied .host tag .ok []).records
      ports := (w.listsCleared.replied .host tag .ok []).ports
      changed := (w.listsCleared.replied .host tag .ok []).changed
      strangers := []
      newStranger := false
      integrityCount := 0
      firstDamaged := none
      scrubCursor := 0
      scrubCounter := 0
      host := { s.host with replies := s.host.replies ++ [{ tag := tag, status := .ok, payload := [] }] }
      lastServed := .host
      attention := (w.listsCleared.replied .host tag .ok []).attention } := by
  have hf := w.clearFlags_frame
  rw [State.listsCleared]
  generalize w.clearFlags = v at hf
  rw [State.sameOutside] at h hf
  rw [State.replied_host, hf, h]

variable {s}

section
variable (hs : s.echoesRange) (hv : s.allVerify)
include hs hv

theorem State.refilled_spec : s.registryReset.Filled allPorts s.refilled :=
  s.registryReset.fillSetDelays (State.registryReset_waitersFree hs hv) allPorts_nodup (fun _ hp => mem_allPorts.mp hp)

theorem State.refilled_port {p : Nat} (hp : p < 4) :
    s.refilled.port p = { s.registryReset.port p with
      outbound := (s.registryReset.port p).outbound ++ (s.registryReset.servedOn p).map .setDelay } :=
  ((State.refilled_spec hs hv).port p).trans (if_pos (mem_allPorts.mpr hp))

theorem State.refilled_verifies (n : Nat) : s.refilled.verifies n = s.verifies n := by
  rw [(State.refilled_spec hs hv).verifies, (State.registryReset_spec hs hv).verifies, State.quieted_verifies hs]

theorem State.refilled_sameOutside : s.sameOutside s.refilled :=
  ((State.quieted_sameOutside hs).trans (State.registryReset_spec hs hv).same).trans (State.refilled_spec hs hv).same

/-- A record that does not wait is done with once the registry is reset. -/
theorem State.refilled_record_same {n : Nat} (h : (s.registryReset.record n).delaySync ≠ .waiting) :
    s.refilled.record n = s.registryReset.record n := by
  rw [(State.refilled_spec hs hv).record, if_neg]
  rintro ⟨-, hm⟩
  exact h (State.waiting_of_servedOn _ hm).2

/-- Queueing SET DELAYs changes nothing in a record but its count and its delay sync. -/
theorem State.refilled_record_but (n : Nat) :
    s.refilled.record n = { s.registryReset.record n with
      outstanding := (s.refilled.record n).outstanding, delaySync := (s.refilled.record n).delaySync } := by
  rw [(State.refilled_spec hs hv).record]
  split <;> rfl

/-- A port after a soft reset: its own reset values, the drop ids given up and the SET DELAYs queued. -/
theorem State.softReset_port {p : Nat} (hp : p < 4) :
    s.softReset.port p = { (s.port p).softReset.givingUp p (s.quieted.idsHeld p s.softResetSet) with
      outbound := ((s.quieted.idsHeld p s.softResetSet).map (Descriptor.release p)).take 64
        ++ (s.registryReset.servedOn p).map .setDelay
      conditions := Conditions.clear } := by
  rw [s.softReset_eq, s.refilled.listsCleared_port hp, State.refilled_port hs hv hp, State.registryReset_outbound hs hv hp,
    State.registryReset_port hs hv hp]

/-- The changed set gains the records under activation (R5). -/
theorem State.softReset_mem_changed (n : Nat) :
    n ∈ s.softReset.changed ↔ n ∈ s.changed ∨ (n < 480 ∧ (s.record n).state.activating = true) := by
  have ha := State.abandoned_all hs
  rw [s.softReset_eq, s.refilled.listsCleared_changed, (State.refilled_spec hs hv).changed,
    (State.registryReset_spec hs hv).changed, s.quieted_changed]
  constructor
  · rintro (h | ⟨h, hact⟩)
    · rcases ha.gained n h with h | h
      · exact .inl h
      · exact .inr ⟨s.lt_of_state (by simp [h]), by rw [h]; rfl⟩
    · have hn := (s.mem_softResetSet.mp h).1
      exact .inr ⟨hn, (State.quieted_state hs n hn).1 ▸ hact⟩
  · rintro (h | ⟨hn, hact⟩)
    · exact .inl (ha.kept n h)
    · exact .inr ⟨s.mem_softResetSet.mpr ⟨hn, .inr (.inr (.inl hact))⟩, (State.quieted_state hs n hn).1.trans hact⟩

omit hv in
/-- The drop ids given up on a port are those of its records under activation. -/
theorem State.mem_idsHeld {p d : Nat} :
    d ∈ s.quieted.idsHeld p s.softResetSet ↔
      ∃ n < 480, (s.record n).state.activating = true ∧ (s.record n).port = p ∧ (s.record n).dropId = d ∧ d ≠ 0 := by
  simp only [State.idsHeld, List.mem_map, List.mem_filter, Bool.and_eq_true, beq_iff_eq, bne_iff_ne]
  constructor
  · rintro ⟨n, ⟨hn, ⟨hact, hport⟩, hd⟩, rfl⟩
    have hlt := (s.mem_softResetSet.mp hn).1
    obtain ⟨ha, hp, hdrop⟩ := State.quieted_state hs n hlt
    exact ⟨n, hlt, ha ▸ hact, hp ▸ hport, hdrop.symm, hd⟩
  · rintro ⟨n, hlt, hact, hport, rfl, hd⟩
    obtain ⟨ha, hp, hdrop⟩ := State.quieted_state hs n hlt
    have hmem := s.mem_softResetSet.mpr ⟨hlt, .inr (.inr (.inl hact))⟩
    exact ⟨n, ⟨hmem, ⟨ha.trans hact, hp.trans hport⟩, by rwa [hdrop]⟩, hdrop⟩

theorem State.softReset_dropMap {p d : Nat} (hp : p < 4) :
    mapGet (s.softReset.port p).dropMap d =
      if d ∈ s.quieted.idsHeld p s.softResetSet then none else mapGet (s.port p).dropMap d := by
  rw [State.softReset_port hs hv hp]
  exact mapGet_erased _ _ _

/-! ### Where the records agree with the queues (R82) -/

section
variable (ht : s.tied)
include ht

omit hv in
/-- The RELEASEs a port owes, in rising record number. -/
theorem State.idsHeld_eq (p : Nat) :
    (s.quieted.idsHeld p s.softResetSet).map (Descriptor.release p) =
      ((List.range 480).filter (fun n => (s.record n).port == p && (s.record n).state.activating)).map
        (fun n => Descriptor.release p (s.record n).dropId) := by
  have hsel : s.softResetSet.filter (fun r => (s.quieted.record r).state.activating && (s.quieted.record r).port == p
        && (s.quieted.record r).dropId != 0)
      = (List.range 480).filter (fun n => (s.record n).port == p && (s.record n).state.activating) := by
    rw [State.softResetSet, List.filter_filter]
    refine List.filter_congr (fun n hn => ?_)
    have hlt := List.mem_range.mp hn
    obtain ⟨hact, hport, hdrop⟩ := State.quieted_state hs n hlt
    rw [hact, hport, hdrop]
    cases ha : (s.record n).state.activating with
    | false => simp
    | true =>
      have hd : (s.record n).dropId ≠ 0 := by
        obtain ⟨-, -, -, hdrop, -⟩ := ht.1 n hlt
        exact hdrop.mpr (.inl ha)
      simp [hd]
  rw [State.idsHeld, hsel, List.map_map]
  refine List.map_congr_left (fun n hn => ?_)
  obtain ⟨-, -, hdrop⟩ := State.quieted_state hs n (List.mem_range.mp (List.mem_of_mem_filter hn))
  rw [Function.comp_apply, hdrop]

omit hs hv in
/-- A ranged record waits after the reset where it waited or its SET DELAY was queued. -/
theorem State.rangedSync_eq {n : Nat} (hn : n < 480) (hr : (s.record n).state.ranged = true) :
    s.rangedSync n =
      if (s.record n).delaySync = .waiting ∨ (s.record n).delaySync = .queued then .waiting
      else (s.record n).delaySync := by
  obtain ⟨htidy, -, -, hqueues, -⟩ := ht
  obtain ⟨-, -, -, -, hranging, -⟩ := htidy n hn
  have hiff := (hqueues.1 n hn).2
  have hsome : (s.record n).ranging.isSome = true := hranging.mpr (.inr hr)
  cases hq : s.setDelayQueued allPorts n with
  | true =>
    have hd := hiff.mpr hq
    simp [State.rangedSync, hq, hd, Record.queueEmptied, hsome]
  | false =>
    have hd : (s.record n).delaySync ≠ .queued := fun h => by
      have := hiff.mp h
      rw [hq] at this
      cases this
    by_cases hw : (s.record n).delaySync = .waiting
    · simp [State.rangedSync, hq, hw]
    · simp [State.rangedSync, hq, hw, hd]

/-- The records that wait for a SET DELAY after the registry's part: the ranged ones that waited, or had theirs queued. -/
theorem State.registryReset_waits {n : Nat} (hn : n < 480) :
    (s.registryReset.record n).delaySync = .waiting ↔
      (s.record n).state.ranged = true ∧ ((s.record n).delaySync = .waiting ∨ (s.record n).delaySync = .queued) := by
  cases ha : (s.record n).state.activating with
  | true =>
    have hr : (s.record n).state.ranged = false := by
      rw [← Bool.not_eq_true]
      intro hr
      rw [RecState.not_activating_of_ranged hr] at ha
      cases ha
    rw [State.registryReset_activating hs hv hn ha, hr]
    simp [Record.restarted]
  | false =>
    cases hr : (s.record n).state.ranged with
    | true =>
      rw [State.registryReset_ranged hs hv hn hr]
      simp only [State.rangedSync_eq ht hn hr, true_and]
      split
      · next h => simp [h]
      · next h => simp [(not_or.mp h).1, (not_or.mp h).2]
    | false =>
      obtain ⟨-, -, -, -, hranging, -, -, -, hwait, -⟩ := ht.1 n hn
      have hnone : (s.record n).ranging = none := by
        rw [← Option.not_isSome_iff_eq_none, hranging, not_or, Bool.not_eq_true]
        exact ⟨fun h => (by rw [h] at ha; cases ha), hr⟩
      have hd : (s.record n).delaySync ≠ .waiting := fun h => by
        have := hwait h
        rw [hnone] at this
        cases this
      rw [State.registryReset_other hs hv hn ha hr]
      simp only [State.idleResetSync_eq hnone, Bool.false_eq_true, false_and, iff_false]
      split
      · exact nofun
      · exact hd

theorem State.registryReset_waiting (p : Nat) :
    s.registryReset.waiting p = (List.range 480).filter (fun n => (s.record n).port == p
      && (s.record n).state.ranged && ((s.record n).delaySync == .waiting || (s.record n).delaySync == .queued)) := by
  rw [State.waiting, State.recordsWhere_eq]
  refine List.filter_congr (fun n hn => ?_)
  have hlt := List.mem_range.mp hn
  have hport : (s.registryReset.record n).port = (s.record n).port := by
    obtain ⟨-, hport, -⟩ := State.quieted_state hs n hlt
    rw [State.registryReset_record hs hv hlt, Record.softReset_port, hport]
  rw [hport, Bool.eq_iff_iff]
  simp only [Bool.and_eq_true, Bool.or_eq_true, beq_iff_eq, State.registryReset_waits hs hv ht hlt, and_assoc]
end
end

end Sys2Proof.Machine
end

section
/-! SOFT RESET settled (R26, R60, R82, R181). -/

namespace Sys2Proof.Machine

variable {s : State}

theorem doSoftReset_host (s : State) : doSoftReset .host s = (s.softReset, { status := .ok, payload := [] }) := by
  simp [doSoftReset, permitted_host, okReply]

theorem State.softReset_record (s : State) (n : Nat) : s.softReset.record n = s.refilled.record n := by
  rw [s.softReset_eq, State.record, State.stored_congr s.refilled.listsCleared_records, State.record]

theorem State.softReset_verifies (s : State) (n : Nat) : s.softReset.verifies n = s.refilled.verifies n := by
  rw [s.softReset_eq, State.verifies, State.stored_congr s.refilled.listsCleared_records, State.verifies]

theorem PortState.afterSoftReset_eq (st : PortState) : st.afterSoftReset = if st = .down then .down else .standby := by
  cases st <;> rfl

section
variable (hs : s.echoesRange) (hv : s.allVerify)
include hs hv

theorem State.softReset_activating {n : Nat} (hn : n < 480) (h : (s.record n).state.activating = true) :
    s.softReset.record n = (s.record n).restarted := by
  have hreg := State.registryReset_activating hs hv hn h
  rw [s.softReset_record, State.refilled_record_same hs hv, hreg]
  rw [hreg]
  exact nofun

theorem State.softReset_ranged {n : Nat} (hn : n < 480) (h : (s.record n).state.ranged = true) :
    s.softReset.record n = { s.record n with
      misses := 0
      outstanding := (s.softReset.record n).outstanding
      delaySync := (s.softReset.record n).delaySync } := by
  rw [s.softReset_record]
  refine (State.refilled_record_but hs hv n).trans ?_
  rw [State.registryReset_ranged hs hv hn h]

/-- A record out of service without an EqD loses what its queued descriptors owed (R26). -/
theorem State.softReset_other {n : Nat} (hn : n < 480) (ha : (s.record n).state.activating = false)
    (hr : (s.record n).state.ranged = false) (hnone : (s.record n).ranging = none)
    (hd : (s.record n).delaySync = .synced ∨ (s.record n).delaySync = .queued) :
    s.softReset.record n = { s.record n with
      outstanding := 0
      delaySync := if (s.record n).delaySync = .queued then .synced else (s.record n).delaySync } := by
  have hsync : s.idleResetSync n = .synced := by
    rw [State.idleResetSync_eq hnone]
    rcases hd with hd | hd <;> simp [hd]
  have hreg := State.registryReset_other hs hv hn ha hr
  rw [hsync] at hreg
  rw [s.softReset_record, State.refilled_record_same hs hv, hreg]
  · rcases hd with hd | hd <;> simp [hd]
  · rw [hreg]
    exact nofun

/-- The drop ids of activations are freed, and no others (R26, R30). -/
theorem State.softReset_drop {p d n : Nat} (hp : p < 4) (hd : d ≠ 0) (hn : n < 480)
    (ha : (s.record n).state.activating = true) (hport : (s.record n).port = p) (hdrop : (s.record n).dropId = d) :
    mapGet (s.softReset.port p).dropMap d = none := by
  rw [State.softReset_dropMap hs hv hp, if_pos ((State.mem_idsHeld hs).mpr ⟨n, hn, ha, hport, hdrop, hd⟩)]

theorem State.softReset_drop_kept {p d : Nat} (hp : p < 4)
    (h : ∀ n, n < 480 → (s.record n).state.activating = true → (s.record n).port = p → (s.record n).dropId ≠ d) :
    mapGet (s.softReset.port p).dropMap d = mapGet (s.port p).dropMap d := by
  rw [State.softReset_dropMap hs hv hp, if_neg]
  rw [State.mem_idsHeld hs]
  rintro ⟨n, hn, ha, hport, hdrop, -⟩
  exact h n hn ha hport hdrop

/-! ### Where the records agree with the queues -/

section
variable (ht : s.tied)
include ht

/-- The WAITING records a port has room for once its RELEASEs stand in the queue (R79, R82). -/
theorem State.registryReset_servedOn {p : Nat} (hp : p < 4) {releases : List Descriptor} {waits : List Nat}
    (hr : releases = ((List.range 480).filter (fun n => (s.record n).port == p && (s.record n).state.activating)).map
      (fun n => Descriptor.release p (s.record n).dropId))
    (hw : waits = (List.range 480).filter (fun n => (s.record n).port == p && (s.record n).state.ranged
      && ((s.record n).delaySync == .waiting || (s.record n).delaySync == .queued))) :
    s.registryReset.servedOn p = waits.take (64 - releases.length) := by
  have hlen : 64 - min 64 releases.length = 64 - releases.length := by omega
  rw [State.servedOn, State.registryReset_waiting hs hv ht, ← hw, State.registryReset_outbound hs hv hp,
    State.idsHeld_eq hs ht, ← hr, List.length_take, hlen]

/-- A ranged record on a port is served exactly when its port's list of served records holds it. -/
theorem State.refilled_ranged {n : Nat} (hn : n < 480) (h : (s.record n).state.ranged = true) :
    s.refilled.record n =
      if n ∈ s.registryReset.servedOn (s.record n).port then
        ({ s.record n with misses := 0, outstanding := 0, delaySync := s.rangedSync n } : Record).served
      else { s.record n with misses := 0, outstanding := 0, delaySync := s.rangedSync n } := by
  have hport : (s.record n).port ∈ allPorts := mem_allPorts.mpr (Nat.lt_succ_of_le (ht.1 n hn).1)
  rw [(State.refilled_spec hs hv).record, State.registryReset_ranged hs hv hn h]
  simp only [hport, true_and]
end
end

/-- Settles O41: the effect port by port and record by record, and the queues where the records agree with them. -/
theorem softResetKeepsTheRegistry : Obligations.SoftResetKeepsTheRegistry := by
  intro tag s hr hv hs
  have hs : s.echoesRange := hs
  refine ⟨_, exec_answered s hr tag .softReset (doSoftReset_host s), fun p hp => ?_, fun r hn ha => ?_, fun n => ?_,
    fun r hn h => ?_, fun r hn ha hrg hnone hd => ?_, fun p d n hp hd => ⟨fun hn ha hport hdrop => ?_, fun h => ?_⟩,
    fun releases waits served ht hreleases hwaits hserved => ⟨fun p hp => ?_, fun n hn h => ?_⟩, fun n hn => ?_, ?_⟩
  · rw [State.replied_port, State.softReset_port hs hv hp]
    exact ⟨PortState.afterSoftReset_eq _, rfl, rfl, rfl, rfl, rfl, rfl, rfl, rfl, rfl, rfl, rfl, rfl, rfl, rfl, rfl, rfl, rfl,
      rfl, rfl, rfl, rfl, rfl, rfl⟩
  · rw [State.replied_record]
    exact State.softReset_activating hs hv hn ha
  · rw [State.replied_changed]
    exact State.softReset_mem_changed hs hv n
  · rw [State.replied_record]
    exact State.softReset_ranged hs hv hn h
  · rw [State.replied_record]
    exact State.softReset_other hs hv hn ha hrg hnone hd
  · rw [State.replied_port]
    exact State.softReset_drop hs hv hp hd hn ha hport hdrop
  · rw [State.replied_port]
    exact State.softReset_drop_kept hs hv hp h
  · rw [State.replied_port, State.softReset_port hs hv hp, State.idsHeld_eq hs ht]
    simp only [hreleases, hserved, State.registryReset_servedOn hs hv ht hp rfl (congrFun hwaits p)]
  · have hport : (s.record n).port < 4 := Nat.lt_succ_of_le (ht.1 n hn).1
    have hmem : s.registryReset.servedOn (s.record n).port = served (s.record n).port := by
      rw [hserved]
      exact State.registryReset_servedOn hs hv ht hport (congrFun hreleases _) (congrFun hwaits _)
    have hrec := State.refilled_ranged hs hv ht hn h
    have hw : n ∈ waits (s.record n).port ↔
        (s.record n).delaySync = .waiting ∨ (s.record n).delaySync = .queued := by
      simp [hwaits, hn, h]
    rw [hmem, State.rangedSync_eq ht hn h] at hrec
    rw [State.replied_record, s.softReset_record, hrec]
    refine ⟨fun hm => ?_, fun hm => ?_⟩
    · rw [if_pos hm]
      exact ⟨rfl, rfl⟩
    · rw [if_neg hm]
      exact ⟨rfl, by simp only [hw]⟩
  · rw [State.replied_verifies, s.softReset_verifies, State.refilled_verifies hs hv, hv n hn]
  · exact s.listsCleared_frame (State.refilled_sameOutside hs hv) tag

end Sys2Proof.Machine
end

section
/-! Allocation of drop ids (R28), admission lookups (R31), and CONFIRM, ADMIT and SUSPEND (R35, R37, R38). -/

namespace Sys2Proof.Machine

variable (s : State)

/-! ### Allocation (R28) -/

theorem State.allocate_preferred {p d : Nat} (h : s.dropFree p d = true) : s.allocate p (some d) = some d := by
  simp [State.allocate, h]

/-- With no preferred drop id free, allocation searches 1..126 from below. -/
theorem State.allocate_search {p : Nat} {pref : Option Nat} (h : ∀ d, pref = some d → s.dropFree p d = false) :
    s.allocate p pref = (List.range' 1 126).find? (fun d => s.dropFree p d) := by
  cases pref with
  | none => rfl
  | some d => simp [State.allocate, h d rfl, Config.maxDropId]

/-- Settles O17: the preferred drop id first, then the first hit of the search from below. -/
theorem allocationTakesPreferredThenLowest : Obligations.AllocationTakesPreferredThenLowest := by
  intro s p pref
  refine ⟨fun d hd hfree => ?_, fun hpref => ⟨fun d => ?_, ?_⟩⟩
  · subst hd
    exact s.allocate_preferred hfree
  · rw [s.allocate_search hpref, List.find?_range'_eq_some]
    simp only [List.mem_range'_1, Bool.not_eq_true']
    constructor
    · rintro ⟨hfree, ⟨h1, h2⟩, hlow⟩
      exact ⟨h1, by omega, hfree, hlow⟩
    · rintro ⟨h1, h2, hfree, hlow⟩
      exact ⟨hfree, ⟨h1, by omega⟩, hlow⟩
  · rw [s.allocate_search hpref, List.find?_range'_eq_none]
    simp only [Bool.not_eq_true']
    exact ⟨fun h d h1 h2 => h d h1 (by omega), fun h d h1 h2 => h d h1 (by omega)⟩

/-! ### Admission lookups (R31) -/

/-- A lookup that reaches no record is answered CLOSED (R31, steps 1 to 3). -/
theorem State.lookup_closed {p d : Nat}
    (h : (s.port p).state = .down ∨ d = 0 ∨ 126 < d ∨ mapGet (s.port p).dropMap d = none) :
    s.lookup p d = s.answerLookup p 0#8 := by
  unfold State.lookup
  split
  · rfl
  · next hdown =>
    split
    · rfl
    · next hd =>
      have hnone : mapGet (s.port p).dropMap d = none := by
        simpa [hdown, show d ≠ 0 ∧ ¬ 126 < d by simpa [Config.maxDropId] using hd] using h
      simp only [hnone]

/-- A lookup that the drop map answers verifies the record it names (R31, steps 4 and 5). -/
theorem State.lookup_mapped {p d r : Nat} (hdown : (s.port p).state ≠ .down) (h1 : 1 ≤ d) (h2 : d ≤ 126)
    (hr : mapGet (s.port p).dropMap d = some r) :
    s.lookup p d =
      if s.verifies r then s.answerLookup p (s.record r).admission else (s.damage r).answerLookup p 0#8 := by
  have hd : ¬ (d = 0 ∨ Config.maxDropId < d) := by
    rw [show Config.maxDropId = 126 from rfl]
    omega
  simp only [State.lookup, if_neg hdown, if_neg hd, hr]

theorem Record.admission_active {c : Record} (h : c.state = .active) :
    c.admission = 0x80#8 + BitVec.ofNat 8 c.serviceClass := by
  rw [Record.admission, if_pos h, openAnswer, BitVec.ofNat_add]

theorem Record.admission_other {c : Record} (h : c.state ≠ .active) : c.admission = 0#8 := if_neg h

theorem exec_admissionLookup (p : Lane) (b : Byte) (h : s.resetHeld = false) :
    exec (.admissionLookup p b) s = .next (s.lookup p.val b.toNat).settle := by
  change execAdmissionLookup p b s = _
  simp [execAdmissionLookup, h]

/-- Settles O57: the lookup reaches a record or answers CLOSED, and the record verifies or is damaged. -/
theorem lookupsOpenTheActiveDrop : Obligations.LookupsOpenTheActiveDrop := by
  rintro p b s q answered hheld rfl rfl
  rw [exec_admissionLookup s p b hheld]
  refine ⟨fun h => ?_, fun r hdown h1 h2 hr => ?_⟩
  · rw [s.lookup_closed h]
    rfl
  · rw [s.lookup_mapped hdown h1 h2 hr]
    refine ⟨fun hv ha => ?_, fun hv ha => ?_, fun hv => ?_⟩
    · rw [if_pos hv, Record.admission_active ha]
      rfl
    · rw [if_pos hv, Record.admission_other ha]
      rfl
    · rw [if_neg (by simp [hv])]
      rfl

/-! ### CONFIRM, ADMIT, SUSPEND (R35, R37, R38) -/

theorem needState_none {l : Link} {st : RecState} {c : Record} (hs : c.state = st) (hpin : l = .host ∨ c.pinned = false) :
    needState l st s c = none := by
  have hcraft : craftPinned l c = false := by
    rw [← Bool.not_eq_true, craftPinned_iff]
    rcases hpin with rfl | hpin <;> simp [*]
  simp [needState, hs, hcraft]

/-- A record command that sets state and cause of its record and queues a descriptor naming it answers the two states and the cause:
the queueing changes the outstanding count of the record alone (R11, R77). -/
theorem exec_setAndQueued {l : Link} {tag : Byte} {cmd : Command} {k : Permit} {n : Nat} {apply : State → State}
    {old st : RecState} {cause : Cause} {d : Descriptor}
    (hc : ∀ s, runCommand l cmd s = recordCommand l k n true (needState l old) apply s) (hr : s.ready l)
    (hp : permitted l s.phase k = true) (hn : n < 480) (hv : s.verifies n = true) (hs : (s.record n).state = old)
    (hpin : l = .host ∨ (s.record n).pinned = false) (hd : d.names = some n)
    (ht : apply s = (s.change n (fun c => { c with state := st, cause := cause })).enqueue (s.record n).port d) :
    exec (commandRow l tag cmd) s = .next
      ((((s.freshRecord n { s.record n with state := st, cause := cause }).noteChanged n).enqueue (s.record n).port
        d).replied l tag .ok [old.code, st.code, cause.code]) := by
  rw [s.change_of_verifies hv] at ht
  have h := exec_accepted s (tag := tag) hc hr hp hn hv rfl (needState_none s hs hpin) ht
  rwa [State.enqueue_record_named _ hd hn, State.noteChanged_record, s.freshRecord_record_self hn, hs] at h

/-- Settles O28: each command past its checks sets state and cause of a record that verifies; all but CONFIRM without auto-admit queue
a descriptor. -/
theorem admissionCommandsMoveTheRecord : Obligations.AdmissionCommandsMoveTheRecord := by
  rintro l tag r s n c hr ⟨hn, hv⟩ rfl rfl
  refine ⟨fun hs hp hpin hauto => ?_, fun hs hp hpin hauto => ?_, fun hs hl => ?_, fun hs hl => ?_⟩
  · exact exec_setAndQueued s (cmd := .confirm r) (fun _ => rfl) hr hp hn hv hs hpin rfl (if_pos hauto)
  · have h := exec_accepted s (tag := tag) (c := .confirm r) (fun _ => rfl) hr hp hn hv rfl (needState_none s hs hpin)
      ((if_neg (by simp [hauto])).trans (s.change_of_verifies hv _))
    rwa [State.noteChanged_record, s.freshRecord_record_self hn, hs] at h
  · subst hl
    exact exec_setAndQueued s (cmd := .admitDrop r) (fun _ => rfl) hr (permitted_host _ .hostOnly) hn hv hs (.inl rfl) rfl rfl
  · subst hl
    exact exec_setAndQueued s (cmd := .suspend r) (fun _ => rfl) hr (permitted_host _ .hostOnly) hn hv hs (.inl rfl) rfl rfl

end Sys2Proof.Machine
end

section
/-! REJECT (R36). -/

namespace Sys2Proof.Machine

variable (s : State)

/-! ### The parts of REJECT -/

/-- REJECT first gives up the drop id, moves the serial to the strangers and clears the window targets (R36). -/
def State.rejectDetached (s : State) (n : Nat) : State := ((s.releaseHeld n).disown (s.record n)).clearTargets n

/-- What REJECT leaves in a record: an EXPECTED open plot (R36). -/
def Record.rejected (c : Record) (sync : DelaySync) : Record :=
  { c with
    state := .expected
    cause := .rejected
    dropId := 0
    serial := none
    levelable := none
    ranging := none
    lastHeard := none
    misses := 0
    attempts := 0
    rounds := 0
    delaySync := sync }

theorem State.rejectRecord_eq (n : Nat) :
    s.rejectRecord n = (s.rejectDetached n).change n (fun c => c.rejected ((s.rejectDetached n).idleSync n)) := rfl

theorem State.disown_some {c : Record} {x : Serial} (h : c.serial = some x) :
    s.disown c = { s with
      serialIndex := mapErase s.serialIndex x.toNat
      strangers := (if s.strangers.length < 16 then s.strangers else s.strangers.drop 1) ++
        [{ serial := x, port := c.port, levelable := c.levelable.getD false, sightings := 1,
           lastFrame := (s.port c.port).frame }] } := by
  rw [State.disown, h]
  rfl

@[simp] theorem State.disown_records (c : Record) : (s.disown c).records = s.records := by
  cases hx : c.serial with
  | none => rw [State.disown, hx]
  | some x => rw [s.disown_some hx]

@[simp] theorem State.disown_ports (c : Record) : (s.disown c).ports = s.ports := by
  cases hx : c.serial with
  | none => rw [State.disown, hx]
  | some x => rw [s.disown_some hx]

@[simp] theorem State.disown_port (c : Record) (p : Nat) : (s.disown c).port p = s.port p := by
  simp [State.port]

@[simp] theorem State.rejectDetached_records (n : Nat) : (s.rejectDetached n).records = s.records := by
  rw [State.rejectDetached, State.clearTargets_records, State.disown_records, State.releaseHeld_records]

/-- REJECT takes from a port what RETIRE takes, but for the activation queue, which it leaves as it is (R16, R36). -/
theorem State.rejectDetached_port {p n : Nat} (hp : p < 4) :
    (s.rejectDetached n).port p =
      { (s.port p).retireFreed p n (s.record n) with activation := (s.port p).activation } := by
  rw [State.rejectDetached, State.clearTargets_port _ hp, State.disown_port, s.releaseHeld_port hp]
  rfl

/-- What is queued of SET DELAY is read from the outbound queues alone (R4). -/
theorem State.setDelayQueued_congr {s t : State} (h : ∀ p < 4, (t.port p).outbound = (s.port p).outbound) (n : Nat) :
    t.setDelayQueued allPorts n = s.setDelayQueued allPorts n := by
  simp [State.setDelayQueued, allPorts, h]

theorem State.rejectDetached_setDelayQueued (n : Nat) :
    (s.rejectDetached n).setDelayQueued allPorts n = s.setDelayQueued allPorts n := by
  refine (State.setDelayQueued_congr (s := s.retireDetached n) (fun p hp => ?_) n).trans (s.retireDetached_setDelayQueued n)
  rw [s.rejectDetached_port hp, s.retireDetached_port hp]

/-! ### REJECT as a whole -/

theorem State.rejectRecord_record {n : Nat} (hn : n < 480) :
    (s.rejectRecord n).record n = (s.record n).rejected (if s.setDelayQueued allPorts n then .queued else .synced) := by
  rw [s.rejectRecord_eq, State.change_record_self _ hn, State.record, State.stored_congr (s.rejectDetached_records n),
    State.idleSync, s.rejectDetached_setDelayQueued, State.record]

theorem State.rejectRecord_verifies {n : Nat} (hv : s.verifies n = true) : (s.rejectRecord n).verifies n = true := by
  rw [s.rejectRecord_eq, State.change_verifies, State.verifies, State.stored_congr (s.rejectDetached_records n)]
  exact hv

theorem State.rejectRecord_stored_ne {n m : Nat} (h : m ≠ n) : (s.rejectRecord n).stored m = s.stored m := by
  rw [s.rejectRecord_eq, State.change_stored_ne _ h, State.stored_congr (s.rejectDetached_records n)]

/-- A drop id held is offered as a RELEASE and leaves the map, and a window that aims at the record loses its target. -/
theorem State.rejectRecord_port {p n : Nat} (hp : p < 4) (hd : (s.record n).dropId ≠ 0) :
    (s.rejectRecord n).port p =
      { (s.port p).offered (if p = (s.record n).port then [.release p (s.record n).dropId] else []) with
        dropMap := if p = (s.record n).port then mapErase (s.port p).dropMap (s.record n).dropId else (s.port p).dropMap
        window := (s.port p).window.map (fun w => if w.target = some n then { w with target := none } else w) } := by
  rw [s.rejectRecord_eq, State.change_port, s.rejectDetached_port hp]
  simp only [Port.retireFreed, hd, ne_eq, not_false_eq_true, and_true]
  rfl

/-- The frame counter of a port is none of what giving up a drop id changes (R30). -/
theorem State.releaseHeld_frameCounter {p : Nat} (hp : p < 4) (r : Nat) : ((s.releaseHeld r).port p).frame = (s.port p).frame := by
  rw [s.releaseHeld_port hp]
  rfl

/-- Outside records, ports and changed set, REJECT changes the serial index and the stranger list alone (R6, R8). -/
theorem State.rejectRecord_frame {n : Nat} {x : Serial} (hx : (s.record n).serial = some x) (hport : (s.record n).port < 4) :
    s.rejectRecord n =
      { s with
        records := (s.rejectRecord n).records
        ports := (s.rejectRecord n).ports
        changed := insertNumber s.changed n
        serialIndex := mapErase s.serialIndex x.toNat
        strangers := (if s.strangers.length < 16 then s.strangers else s.strangers.drop 1) ++
          [{ serial := x, port := (s.record n).port, levelable := (s.record n).levelable.getD false, sightings := 1,
             lastFrame := (s.port (s.record n).port).frame }] } := by
  have hreleased : s.sameOutside (s.releaseHeld n) := s.releaseHeld_sameOutside n
  have hrest : ((s.releaseHeld n).disown (s.record n)).sameOutside (s.rejectRecord n) :=
    (eachNumber_sameOutside _ (fun t p => t.modPort_sameOutside p _) allPorts).trans (State.change_sameOutside _ n _)
  have hchanged : (s.rejectRecord n).changed = insertNumber s.changed n := by
    rw [s.rejectRecord_eq, State.change_changed, State.rejectDetached, State.clearTargets_changed, State.disown_some _ hx]
    exact congrArg (insertNumber · n) (s.releaseHeld_changed n)
  have h := hrest.eq_of_changed hchanged
  rw [State.disown_some _ hx, s.releaseHeld_frameCounter hport, hreleased] at h
  exact h

/-! ### A reply on either link -/

section
variable (l : Link) (tag : Byte) (st : Status) (payload : List Byte)

theorem State.replied_replies :
    ((s.replied l tag st payload).link l).replies =
      (s.link l).replies ++ [{ tag := tag, status := st, payload := payload }] := by
  cases l <;> rfl

/-- But for its reply path, a reply leaves the last-served link and the attention output (R177, R178). -/
theorem State.replied_restored :
    (s.replied l tag st payload).modLink l (fun k => { k with replies := (s.link l).replies }) =
      { s with lastServed := l, attention := (s.replied l tag st payload).attention } := by
  cases l <;> rfl
end

/-- Checks 5 to 8 of REJECT pass (R36). -/
theorem rejectCheck_none {n : Nat} {c : Record} (hs : c.state = .query) (hpin : c.pinned = false)
    (href : (s.port c.port).changeover.reference ≠ some n) : rejectCheck n s c = none := by
  simp [rejectCheck, hs, hpin, State.isReference, href]

/-- Settles O29: record, ports and frame of `rejectRecord`, and the reply. -/
theorem rejectDisownsTheTerminal : Obligations.RejectDisownsTheTerminal := by
  rintro l tag r x s n c hr hp ⟨hn, hv⟩ rfl rfl hs hpin href hport hd hx
  have hexec := exec_accepted s (tag := tag) (c := .reject r) (fun _ => rfl) hr hp hn hv rfl
    (rejectCheck_none s hs hpin href) rfl
  have hframe := s.rejectRecord_frame hx hport
  have hlink : (s.rejectRecord r.toNat).link l = s.link l := by
    rw [hframe]
    cases l <;> rfl
  rw [s.rejectRecord_record hn, hs] at hexec
  refine ⟨_, hexec, ?_, ?_, fun p hp => ?_, fun m hm => ?_, ?_, ?_⟩
  · rw [State.replied_record, s.rejectRecord_record hn]
    rfl
  · rw [State.replied_verifies, s.rejectRecord_verifies hv]
  · rw [State.replied_port, s.rejectRecord_port hp hd]
  · rw [State.replied_stored, s.rejectRecord_stored_ne (by simpa using hm)]
  · rw [State.replied_replies, hlink]
    rfl
  · rw [← hlink, State.replied_restored, State.replied_records, State.replied_ports]
    generalize State.attention (State.replied _ l tag _ _) = asserted
    exact congrArg (fun u : State => { u with lastServed := l, attention := asserted }) hframe

end Sys2Proof.Machine
end

section
/-! DROP MAP and ACTIVATION QUEUE (R40, R135): what a scan that verifies leaves of a drop map and of an activation queue (R165). -/

namespace Sys2Proof.Machine

variable (s : State)

/-! ### Damage handling port by port (R165) -/

theorem State.enqueue_release_eq (p x d : Nat) :
    s.enqueue p (.release x d) = s.modPort p (fun q => q.offered [.release x d]) := by
  rcases s.enqueue_cases p (.release x d) with ⟨hl, he⟩ | ⟨hl, he⟩ <;> rw [he]
  · have hroom : 64 - (s.port p).outbound.length ≠ 0 := by omega
    rw [s.push_release]
    refine s.modPort_congr ?_
    simp [Port.offered, Config.outboundLimit, hroom,
      List.take_of_length_le (l := [Descriptor.release x d]) (Nat.pos_of_ne_zero hroom)]
  · have hfull : 64 - (s.port p).outbound.length = 0 := by omega
    refine s.modPort_congr ?_
    simp [Port.offered, Config.outboundLimit, hfull]

theorem State.releaseEntry_eq (p d : Nat) : s.releaseEntry p d = s.modPort p (fun q => q.givingUp p [d]) := by
  rw [State.releaseEntry, s.enqueue_release_eq, State.freeDrop, State.modPort_modPort]
  rfl

theorem State.releaseEntries_eq (p : Nat) (ds : List Nat) :
    eachNumber (fun s d => s.releaseEntry p d) ds s = s.modPort p (fun q => q.givingUp p ds) := by
  induction ds generalizing s with
  | nil => exact (s.modPort_id _ (Port.givingUp_nil _ p)).symm
  | cons d ds ih =>
    rw [eachNumber_cons, ih, s.releaseEntry_eq, State.modPort_modPort]
    exact s.modPort_congr (Port.givingUp_givingUp _ p [d] ds)

/-- The keys under which a map names record `r`. -/
def keysOf (m : NumMap) (r : Nat) : List Nat := (m.filter (fun e => e.2 = r)).map Prod.fst

theorem State.releaseRecord_eq (r p : Nat) :
    s.releaseRecord r p = s.modPort p (fun q => q.givingUp p (keysOf q.dropMap r)) :=
  (s.releaseEntries_eq p _).trans (s.modPort_congr rfl)

theorem State.detach_port {p : Nat} (hp : p < 4) (n : Nat) :
    (s.detach n).port p =
      { (s.port p).givingUp p (keysOf (s.port p).dropMap n) with
        activation := (s.port p).activation.filter (fun e => e.record ≠ n)
        window := (s.port p).window.map (fun w => if w.target = some n then { w with target := none } else w) } := by
  have hrelease : (eachNumber (fun s p => s.releaseRecord n p) allPorts s).port p =
      (s.port p).givingUp p (keysOf (s.port p).dropMap n) := by
    simp only [State.releaseRecord_eq]
    exact s.modAllPorts_port hp (fun p q => q.givingUp p (keysOf q.dropMap n))
  have hunindex : ∀ t : State, (t.unindex n).port p = t.port p := fun _ => rfl
  rw [State.detach, State.clearTargets_port _ hp, State.removeEntries_port _ hp, hunindex, hrelease]
  rfl

/-- Besides the detachment, damage handling does to a port what the failure of its changeover does (R159, R165). -/
theorem State.damage_port {p : Nat} (hp : p < 4) (n : Nat) :
    (s.damage n).port p =
      if ((s.detach n).port p).changeover.reference = some n then ((s.detach n).port p).changeoverFailed
      else (s.detach n).port p := by
  rw [State.damage, State.failIfReferences_port _ hp]
  simp

theorem State.damage_activation {p : Nat} (hp : p < 4) (n : Nat) :
    ((s.damage n).port p).activation = (s.port p).activation.filter (fun e => e.record ≠ n) := by
  have hdetach := congrArg Port.activation (s.detach_port hp n)
  rw [s.damage_port hp]
  split
  · exact hdetach
  · exact hdetach

theorem State.damage_dropMap {p : Nat} (hp : p < 4) (n : Nat) :
    ((s.damage n).port p).dropMap = (keysOf (s.port p).dropMap n).foldl mapErase (s.port p).dropMap := by
  have hdetach := congrArg Port.dropMap (s.detach_port hp n)
  rw [s.damage_port hp]
  split
  · exact hdetach
  · exact hdetach

/-! ### Maps without the entries of a record -/

theorem erased_eq_filter (m : NumMap) (ks : List Nat) : ks.foldl mapErase m = m.filter (fun e => e.1 ∉ ks) := by
  induction ks generalizing m with
  | nil => simp
  | cons k ks ih =>
    rw [List.foldl_cons, ih, mapErase, List.filter_filter]
    refine List.filter_congr fun e _ => ?_
    simp [Bool.and_comm]

theorem mem_keysOf {m : NumMap} {e : Nat × Nat} (h : e ∈ m) : e.1 ∈ keysOf m e.2 :=
  List.mem_map.mpr ⟨e, List.mem_filter.mpr ⟨h, by simp⟩, rfl⟩

/-- In a map whose keys rise, erasing the keys of a record's entries erases these entries alone. -/
theorem erased_keysOf {m : NumMap} (h : rising (m.map Prod.fst)) (r : Nat) :
    (keysOf m r).foldl mapErase m = mapEraseRecord m r := by
  rw [erased_eq_filter, mapEraseRecord]
  refine List.filter_congr fun e he => ?_
  have hiff : e.1 ∈ keysOf m r ↔ e.2 = r := by
    constructor
    · intro hk
      obtain ⟨e', he', hkey⟩ := List.mem_map.mp hk
      obtain ⟨hm, hr⟩ := List.mem_filter.mp he'
      have hsame : e' = e := List.inj_on_of_nodup_map (h.imp Nat.ne_of_lt) hm he hkey
      exact hsame ▸ of_decide_eq_true hr
    · rintro rfl
      exact mem_keysOf he
  simp only [hiff, ne_eq]

/-! ### Scans that verify (R163) -/

theorem eachNumber_eq_foldl (f : State → Nat → State) (ns : List Nat) : eachNumber f ns s = ns.foldl f s := by
  induction ns generalizing s with
  | nil => rfl
  | cons n ns ih => exact ih _

/-- A scan leaves a record that verifies as it is. -/
theorem State.scan_record {m : Nat} (hv : s.verifies m = true) (ns : List Nat) :
    (eachNumber State.verifyOrDamage ns s).record m = s.record m := by
  have hstored : (eachNumber State.verifyOrDamage ns s).stored m = s.stored m := by
    refine eachNumber_keeps (P := fun t => t.stored m = s.stored m) (fun t n _ ht => ?_) rfl
    cases hn : t.verifies n with
    | true => exact (congrArg (State.stored · m) (t.verifyOrDamage_of_verifies hn)).trans ht
    | false =>
      have hm : t.verifies m = true := (congrArg StoredRecord.verifies ht).trans hv
      have hne : m ≠ n := fun he => Bool.false_ne_true (hn.symm.trans (he ▸ hm))
      exact (congrArg (State.stored · m) (t.verifyOrDamage_of_damaged hn)).trans ((t.damage_stored_ne hne).trans ht)
  rw [State.record, hstored, State.record]

section
variable {α : Type} {g : State → List α} {key : α → Nat}

/-- Of a list from which damage handling takes the entries of its record, a scan leaves no entry whose record it finds damaged. -/
theorem State.mem_scan (h : ∀ (t : State) n a, a ∈ g (t.damage n) → a ∈ g t ∧ key a ≠ n) {ns : List Nat} {a : α}
    (ha : a ∈ g (eachNumber State.verifyOrDamage ns s)) : a ∈ g s ∧ (key a ∈ ns → s.verifies (key a) = true) := by
  induction ns generalizing s with
  | nil => exact ⟨ha, nofun⟩
  | cons n ns ih =>
    rw [eachNumber_cons] at ha
    cases hv : s.verifies n with
    | true =>
      rw [s.verifyOrDamage_of_verifies hv] at ha
      obtain ⟨hmem, hkey⟩ := ih s ha
      exact ⟨hmem, fun hn => (List.mem_cons.mp hn).elim (fun he => he ▸ hv) hkey⟩
    | false =>
      rw [s.verifyOrDamage_of_damaged hv] at ha
      obtain ⟨hdamaged, hkey⟩ := ih _ ha
      obtain ⟨hmem, hne⟩ := h s n a hdamaged
      refine ⟨hmem, fun hn => ?_⟩
      rw [← s.damage_verifies_ne hne]
      exact hkey ((List.mem_cons.mp hn).resolve_left hne)

/-- A scan over the records of a list leaves exactly the entries whose records verify, where damage handling takes the entries of its
record and no others. -/
theorem State.scan_filter {P : State → Prop} (hP : ∀ (t : State) n, P t → P (t.damage n))
    (h : ∀ (t : State) n, P t → g (t.damage n) = (g t).filter (fun a => key a ≠ n)) (hs : P s) {ns : List Nat}
    (hns : ∀ a ∈ g s, key a ∈ ns ∨ s.verifies (key a) = true) :
    g (eachNumber State.verifyOrDamage ns s) = (g s).filter (fun a => s.verifies (key a)) := by
  induction ns generalizing s with
  | nil =>
    refine (List.filter_eq_self.mpr fun a ha => ?_).symm
    exact (hns a ha).resolve_left (List.not_mem_nil)
  | cons n ns ih =>
    rw [eachNumber_cons]
    cases hv : s.verifies n with
    | true =>
      rw [s.verifyOrDamage_of_verifies hv]
      refine ih s hs fun a ha => ?_
      rcases hns a ha with hn | hver
      · exact (List.mem_cons.mp hn).elim (fun he => .inr (he ▸ hv)) .inl
      · exact .inr hver
    | false =>
      rw [s.verifyOrDamage_of_damaged hv, ih _ (hP s n hs), h s n hs, List.filter_filter]
      · refine List.filter_congr fun a _ => ?_
        by_cases hne : key a = n
        · simp [hne, hv]
        · simp [hne, s.damage_verifies_ne hne]
      · intro a ha
        rw [h s n hs] at ha
        obtain ⟨hmem, hkey⟩ := List.mem_filter.mp ha
        have hne : key a ≠ n := of_decide_eq_true hkey
        rw [s.damage_verifies_ne hne]
        exact (hns a hmem).imp_left fun hn => (List.mem_cons.mp hn).resolve_left hne
end

/-- The drop map after a scan of its records names only records that verify. -/
theorem State.verifies_of_mem_scan_dropMap {p : Nat} (hp : p < 4) {e : Nat × Nat}
    (he : e ∈ ((eachNumber State.verifyOrDamage ((s.port p).dropMap.map (fun e => e.2)) s).port p).dropMap) :
    s.verifies e.2 = true := by
  obtain ⟨hmem, hv⟩ := s.mem_scan (g := fun t => (t.port p).dropMap) (key := Prod.snd) (fun t n _ he => by
    rw [t.damage_dropMap hp, erased_eq_filter] at he
    obtain ⟨hmem, hkey⟩ := List.mem_filter.mp he
    exact ⟨hmem, fun hn => of_decide_eq_true hkey (hn ▸ mem_keysOf hmem)⟩) he
  exact hv (List.mem_map_of_mem hmem)

theorem State.scan_dropMap {p : Nat} (hp : p < 4) (h : rising ((s.port p).dropMap.map Prod.fst)) :
    ((eachNumber State.verifyOrDamage ((s.port p).dropMap.map (fun e => e.2)) s).port p).dropMap =
      (s.port p).dropMap.filter (fun e => s.verifies e.2) := by
  have hdamage : ∀ (t : State) n, rising ((t.port p).dropMap.map Prod.fst) →
      ((t.damage n).port p).dropMap = mapEraseRecord (t.port p).dropMap n :=
    fun t n ht => (t.damage_dropMap hp n).trans (erased_keysOf ht n)
  refine s.scan_filter (g := fun t => (t.port p).dropMap) (key := Prod.snd)
    (P := fun t => rising ((t.port p).dropMap.map Prod.fst)) (fun t n ht => ?_) hdamage h
    (fun e he => .inl (List.mem_map_of_mem he))
  rw [hdamage t n ht]
  exact rising_mapEraseRecord ht n

theorem State.scan_activation {p : Nat} (hp : p < 4) :
    ((eachNumber State.verifyOrDamage ((s.port p).activation.map (fun e => e.record)) s).port p).activation =
      (s.port p).activation.filter (fun e => s.verifies e.record) :=
  s.scan_filter (g := fun t => (t.port p).activation) (key := ActivationEntry.record) (P := fun _ => True)
    (fun _ _ _ => trivial) (fun t n _ => t.damage_activation hp n) trivial
    (fun _ he => .inl (List.mem_map_of_mem (f := ActivationEntry.record) he))

/-! ### The two reads -/

theorem doDropMap_outOfRange {b : Byte} (h : 4 ≤ b.toNat) : doDropMap b s = (s, { status := .outOfRange, payload := [] }) := by
  simp [doDropMap, Config.ports, h, bare]

theorem doActivationQueue_outOfRange {b : Byte} (h : 4 ≤ b.toNat) :
    doActivationQueue b s = (s, { status := .outOfRange, payload := [] }) := by
  simp [doActivationQueue, Config.ports, h, bare]

theorem doDropMap_scan {b : Byte} (h : b.toNat < 4) {u : State}
    (hu : eachNumber State.verifyOrDamage ((s.port b.toNat).dropMap.map (fun e => e.2)) s = u) :
    doDropMap b s = (u, {
      status := .ok
      payload := beBytes 1 (u.port b.toNat).dropMap.length
        ++ ((u.port b.toNat).dropMap.map u.dropEntryBytes).flatten }) := by
  simp [doDropMap, Config.ports, Nat.not_le.mpr h, okReply, hu]

theorem doActivationQueue_scan {b : Byte} (h : b.toNat < 4) {u : State}
    (hu : eachNumber State.verifyOrDamage ((s.port b.toNat).activation.map (fun e => e.record)) s = u) :
    doActivationQueue b s = (u, {
      status := .ok
      payload := beBytes 1 (u.port b.toNat).activation.length
        ++ ((u.port b.toNat).activation.map u.activationEntryBytes).flatten }) := by
  simp [doActivationQueue, Config.ports, Nat.not_le.mpr h, okReply, hu]

/-- An entry of a drop map shows of its record the state alone (R40). -/
theorem State.dropEntryBytes_congr {s u : State} {e : Nat × Nat} (h : u.record e.2 = s.record e.2) :
    u.dropEntryBytes e = s.dropEntryBytes e := by
  rw [State.dropEntryBytes, h, State.dropEntryBytes]

theorem State.activationEntryBytes_congr {s u : State} {e : ActivationEntry} (h : u.record e.record = s.record e.record) :
    u.activationEntryBytes e = s.activationEntryBytes e := by
  rw [State.activationEntryBytes, h, State.activationEntryBytes]

/-- Settles O39: the scan leaves the entries whose records verify, and these records as they were. -/
theorem dropMapAndActivationQueueAreRead : Obligations.DropMapAndActivationQueueAreRead := by
  rintro l tag b s q handled hr rfl rfl
  refine ⟨fun hb => ⟨?_, ?_⟩, fun u held hb hu hheld => ?_, fun u es hb hu hes => ?_⟩
  · exact exec_answered s hr tag (.dropMap b) (doDropMap_outOfRange s hb)
  · exact exec_answered s hr tag (.activationQueue b) (doActivationQueue_outOfRange s hb)
  · have hscan : eachNumber State.verifyOrDamage ((s.port b.toNat).dropMap.map (fun e => e.2)) s = u :=
      (eachNumber_eq_foldl s _ _).trans hu.symm
    subst hheld
    have hitems : (u.port b.toNat).dropMap.map u.dropEntryBytes = (u.port b.toNat).dropMap.map s.dropEntryBytes := by
      refine List.map_congr_left fun e he => State.dropEntryBytes_congr ?_
      rw [← hscan] at he ⊢
      exact s.scan_record (s.verifies_of_mem_scan_dropMap hb he) _
    have hrun := doDropMap_scan s hb hscan
    rw [hitems] at hrun
    refine ⟨exec_answered s hr tag (.dropMap b) hrun, fun hrise => ?_⟩
    rw [← hscan]
    exact s.scan_dropMap hb hrise
  · have hscan : eachNumber State.verifyOrDamage ((s.port b.toNat).activation.map (fun e => e.record)) s = u :=
      (eachNumber_eq_foldl s _ _).trans hu.symm
    have hleft : (u.port b.toNat).activation = es := by
      rw [← hscan, hes]
      exact s.scan_activation hb
    have hitems : es.map u.activationEntryBytes = es.map s.activationEntryBytes := by
      refine List.map_congr_left fun e he => State.activationEntryBytes_congr ?_
      rw [hes] at he
      rw [← hscan]
      exact s.scan_record (List.mem_filter.mp he).2 _
    have hrun := doActivationQueue_scan s hb hscan
    rw [hleft, hitems] at hrun
    exact exec_answered s hr tag (.activationQueue b) hrun

end Sys2Proof.Machine
end

section
/-! The port controllers after a hard reset (R59), and the port commands: their checks (R43), PORT ENABLE, START, CALIBRATE and SWEEP (R44,
R46, R52, R71), and STOP (R47, R55). -/

namespace Sys2Proof.Machine

variable (s : State)

/-! ### After a hard reset (R59, R173) -/

theorem State.reset_link (l : Link) : State.reset.link l = LinkState.reset := by
  cases l <;> rfl

theorem Port.reset_conditions_byte : Port.reset.conditions.byte = 0 := by
  decide

/-- Settles O3: every port, link and counter of `State.reset` read off. -/
theorem hardResetStopsEveryPort : Obligations.HardResetStopsEveryPort := by
  refine ⟨fun p _ => ?_, rfl, rfl, rfl, rfl, rfl, fun l => ?_, rfl, rfl⟩
  · rw [State.reset_port]
    exact ⟨rfl, rfl, rfl, rfl, rfl, rfl, rfl, rfl, rfl, Port.reset_conditions_byte, rfl, rfl, rfl, rfl, rfl, rfl, rfl, rfl, rfl,
      rfl, rfl, rfl, rfl, rfl, rfl⟩
  · rw [State.reset_link]
    exact ⟨rfl, rfl, rfl⟩

/-! ### The checks of a port command (R43) -/

theorem needPortState_self {st : PortState} {inWork : Status} {q : Port} (h : q.state = st) :
    needPortState st inWork q = none := by
  simp [needPortState, h]

theorem startCheck_uncalibrated {q : Port} (h : q.state = .standby) (hc : q.calibrated = false) :
    startCheck q = some .notCalibrated := by
  simp [startCheck, needPortState_self h, hc]

theorem startCheck_calibrated {q : Port} (h : q.state = .standby) (hc : q.calibrated = true) : startCheck q = none := by
  simp [startCheck, needPortState_self h, hc]

/-- What START asks of the port's state comes before the calibrated flag. -/
theorem startCheck_of_needPortState {q : Port} {st : Status} (h : needPortState .standby .busy q = some st) :
    startCheck q = some st := by
  simp [startCheck, h]

theorem stopCheck_none {q : Port} (h : q.state = .run ∨ q.state = .calibrating) : stopCheck q = none := by
  rcases h with h | h <;> simp [stopCheck, h]

theorem portCommand_outOfRange {l : Link} {p : Nat} {check : Port → Option Status}
    (hl : permitted l s.phase .hostOnly = true) (hp : 4 ≤ p) (apply : State → State) :
    portCommand l p check apply s = (s, bare .outOfRange) := by
  simp [portCommand, hl, Config.ports, hp]

/-- A port command refused by its port's state answers the state as it stands. -/
theorem portCommand_refused {l : Link} {p : Nat} {check : Port → Option Status} {st : Status}
    (hl : permitted l s.phase .hostOnly = true) (hp : p < 4) (hc : check (s.port p) = some st) (apply : State → State) :
    portCommand l p check apply s = (s, { status := st, payload := [(s.port p).state.code] }) := by
  simp [portCommand, hl, Config.ports, Nat.not_le.mpr hp, hc]

/-- R43's table for PORT ENABLE. -/
theorem needPortState_down (q : Port) :
    needPortState .down .refusedState q = match q.state with
      | .down => none
      | .standby | .calibrating | .run | .changeover => some .refusedState := by
  unfold needPortState
  cases q.state <;> rfl

/-- R43's table for PORT DISABLE, CALIBRATE and START. -/
theorem needPortState_standby (q : Port) :
    needPortState .standby .busy q = match q.state with
      | .standby => none
      | .down | .run => some .refusedState
      | .calibrating | .changeover => some .busy := by
  unfold needPortState
  cases q.state <;> rfl

/-- R43's table for STOP. -/
theorem stopCheck_eq (q : Port) :
    stopCheck q = match q.state with
      | .calibrating | .run => none
      | .down | .standby => some .refusedState
      | .changeover => some .busy := by
  unfold stopCheck
  cases q.state <;> rfl

/-- A command that changes a port state is a port command whose check refuses what R43's table refuses, START with its own check. -/
theorem runCommand_port {c : Command} {p : Byte} {table : PortState → Option Status} (h : portDemand c = some (p, table)) :
    ∃ check apply, (∀ s, runCommand .host c s = portCommand .host p.toNat check apply s)
      ∧ (∀ q st, table q.state = some st → check q = some st) ∧ (c = .start p → check = startCheck) := by
  cases c <;> cases h
  case portEnable => exact ⟨_, _, fun _ => rfl, fun q _ hq => (needPortState_down q).trans hq, nofun⟩
  case portDisable | calibrate => exact ⟨_, _, fun _ => rfl, fun q _ hq => (needPortState_standby q).trans hq, nofun⟩
  case start =>
    exact ⟨_, _, fun _ => rfl, fun q _ hq => startCheck_of_needPortState ((needPortState_standby q).trans hq), fun _ => rfl⟩
  case stop => exact ⟨_, _, fun _ => rfl, fun q _ hq => (stopCheck_eq q).trans hq, nofun⟩

/-- Settles O14, with what every port command does about its port and R43's table. -/
theorem portCommandsAreChecked : Obligations.PortCommandsAreChecked := by
  intro tag c p table s hr hd
  obtain ⟨check, apply, hrun, htable, hstart⟩ := runCommand_port hd
  refine ⟨fun hp => ?_, fun st hp ht => ?_, fun hp hc hs hcal => ?_⟩
  · exact exec_answered s hr tag c ((hrun s).trans (portCommand_outOfRange s (permitted_host _ _) hp apply))
  · exact exec_answered s hr tag c ((hrun s).trans (portCommand_refused s (permitted_host _ _) hp (htable _ st ht) apply))
  · have hcheck : check (s.port p.toNat) = some .notCalibrated := by
      rw [hstart hc, startCheck_uncalibrated hs hcal]
    have hexec := exec_answered s hr tag c ((hrun s).trans (portCommand_refused s (permitted_host _ _) hp hcheck apply))
    rwa [hs] at hexec

/-! ### PORT ENABLE, START, CALIBRATE, SWEEP (R44, R46, R52, R71) -/

/-- An accepted port command that only changes its port answers the port states before and after. -/
theorem exec_portChanged {tag : Byte} {c : Command} {p : Nat} {check : Port → Option Status} {f : Port → Port}
    {old new : PortState}
    (hc : ∀ s, runCommand .host c s = portCommand .host p check (fun s => s.modPort p f) s) (hr : s.ready .host) (hp : p < 4)
    (hcheck : check (s.port p) = none) (hold : (s.port p).state = old) (hnew : (f (s.port p)).state = new) :
    exec (commandRow .host tag c) s = .next ((s.modPort p f).replied .host tag .ok [old.code, new.code]) := by
  have hrun := (hc s).trans (portCommand_ok s (permitted_host _ _) hp hcheck _)
  rw [s.modPort_port_self hp, hold, hnew] at hrun
  exact exec_answered s hr tag c hrun

theorem doSweep_outOfRange {l : Link} {p : Byte} (hl : permitted l s.phase .crew = true) (hp : 4 ≤ p.toNat) :
    doSweep l p s = (s, bare .outOfRange) := by
  simp [doSweep, hl, Config.ports, hp]

theorem doSweep_down {l : Link} {p : Byte} (hl : permitted l s.phase .crew = true) (hp : p.toNat < 4)
    (hs : (s.port p.toNat).state = .down) : doSweep l p s = (s, bare .refusedState) := by
  simp [doSweep, hl, Config.ports, Nat.not_le.mpr hp, hs]

theorem doSweep_due {l : Link} {p : Byte} (hl : permitted l s.phase .crew = true) (hp : p.toNat < 4)
    (hs : (s.port p.toNat).state ≠ .down) :
    doSweep l p s = (s.modPort p.toNat (fun q => { q with due := true }),
      { status := .ok, payload := [(s.port p.toNat).state.code, 1#8] }) := by
  simp [doSweep, hl, Config.ports, Nat.not_le.mpr hp, hs, flagByte]

/-- Settles O31: SWEEP case by case, and the three commands as changes of their port. -/
theorem portsAreEnabledStartedAndCalibrated : Obligations.PortsAreEnabledStartedAndCalibrated := by
  refine ⟨fun l tag p s hr hl => ⟨fun hp => ?_, fun hp hs => ?_, fun hp hs => ?_⟩,
    fun tag p s hr hp => ⟨fun hs => ?_, fun hs hcal => ?_, fun hs => ?_⟩⟩
  · exact exec_answered s hr tag (.sweep p) (doSweep_outOfRange s hl hp)
  · exact exec_answered s hr tag (.sweep p) (doSweep_down s hl hp hs)
  · exact exec_answered s hr tag (.sweep p) (doSweep_due s hl hp hs)
  · exact exec_portChanged s (c := .portEnable p) (fun _ => rfl) hr hp (needPortState_self hs) hs rfl
  · exact exec_portChanged s (c := .start p) (fun _ => rfl) hr hp (startCheck_calibrated hs hcal) hs rfl
  · exact exec_portChanged s (c := .calibrate p) (fun _ => rfl) hr hp (needPortState_self hs) hs rfl

/-! ### STOP (R47, R55) -/

/-- Abandoning a window leaves the port state (R66). -/
theorem State.abandon_port_state (p : Nat) : ((s.abandon p).port p).state = (s.port p).state := by
  by_cases hp : p < 4
  · cases hw : (s.port p).window with
    | none => rw [s.abandon_none hw]
    | some w =>
      have hdrop : ((s.dropWindow p).port p).state = (s.port p).state := by
        rw [State.dropWindow, s.modPort_port_self hp]
      have howner : (((s.dropWindow p).abandonOwner p w).port p).state = ((s.dropWindow p).port p).state := by
        unfold State.abandonOwner
        split
        · rw [State.modPort_port_self _ hp]
        · split
          · rw [State.change_port, State.setPhase, State.modPort_port_self _ hp]
          · rfl
        · split
          · rw [State.setPhase, State.modPort_port_self _ hp]
          · rfl
        · rw [State.modPort_port_self _ hp]
        · rfl
      rw [s.abandon_some hw, howner, hdrop]
  · have hout : ∀ t : State, t.port p = Port.reset := fun t => by simp [State.port, hp]
    rw [hout, hout]

/-- The effect of STOP, with the calibration that it ends read from the port as it stood before (R55). -/
theorem State.stopPort_eq (p : Nat) :
    s.stopPort p = (s.abandon p).modPort p (fun q => { q with
      state := .standby
      due := false
      arrivals := []
      processing := none
      heard := []
      heardTag := none
      calibration := []
      conditions := { q.conditions with
        calibrationFailed := q.conditions.calibrationFailed || (s.port p).state == .calibrating } }) := by
  refine State.modPort_congr _ ?_
  rw [← s.abandon_port_state p]
  generalize (s.abandon p).port p = q
  by_cases h : q.state = .calibrating
  · simp [Port.stopped, Port.withoutReports, h]
  · simp [Port.stopped, Port.withoutReports, h, beq_eq_false_iff_ne.mpr h]

/-- Settles O32: the effect of STOP, whose port stands in STANDBY. -/
theorem stopTakesThePortToStandby : Obligations.StopTakesThePortToStandby := by
  intro tag p s hr hp hs
  have hstandby : ((s.stopPort p.toNat).port p.toNat).state = .standby := by
    rw [State.stopPort, State.modPort_port_self _ hp]
    rfl
  have hrun : runCommand .host (.stop p) s =
      (s.stopPort p.toNat, { status := .ok, payload := [(s.port p.toNat).state.code, PortState.standby.code] }) := by
    rw [← hstandby]
    exact portCommand_ok s (permitted_host _ _) hp (stopCheck_none hs) (fun s => s.stopPort p.toNat)
  rw [s.stopPort_eq] at hrun
  exact exec_answered s hr tag (.stop p) hrun

end Sys2Proof.Machine
end

section
/-! LOOP closes (R53, R54, R112) and PORT CONFIGURE (R49 to R51). -/

namespace Sys2Proof.Machine

variable (s : State)

/-! ### LOOP closes -/

/-- The close of a LOOP window takes the window from the arbiter and hands the port its captured result. -/
theorem exec_loopClose {p : Lane} {w : OpenWindow} {f : Port → Port} (hh : s.resetHeld = false)
    (hw : (s.port p.val).window = some w) (hk : w.kind = .loop)
    (hf : ∀ q : Port, q.calibration = (s.port p.val).calibration → q.loopClosed w.captured = f q) :
    exec (.loopClose p) s = .next ((s.dropWindow p.val).modPort p.val f).settle := by
  have hexec : exec (.loopClose p) s =
      .next (if s.resetHeld then s else s.closeOf p.val .loop (State.loopClosedAt p.val)).settle := rfl
  have hcal : ((s.dropWindow p.val).port p.val).calibration = (s.port p.val).calibration := by
    rw [State.dropWindow, s.modPort_port_self p.isLt]
  have hmod : State.loopClosedAt p.val (s.dropWindow p.val) w = (s.dropWindow p.val).modPort p.val f :=
    State.modPort_congr _ (hf _ hcal)
  rw [hexec, hh, s.closeOf_open hw hk, hmod]
  rfl

/-- The mean of four offsets, where they lie close enough to one another and the mean within its range (R112). -/
theorem calibrationMean_four (a b d e : Nat) :
    calibrationMean [a, b, d, e] =
      if max (max a b) (max d e) - min (min a b) (min d e) ≤ 8 ∧ (a + b + d + e) / 4 ≤ 4095 then
        some ((a + b + d + e) / 4)
      else none := by
  have hmax : [a, b, d, e].foldl max 0 = max (max a b) (max d e) := by
    simp only [List.foldl_cons, List.foldl_nil]
    omega
  have hmin : [a, b, d, e].foldl min ([a, b, d, e].headD 0) = min (min a b) (min d e) := by
    simp only [List.foldl_cons, List.foldl_nil, List.headD_cons]
    omega
  have hsum : [a, b, d, e].sum = a + b + d + e := by
    simp only [List.sum_cons, List.sum_nil]
    omega
  rw [calibrationMean, hmax, hmin, hsum]

theorem Port.loopClosed_more {q : Port} {e : Captured} (h : q.calibration.length < 3) :
    q.loopClosed (some e) = { q with calibration := q.calibration ++ [e.offset] } :=
  if_pos (Nat.succ_lt_succ h)

theorem Port.loopClosed_fourth {q : Port} {e : Captured} {a b d : Nat} (h : q.calibration = [a, b, d]) :
    q.loopClosed (some e) = q.calibrationEnds (calibrationMean [a, b, d, e.offset]) := by
  simp [Port.loopClosed, h]

/-- Settles O52: a window without a result, one of the first three, and the fourth with a good and with a bad set. -/
theorem loopCloseCalibrates : Obligations.LoopCloseCalibrates := by
  rintro p s base w q hh rfl hw hk rfl
  refine ⟨fun hc => ?_, fun e hc hlen => ?_, fun a b d e hc hl => ⟨fun hspread hmean => ?_, fun hbad => ?_⟩⟩
  · exact exec_loopClose s hh hw hk (fun q _ => by rw [hc]; rfl)
  · exact exec_loopClose s hh hw hk (fun q hq => by rw [hc, Port.loopClosed_more (hq ▸ hlen)])
  · refine exec_loopClose s hh hw hk (fun q hq => ?_)
    rw [hc, Port.loopClosed_fourth (hq.trans hl), calibrationMean_four, if_pos ⟨hspread, hmean⟩]
    rfl
  · refine exec_loopClose s hh hw hk (fun q hq => ?_)
    rw [hc, Port.loopClosed_fourth (hq.trans hl), calibrationMean_four, if_neg (by omega)]
    rfl

/-! ### PORT CONFIGURE: its arguments (R49, R184) -/

/-- A byte of the discovery mode, read by the codes of R184 (log entry 38). -/
theorem DiscoveryMode.ofCode_eq (b : Byte) :
    DiscoveryMode.ofCode b =
      if b.toNat ≤ 2 then some (if b = 0#8 then .off else if b = 1#8 then .planned else .always) else none := by
  by_cases h : b.toNat ≤ 2
  · obtain rfl | rfl | rfl : b = 0#8 ∨ b = 1#8 ∨ b = 2#8 := by bv_omega
    all_goals rfl
  · rw [if_neg h]
    rw [DiscoveryMode.ofCode]
    split
    · omega
    · omega
    · omega
    · rfl

theorem Feed.ofCode_eq (b : Byte) :
    Feed.ofCode b = if b.toNat ≤ 1 then some (if b = 0#8 then .a else .b) else none := by
  by_cases h : b.toNat ≤ 1
  · obtain rfl | rfl : b = 0#8 ∨ b = 1#8 := by bv_omega
    all_goals rfl
  · rw [if_neg h]
    rw [Feed.ofCode]
    split
    · omega
    · omega
    · rfl

/-- The arguments of PORT CONFIGURE are good when something and nothing reserved is selected, every selected code is one of R184's, and
the configuration as it would stand lies in its ranges (R49). -/
theorem configArgsOk_iff {a : ConfigArgs} {c : PortConfig} :
    configArgsOk a c = true ↔
      (0 < a.selection.toNat ∧ a.selection.toNat < 32768)
        ∧ (picks a 7 = true → a.mode.toNat ≤ 2) ∧ (picks a 14 = true → a.feed.toNat ≤ 1)
        ∧ (configApplied a c).inRange = true := by
  have hmode : (DiscoveryMode.ofCode a.mode).isSome = decide (a.mode.toNat ≤ 2) := by
    rw [DiscoveryMode.ofCode_eq]
    split <;> simp [*]
  have hfeed : (Feed.ofCode a.feed).isSome = decide (a.feed.toNat ≤ 1) := by
    rw [Feed.ofCode_eq]
    split <;> simp [*]
  rw [configArgsOk, hmode, hfeed]
  simp [and_assoc, imp_iff_not_or]

theorem PortConfig.inRange_iff {c : PortConfig} :
    c.inRange = true ↔
      (1 ≤ c.teq ∧ c.teq ≤ 240000) ∧ (20000 ≤ c.tr ∧ c.tr ≤ 40000) ∧ (c.lo < c.hi ∧ c.hi ≤ 255)
        ∧ c.floor ≤ c.lo ∧ (c.hi ≤ c.ceiling ∧ c.ceiling ≤ 255) ∧ c.initIndex ≤ 7
        ∧ (16 ≤ c.interval ∧ c.interval ≤ 4096) ∧ c.initSpread ≤ 6 ∧ (8 ≤ c.period ∧ c.period ≤ 65535)
        ∧ c.hold ≤ 8 ∧ (c.hold < c.limit ∧ c.limit ≤ 256) ∧ c.gap ≤ 8 := by
  simp only [PortConfig.inRange, Bool.and_eq_true, decide_eq_true_eq, and_assoc]

/-- A selected mode that is one of the codes is the mode set. -/
theorem configApplied_eq {a : ConfigArgs} {c : PortConfig} (h : picks a 7 = true → a.mode.toNat ≤ 2) :
    configApplied a c = { configApplied a c with
      mode := if picks a 7 then if a.mode = 0#8 then .off else if a.mode = 1#8 then .planned else .always else c.mode } := by
  rw [configApplied, DiscoveryMode.ofCode_eq]
  cases hp : picks a 7 with
  | false => rfl
  | true => rw [if_pos (h hp)]; rfl

theorem configFeed_eq {a : ConfigArgs} {f : Feed} (h : picks a 14 = true → a.feed.toNat ≤ 1) :
    configFeed a f = if picks a 14 then if a.feed = 0#8 then .a else .b else f := by
  rw [configFeed, Feed.ofCode_eq]
  cases hp : picks a 14 with
  | false => rfl
  | true => rw [if_pos (h hp)]; rfl

/-! ### PORT CONFIGURE: its checks (R43, R49) -/

theorem State.rangedPresent_iff {p : Nat} :
    s.rangedPresent p = true ↔ ∃ n, n < 480 ∧ (s.record n).port = p ∧ (s.record n).ranging.isSome = true := by
  rw [State.rangedPresent, List.any_eq_true]
  constructor
  · rintro ⟨x, hx, ht⟩
    obtain ⟨n, hn, hg⟩ := List.mem_iff_getElem.mp hx
    have hlt : n < 480 := by simpa using hn
    refine ⟨n, hlt, ?_⟩
    have hs : s.stored n = x := by simpa [State.stored, hlt] using hg
    simpa [State.record, hs] using ht
  · rintro ⟨n, hn, hport, hranging⟩
    refine ⟨s.stored n, by simp [State.stored, hn], ?_⟩
    have hport' : (s.stored n).content.port = p := hport
    have hranging' : (s.stored n).content.ranging.isSome = true := hranging
    rw [hport', hranging', Bool.and_true, beq_self_eq_true]

theorem changesReach_iff {a : ConfigArgs} {q : Port} :
    changesReach a q = true ↔
      (configApplied a q.config).teq ≠ q.config.teq ∨ (configApplied a q.config).tr ≠ q.config.tr
        ∨ configFeed a q.feed ≠ q.feed := by
  simp [changesReach, or_assoc]

section
variable {a : ConfigArgs}

theorem doPortConfigure_noPort (hp : 4 ≤ a.port.toNat) : doPortConfigure .host a s = (s, bare .outOfRange) := by
  simp [doPortConfigure, permitted_host, Config.ports, hp]

theorem doPortConfigure_outOfRange (ha : configArgsOk a (s.port a.port.toNat).config = false) :
    doPortConfigure .host a s = (s, bare .outOfRange) := by
  simp [doPortConfigure, permitted_host, ha]

variable (hp : a.port.toNat < 4) (ha : configArgsOk a (s.port a.port.toNat).config = true)
include hp ha

theorem doPortConfigure_busy (hd : (s.port a.port.toNat).state ≠ .down) (hs : (s.port a.port.toNat).state ≠ .standby) :
    doPortConfigure .host a s = (s, { status := .busy, payload := [(s.port a.port.toNat).state.code] }) := by
  simp [doPortConfigure, permitted_host, Config.ports, Nat.not_le.mpr hp, ha, hd, hs]

variable (hs : (s.port a.port.toNat).state = .down ∨ (s.port a.port.toNat).state = .standby)
include hs

theorem doPortConfigure_idle :
    doPortConfigure .host a s =
      if changesReach a (s.port a.port.toNat) && s.rangedPresent a.port.toNat then
        (s, { status := .rangedPresent, payload := [(s.port a.port.toNat).state.code] })
      else
        (s.modPort a.port.toNat (Port.configured a),
          { status := .ok
            payload := (configApplied a (s.port a.port.toNat).config).bytes
              ++ [(configFeed a (s.port a.port.toNat).feed).code] }) := by
  rcases hs with hs | hs <;> simp [doPortConfigure, permitted_host, Config.ports, Nat.not_le.mpr hp, ha, hs]
end

/-- Settles O34: where the arguments are good, the statement's configuration and feed are those the model sets. -/
theorem portConfigureSetsItsSelection : Obligations.PortConfigureSetsItsSelection := by
  rintro tag a s q item set feed good changed hr rfl rfl hset hfeed hgood hchanged
  have hok : good ↔ configArgsOk a (s.port a.port.toNat).config = true := by
    rw [hgood, configArgsOk_iff, PortConfig.inRange_iff, hset]
    rfl
  refine ⟨fun hp => ?_, fun hp hbad => ?_, fun hp hg hdown hstandby => ?_, fun hp hg hs => ?_⟩
  · exact exec_answered s hr tag (.portConfigure a) (doPortConfigure_noPort s hp)
  · exact exec_answered s hr tag (.portConfigure a)
      (doPortConfigure_outOfRange s (Bool.eq_false_iff.mpr (fun h => hbad (hok.mpr h))))
  · exact exec_answered s hr tag (.portConfigure a) (doPortConfigure_busy s hp (hok.mp hg) hdown hstandby)
  · obtain ⟨-, hmode, hfeedOk, -⟩ := configArgsOk_iff.mp (hok.mp hg)
    have hfeedEq : feed = configFeed a (s.port a.port.toNat).feed := hfeed.trans (configFeed_eq hfeedOk).symm
    have hsetEq : set = configApplied a (s.port a.port.toNat).config := hset.trans (configApplied_eq hmode).symm
    rw [hsetEq, hfeedEq, ← changesReach_iff] at hchanged
    have hrun := doPortConfigure_idle s hp (hok.mp hg) hs
    refine ⟨fun n hc hn hport hranging => ?_, fun hfree => ?_⟩
    · rw [hchanged.mp hc, s.rangedPresent_iff.mpr ⟨n, hn, hport, hranging⟩] at hrun
      exact exec_answered s hr tag (.portConfigure a) hrun
    · have hfalse : ¬ (changesReach a (s.port a.port.toNat) && s.rangedPresent a.port.toNat) = true := by
        rw [Bool.and_eq_true, ← hchanged, s.rangedPresent_iff]
        rintro ⟨hc, n, hn, hport, hranging⟩
        rcases hfree with hsame | hnone
        · exact hsame hc
        · simp [hnone n hn hport] at hranging
      rw [if_neg hfalse] at hrun
      rw [hsetEq, hfeedEq]
      exact exec_answered s hr tag (.portConfigure a) hrun

end Sys2Proof.Machine
end

section
/-! PORT DISABLE, first part (R45, R79): its port's records one after another, and the records it leaves WAITING. -/

namespace Sys2Proof.Machine

variable (s : State)

/-! ### The queues of some ports -/

/-- The ports but `p`. -/
abbrev otherPorts (p : Nat) : List Nat := allPorts.filter (fun x => x != p)

theorem ne_of_mem_otherPorts {p q : Nat} (h : q ∈ otherPorts p) : q ≠ p := by
  simpa using (List.mem_filter.mp h).2

variable {s} in
theorem State.queuedNaming_congr {t : State} {ps : List Nat} (h : ∀ q ∈ ps, (t.port q).outbound = (s.port q).outbound)
    (n : Nat) : t.queuedNaming ps n = s.queuedNaming ps n := by
  rw [State.queuedNaming, State.queuedNaming, List.map_congr_left (fun q hq => by rw [h q hq])]

variable {s} in
theorem State.setDelayQueued_congr_on {t : State} {ps : List Nat} (h : ∀ q ∈ ps, (t.port q).outbound = (s.port q).outbound)
    (n : Nat) : t.setDelayQueued ps n = s.setDelayQueued ps n := by
  rw [State.setDelayQueued, State.setDelayQueued, Bool.eq_iff_iff, List.any_eq_true, List.any_eq_true]
  exact exists_congr fun q => and_congr_right fun hq => by rw [h q hq]

/-! ### The port's records become EXPECTED (R45) -/

/-- Record `r` holds a drop id on port `p`. -/
abbrev State.dropsOn (s : State) (p r : Nat) : Prop := (s.record r).port = p ∧ (s.record r).dropId ≠ 0

/-- What PORT DISABLE of port `p` makes of record `r` (R45). -/
def State.portDownOf (s : State) (p r : Nat) : Record :=
  (s.record r).portDown (s.queuedNaming (otherPorts p) r) (s.setDelayQueued (otherPorts p) r)

/-- `t` is `s` once PORT DISABLE of port `p` has gone over the records `rs`: those with a drop id on the port are EXPECTED, and the port's
drop map has lost their drop ids. -/
structure State.Disabled (s : State) (p : Nat) (rs : List Nat) (t : State) : Prop where
  record : ∀ n, t.record n = if n ∈ rs ∧ s.dropsOn p n then s.portDownOf p n else s.record n
  verifies : ∀ n, t.verifies n = s.verifies n
  changed : ∀ n, n ∈ t.changed ↔ n ∈ s.changed ∨ (n ∈ rs ∧ s.dropsOn p n)
  same : s.sameOutside t
  port_self : t.port p = { s.port p with dropMap := (t.port p).dropMap }
  port_ne : ∀ q, q ≠ p → t.port q = s.port q
  dropMap : ∀ e ∈ (t.port p).dropMap, e ∈ (s.port p).dropMap ∧ ∀ r ∈ rs, s.dropsOn p r → e.1 ≠ (s.record r).dropId

theorem State.Disabled.refl (p : Nat) : s.Disabled p [] s where
  record n := by simp
  verifies _ := rfl
  changed n := by simp
  same := s.sameOutside_refl
  port_self := rfl
  port_ne _ _ := rfl
  dropMap _ he := ⟨he, by simp⟩

theorem State.disableRecord_disabled {p r : Nat} (hp : p < 4) (hr : r < 480) : s.Disabled p [r] (s.disableRecord p r) := by
  by_cases h : s.dropsOn p r
  · rw [s.disableRecord_held h.1 h.2]
    refine ⟨fun n => ?_, fun n => ?_, fun n => ?_, ?_, ?_, fun q hq => ?_, fun e he => ?_⟩
    · by_cases hn : n = r
      · subst hn
        rw [State.change_record_self _ hr, if_pos ⟨List.mem_singleton_self n, h⟩]
        rfl
      · rw [State.record, State.change_stored_ne _ hn, if_neg (by simp [hn])]
        rfl
    · rw [State.change_verifies]
      rfl
    · rw [State.change_changed, mem_insertNumber, or_comm, List.mem_singleton]
      refine or_congr_right ⟨?_, And.left⟩
      rintro rfl
      exact ⟨rfl, h⟩
    · exact (s.modPort_sameOutside p _).trans (State.change_sameOutside _ r _)
    · rw [State.change_port, State.freeDrop, s.modPort_port_self hp]
    · rw [State.change_port, State.freeDrop, s.modPort_port_ne hq]
    · rw [State.change_port, State.freeDrop, s.modPort_port_self hp] at he
      obtain ⟨hmem, hne⟩ := List.mem_filter.mp he
      refine ⟨hmem, fun r' hr' _ => ?_⟩
      rw [List.mem_singleton.mp hr']
      simpa using hne
  · have hother : ∀ n, ¬ (n ∈ [r] ∧ s.dropsOn p n) := by
      rintro n ⟨hn, hd⟩
      exact h (List.mem_singleton.mp hn ▸ hd)
    rw [s.disableRecord_other (by tauto)]
    refine ⟨fun n => (if_neg (hother n)).symm, fun _ => rfl, fun n => ?_, s.sameOutside_refl, rfl, fun _ _ => rfl,
      fun e he => ⟨he, fun r' hr' hd => absurd ⟨hr', hd⟩ (hother r')⟩⟩
    rw [or_iff_left (hother n)]

variable {s}

theorem State.Disabled.cons {p r : Nat} {rs : List Nat} {t u : State} (h : s.Disabled p [r] t) (h' : t.Disabled p rs u)
    (hr : r ∉ rs) : s.Disabled p (r :: rs) u := by
  have hrec : ∀ n ∈ rs, t.record n = s.record n := fun n hn => by
    rw [h.record, if_neg]
    rintro ⟨hnr, -⟩
    exact hr (List.mem_singleton.mp hnr ▸ hn)
  have hdrops : ∀ n ∈ rs, (t.dropsOn p n ↔ s.dropsOn p n) := fun n hn => by rw [State.dropsOn, hrec n hn]
  have hq : ∀ q ∈ otherPorts p, (t.port q).outbound = (s.port q).outbound :=
    fun q hq => by rw [h.port_ne q (ne_of_mem_otherPorts hq)]
  refine ⟨fun n => ?_, fun n => (h'.verifies n).trans (h.verifies n), fun n => ?_, h.same.trans h'.same, ?_,
    fun q hqp => (h'.port_ne q hqp).trans (h.port_ne q hqp), fun e he => ?_⟩
  · rw [h'.record]
    by_cases hn : n ∈ rs
    · have hdown : t.portDownOf p n = s.portDownOf p n := by
        rw [State.portDownOf, State.portDownOf, hrec n hn, State.queuedNaming_congr hq, State.setDelayQueued_congr_on hq]
      simp [hn, hrec n hn, hdown, hdrops n hn]
    · rw [if_neg (by simp [hn]), h.record]
      simp [hn]
  · rw [h'.changed, h.changed]
    by_cases hn : n ∈ rs
    · have hne : n ≠ r := ne_of_mem_of_not_mem hn hr
      simp [hn, hdrops n hn, hne]
    · simp [hn]
  · rw [h'.port_self, h.port_self]
  · obtain ⟨het, hne⟩ := h'.dropMap e he
    obtain ⟨hes, hner⟩ := h.dropMap e het
    refine ⟨hes, fun n hn hd => ?_⟩
    rcases List.mem_cons.mp hn with rfl | hn
    · exact hner n (List.mem_singleton_self n) hd
    · rw [← hrec n hn]
      exact hne n hn ((hdrops n hn).mpr hd)

variable (s)

theorem State.disableRecords {p : Nat} (hp : p < 4) {rs : List Nat} (hrs : rs.Nodup) (hlt : ∀ r ∈ rs, r < 480) :
    s.Disabled p rs (eachNumber (State.disableRecord p) rs s) := by
  induction rs generalizing s with
  | nil => exact State.Disabled.refl s p
  | cons r rs ih =>
    obtain ⟨hr, hrs⟩ := List.nodup_cons.mp hrs
    exact (s.disableRecord_disabled hp (hlt r List.mem_cons_self)).cons
      (ih (s.disableRecord p r) hrs (fun n hn => hlt n (List.mem_cons_of_mem _ hn))) hr

/-! ### The records left WAITING, each served on its own port (R79) -/

/-- Record `r` of port `x` waits, and no SET DELAY that names it is queued. -/
def State.awaitsOn (s : State) (x r : Nat) : Bool :=
  (s.record r).port == x && (s.record r).delaySync == .waiting && !s.setDelayQueued allPorts r

/-- Of the records `rs` those that the queue of port `x` takes a SET DELAY for, in their order. -/
def State.servedAmong (s : State) (rs : List Nat) (x : Nat) : List Nat :=
  (rs.filter (s.awaitsOn x)).take (64 - (s.port x).outbound.length)

/-- `t` is `s` once the records `rs` have been served, each on its own port (R79). -/
structure State.ServedEach (s : State) (rs : List Nat) (t : State) : Prop where
  port : ∀ x < 4, t.port x =
    { s.port x with outbound := (s.port x).outbound ++ (s.servedAmong rs x).map .setDelay }
  record : ∀ n, t.record n =
    if n ∈ s.servedAmong rs (s.record n).port then (s.record n).served else s.record n
  verifies : ∀ n, t.verifies n = s.verifies n
  changed : t.changed = s.changed
  same : s.sameOutside t

variable {s}

theorem State.awaitsOn_iff {x r : Nat} :
    s.awaitsOn x r = true ↔
      (s.record r).port = x ∧ (s.record r).delaySync = .waiting ∧ s.setDelayQueued allPorts r = false := by
  simp [State.awaitsOn, and_assoc]

theorem State.mem_of_servedAmong {rs : List Nat} {x n : Nat} (h : n ∈ s.servedAmong rs x) :
    n ∈ rs ∧ s.awaitsOn x n = true := List.mem_filter.mp (List.mem_of_mem_take h)

theorem State.servedAmong_nil (x : Nat) : s.servedAmong [] x = [] := by
  simp [State.servedAmong]

/-- A record that does not await its SET DELAY on a port is passed over there. -/
theorem State.servedAmong_cons_other {x r : Nat} {rs : List Nat} (h : s.awaitsOn x r = false) :
    s.servedAmong (r :: rs) x = s.servedAmong rs x := by
  rw [State.servedAmong, List.filter_cons_of_neg (by simp [h]), State.servedAmong]

theorem State.servedAmong_full {x : Nat} (h : 64 ≤ (s.port x).outbound.length) (rs : List Nat) : s.servedAmong rs x = [] := by
  rw [State.servedAmong, Nat.sub_eq_zero_of_le h, List.take_zero]

/-- Of the SET DELAYs of other records one more changes nothing. -/
theorem State.serve_setDelayQueued_ne {x r n : Nat} (hx : x < 4) (h : n ≠ r) :
    (s.serve x r).setDelayQueued allPorts n = s.setDelayQueued allPorts n := by
  rw [← Bool.not_inj_iff, Bool.eq_iff_iff, Bool.not_eq_true', Bool.not_eq_true', State.setDelayQueued_false_iff,
    State.setDelayQueued_false_iff]
  refine forall₂_congr fun q hq => ?_
  by_cases hqx : q = x
  · subst hqx
    simp [s.serve_port_self hq, h]
  · rw [s.serve_port_ne hqx]

theorem State.serve_awaitsOn_ne {x y r n : Nat} (hx : x < 4) (h : n ≠ r) : (s.serve x r).awaitsOn y n = s.awaitsOn y n := by
  rw [State.awaitsOn, State.awaitsOn, s.serve_record_ne h, State.serve_setDelayQueued_ne hx h]

/-- The record served comes first on its port. -/
theorem State.servedAmong_cons_self {x r : Nat} {rs : List Nat} (hx : x < 4) (hr : r ∉ rs) (ha : s.awaitsOn x r = true)
    (hroom : (s.port x).outbound.length < 64) :
    s.servedAmong (r :: rs) x = r :: (s.serve x r).servedAmong rs x := by
  have hlen : 64 - (s.port x).outbound.length = (64 - ((s.serve x r).port x).outbound.length) + 1 := by
    rw [s.serve_port_self hx, List.length_append, List.length_singleton]
    omega
  have hfilter : rs.filter ((s.serve x r).awaitsOn x) = rs.filter (s.awaitsOn x) :=
    List.filter_congr fun n hn => State.serve_awaitsOn_ne hx (ne_of_mem_of_not_mem hn hr)
  rw [State.servedAmong, List.filter_cons_of_pos ha, hlen, List.take_succ_cons, ← hfilter, State.servedAmong]

/-- A record served on its port leaves the others' turns as they are. -/
theorem State.servedAmong_cons_ne {x y r : Nat} {rs : List Nat} (hx : x < 4) (hr : r ∉ rs) (ha : s.awaitsOn x r = true)
    (hy : y ≠ x) : s.servedAmong (r :: rs) y = (s.serve x r).servedAmong rs y := by
  have hother : s.awaitsOn y r = false := by
    rw [Bool.eq_false_iff]
    intro h
    exact hy ((State.awaitsOn_iff.mp h).1.symm.trans (State.awaitsOn_iff.mp ha).1)
  have hfilter : rs.filter ((s.serve x r).awaitsOn y) = rs.filter (s.awaitsOn y) :=
    List.filter_congr fun n hn => State.serve_awaitsOn_ne hx (ne_of_mem_of_not_mem hn hr)
  rw [State.servedAmong_cons_other hother, State.servedAmong, ← hfilter, State.servedAmong, s.serve_port_ne hy]

/-- A record is served on its port, or nothing happens: it does not await its SET DELAY, or its queue is full (R79). -/
theorem State.serveWaiting_cases {r x : Nat} (hx : (s.record r).port = x) :
    (s.awaitsOn x r = true ∧ (s.port x).outbound.length < 64 ∧ s.serveWaiting r = s.serve x r)
      ∨ ((s.awaitsOn x r = false ∨ 64 ≤ (s.port x).outbound.length) ∧ s.serveWaiting r = s) := by
  subst hx
  by_cases hw : (s.record r).delaySync = .waiting
  · rw [s.serveWaiting_waiting hw]
    cases hq : s.setDelayQueued allPorts r with
    | true => exact .inr ⟨.inl (by simp [State.awaitsOn, hq]), s.queueSetDelay_none (.inr hq)⟩
    | false =>
      by_cases hroom : (s.port (s.record r).port).outbound.length < 64
      · exact .inl ⟨State.awaitsOn_iff.mpr ⟨rfl, hw, hq⟩, hroom, s.queueSetDelay_room hroom hq⟩
      · exact .inr ⟨.inr (Nat.le_of_not_lt hroom), s.queueSetDelay_none (.inl (Nat.le_of_not_lt hroom))⟩
  · exact .inr ⟨.inl (by simp [State.awaitsOn, hw]), s.serveWaiting_none hw⟩

theorem State.ServedEach.cons_served {x r : Nat} {rs : List Nat} {t : State} (hx : x < 4) (hlt : r < 480) (hr : r ∉ rs)
    (ha : s.awaitsOn x r = true) (hroom : (s.port x).outbound.length < 64) (h : (s.serve x r).ServedEach rs t) :
    s.ServedEach (r :: rs) t where
  port y hy := by
    rw [h.port y hy]
    by_cases hyx : y = x
    · subst hyx
      rw [State.servedAmong_cons_self hx hr ha hroom, s.serve_port_self hx]
      simp
    · rw [State.servedAmong_cons_ne hx hr ha hyx, s.serve_port_ne hyx]
  record n := by
    rw [h.record]
    by_cases hn : n = r
    · subst hn
      have hport : (s.record n).port = x := (State.awaitsOn_iff.mp ha).1
      rw [if_neg (fun hm => hr (State.mem_of_servedAmong hm).1), hport, State.servedAmong_cons_self hx hr ha hroom,
        if_pos List.mem_cons_self, s.serve_record_self hlt]
    · rw [s.serve_record_ne hn]
      by_cases hport : (s.record n).port = x
      · rw [hport, State.servedAmong_cons_self hx hr ha hroom]
        simp [hn]
      · rw [State.servedAmong_cons_ne hx hr ha hport]
  verifies n := (h.verifies n).trans (s.serve_verifies x r n)
  changed := h.changed.trans (s.serve_changed x r)
  same := (s.serve_sameOutside x r).trans h.same

theorem State.ServedEach.cons_other {r : Nat} {rs : List Nat} {t : State}
    (hno : s.awaitsOn (s.record r).port r = false ∨ 64 ≤ (s.port (s.record r).port).outbound.length)
    (h : s.ServedEach rs t) : s.ServedEach (r :: rs) t := by
  have hsame : ∀ y, s.servedAmong (r :: rs) y = s.servedAmong rs y := fun y => by
    cases ha : s.awaitsOn y r with
    | false => exact State.servedAmong_cons_other ha
    | true =>
      have hy : (s.record r).port = y := (State.awaitsOn_iff.mp ha).1
      rw [hy, ha] at hno
      have hfull : 64 ≤ (s.port y).outbound.length := hno.resolve_left nofun
      rw [State.servedAmong_full hfull, State.servedAmong_full hfull]
  refine ⟨fun y hy => ?_, fun n => ?_, h.verifies, h.changed, h.same⟩
  · rw [hsame, h.port y hy]
  · rw [hsame, h.record]

variable (s)

theorem State.serveWaitings {rs : List Nat} (hrs : rs.Nodup) (hlt : ∀ r ∈ rs, r < 480)
    (hport : ∀ r ∈ rs, (s.record r).port < 4) : s.ServedEach rs (eachNumber State.serveWaiting rs s) := by
  induction rs generalizing s with
  | nil =>
    exact ⟨fun x _ => by simp [State.servedAmong_nil], fun n => by simp [State.servedAmong_nil], fun _ => rfl, rfl,
      s.sameOutside_refl⟩
  | cons r rs ih =>
    obtain ⟨hr, hrs⟩ := List.nodup_cons.mp hrs
    have hlt' : ∀ n ∈ rs, n < 480 := fun n hn => hlt n (List.mem_cons_of_mem _ hn)
    rw [eachNumber_cons]
    rcases s.serveWaiting_cases rfl with ⟨ha, hroom, hstep⟩ | ⟨hno, hstep⟩
    · rw [hstep]
      refine State.ServedEach.cons_served (hport r List.mem_cons_self) (hlt r List.mem_cons_self) hr ha hroom
        (ih _ hrs hlt' (fun n hn => ?_))
      rw [s.serve_record_ne (ne_of_mem_of_not_mem hn hr)]
      exact hport n (List.mem_cons_of_mem _ hn)
    · rw [hstep]
      exact State.ServedEach.cons_other hno (ih s hrs hlt' (fun n hn => hport n (List.mem_cons_of_mem _ hn)))

end Sys2Proof.Machine
end

section
/-! PORT DISABLE as a whole (R45, R79, R80). -/

namespace Sys2Proof.Machine

variable {s : State} {p : Nat}

/-! ### What a record's descriptors say of it -/

theorem countNaming_pos_iff {ds : List Descriptor} {r : Nat} :
    0 < countNaming ds r ↔ ds.any (fun d => d.names == some r) = true := by
  rw [countNaming, List.countP_pos_iff, List.any_eq_true]

theorem any_isSetDelayOf (ds : List Descriptor) (r : Nat) :
    ds.any (fun d => d.isSetDelayOf r) = ds.contains (.setDelay r) := by
  rw [Bool.eq_iff_iff, List.any_eq_true, List.contains_iff_mem]
  simp [Descriptor.isSetDelayOf]

/-- A SET DELAY is one of the descriptors that name its record. -/
theorem not_contains_of_countNaming {ds : List Descriptor} {r : Nat} (h : countNaming ds r = 0) :
    ds.contains (.setDelay r) = false := by
  rw [Bool.eq_false_iff, ne_eq, List.contains_iff_mem]
  intro hm
  exact List.countP_eq_zero.mp h _ hm (by simp [Descriptor.names])

theorem Record.portDown_not_waiting (c : Record) (n : Nat) (setDelay : Bool) :
    (c.portDown n setDelay).delaySync ≠ .waiting := by
  cases setDelay <;> exact nofun

theorem Record.afterDiscard_waiting (c : Record) (k : Nat) (setDelay : Bool) :
    ((c.afterDiscard k setDelay).delaySync == .waiting) =
      if setDelay then c.ranging.isSome else c.delaySync == .waiting := by
  cases setDelay with
  | false => rfl
  | true => cases h : c.ranging <;> simp [Record.afterDiscard, Record.queueEmptied, h]

/-! ### The part before records are served -/

theorem State.mem_disableSet {n : Nat} :
    n ∈ s.disableSet p ↔ n < 480 ∧ ((∃ d, (d, n) ∈ (s.port p).dropMap) ∨ s.dropsOn p n
      ∨ 0 < countNaming (s.port p).outbound n) := by
  simp [State.disableSet, allRecords, Config.records, countNaming_pos_iff, or_assoc]

/-- The drop map of port `p` names records of the port, each under its own drop id. -/
def State.dropMapSound (s : State) (p : Nat) : Prop :=
  ∀ d r, (d, r) ∈ (s.port p).dropMap → r < 480 ∧ d ≠ 0 ∧ (s.record r).port = p ∧ (s.record r).dropId = d

/-- PORT DISABLE visits a record of another port exactly when the queue names it. -/
theorem State.mem_disableSet_other (hm : s.dropMapSound p) {n : Nat} (hn : n < 480) (hport : (s.record n).port ≠ p) :
    n ∈ s.disableSet p ↔ 0 < countNaming (s.port p).outbound n := by
  rw [State.mem_disableSet]
  refine ⟨fun ⟨_, h⟩ => ?_, fun h => ⟨hn, .inr (.inr h)⟩⟩
  rcases h with ⟨d, hd⟩ | ⟨hpp, -⟩ | h
  · obtain ⟨-, -, hpp, -⟩ := hm d n hd
    exact absurd hpp hport
  · exact absurd hpp hport
  · exact h

/-- PORT DISABLE before the records left WAITING are served. -/
def State.portDisabled (s : State) (p : Nat) : State :=
  (eachNumber (State.disableRecord p) (s.disableSet p) (s.emptyOutbound p)).modPort p Port.disabled

/-- PORT DISABLE of a part whose records verify. -/
theorem State.disablePort_eq (hv : s.allVerify) :
    s.disablePort p = eachNumber State.serveWaiting (s.disableSet p) (s.portDisabled p) := by
  have hsame : eachNumber State.verifyOrDamage (s.disableSet p) s = s :=
    eachNumber_same s fun n hn => s.verifyOrDamage_of_verifies (hv n (State.mem_disableSet.mp hn).1)
  rw [State.disablePort, hsame]
  rfl

/-- Every record is on a port, and one without a drop id has no EqD and waits for none. -/
def State.recordsPlaced (s : State) : Prop :=
  ∀ r, r < 480 → (s.record r).port ≤ 3
    ∧ ((s.record r).dropId = 0 → (s.record r).ranging = none ∧ (s.record r).delaySync ≠ .waiting)

/-- What the discarding of the queue of port `p` leaves of record `n` (R80). -/
def State.discardedOf (s : State) (p n : Nat) : Record :=
  (s.record n).afterDiscard (countNaming (s.port p).outbound n) ((s.port p).outbound.contains (.setDelay n))

theorem State.emptyOutbound_record_eq {n : Nat} (hn : n < 480) : (s.emptyOutbound p).record n = s.discardedOf p n := by
  rw [s.emptyOutbound_record hn, State.discardedOf, ← any_isSetDelayOf]
  simp [State.queuedNaming, State.setDelayQueued]

theorem State.emptyOutbound_dropsOn {n : Nat} (hn : n < 480) : (s.emptyOutbound p).dropsOn p n ↔ s.dropsOn p n := by
  rw [State.dropsOn, State.emptyOutbound_record_eq hn]
  rfl

/-! ### The records left waiting (R79) -/

/-- The records of port `x` that the disabled port's queue leaves waiting, in rising order: a SET DELAY of theirs was lost there, or they
had none. -/
def State.leftWaiting (s : State) (p x : Nat) : List Nat :=
  (List.range 480).filter (fun r =>
    (s.record r).port == x && decide (0 < countNaming (s.port p).outbound r) && !s.setDelayQueued (otherPorts p) r
      && (if (s.port p).outbound.contains (.setDelay r) then (s.record r).ranging.isSome
        else (s.record r).delaySync == .waiting))

theorem State.countNaming_of_leftWaiting {x n : Nat} (h : n ∈ s.leftWaiting p x) : 0 < countNaming (s.port p).outbound n := by
  have ht := (List.mem_filter.mp h).2
  simp only [Bool.and_eq_true, decide_eq_true_eq] at ht
  obtain ⟨⟨⟨-, hcount⟩, -⟩, -⟩ := ht
  exact hcount

/-- A record without a drop id has nothing to wait for. -/
theorem State.not_mem_leftWaiting (hs : s.recordsPlaced) {x n : Nat} (h : (s.record n).dropId = 0) :
    n ∉ s.leftWaiting p x := by
  intro hmem
  obtain ⟨hn, ht⟩ := List.mem_filter.mp hmem
  obtain ⟨hnone, hsync⟩ := (hs n (List.mem_range.mp hn)).2 h
  simp [hnone, hsync] at ht

/-! ### The part before they are served, port by port and record by record -/

section
variable (hp : p < 4)
include hp

theorem State.emptyOutbound_disabled :
    (s.emptyOutbound p).Disabled p (s.disableSet p)
      (eachNumber (State.disableRecord p) (s.disableSet p) (s.emptyOutbound p)) :=
  (s.emptyOutbound p).disableRecords hp (allRecords_nodup.filter _) (fun _ hr => (State.mem_disableSet.mp hr).1)

theorem State.emptyOutbound_port_self : (s.emptyOutbound p).port p = { s.port p with outbound := [] } := by
  rw [State.emptyOutbound, State.modPort_port_self _ hp, State.port, (s.discards_countsOnly _).ports, State.port]

theorem State.portDisabled_port_self (hm : s.dropMapSound p) :
    (s.portDisabled p).port p =
      { s.port p with
        state := .down
        arrivals := []
        processing := none
        heard := []
        heardTag := none
        activation := []
        outbound := []
        owed := 0
        cursor := 0
        dropMap := [] } := by
  have hd := State.emptyOutbound_disabled (s := s) hp
  have hself := State.emptyOutbound_port_self (s := s) hp
  have hnil : ((eachNumber (State.disableRecord p) (s.disableSet p) (s.emptyOutbound p)).port p).dropMap = [] := by
    rw [List.eq_nil_iff_forall_not_mem]
    rintro ⟨d, r⟩ he
    obtain ⟨hes, hne⟩ := hd.dropMap _ he
    rw [hself] at hes
    obtain ⟨hr, hd0, hport, hdrop⟩ := hm d r hes
    have hdrops : s.dropsOn p r := ⟨hport, by rwa [hdrop]⟩
    refine hne r (State.mem_disableSet.mpr ⟨hr, .inr (.inl hdrops)⟩) ((State.emptyOutbound_dropsOn hr).mpr hdrops) ?_
    rw [State.emptyOutbound_record_eq hr]
    exact hdrop.symm
  rw [State.portDisabled, State.modPort_port_self _ hp, hd.port_self, hnil, hself]
  rfl

theorem State.portDisabled_port_ne {q : Nat} (h : q ≠ p) : (s.portDisabled p).port q = s.port q := by
  rw [State.portDisabled, State.modPort_port_ne _ h, (State.emptyOutbound_disabled hp).port_ne q h, s.emptyOutbound_port_ne h]

theorem State.portDisabled_record {n : Nat} (hn : n < 480) :
    (s.portDisabled p).record n =
      if s.dropsOn p n then
        (s.record n).portDown (s.queuedNaming (otherPorts p) n) (s.setDelayQueued (otherPorts p) n)
      else s.discardedOf p n := by
  have hq : ∀ q ∈ otherPorts p, ((s.emptyOutbound p).port q).outbound = (s.port q).outbound :=
    fun q hq => by rw [s.emptyOutbound_port_ne (ne_of_mem_otherPorts hq)]
  have hmem : n ∈ s.disableSet p ∧ (s.emptyOutbound p).dropsOn p n ↔ s.dropsOn p n := by
    rw [State.emptyOutbound_dropsOn hn]
    exact ⟨And.right, fun h => ⟨State.mem_disableSet.mpr ⟨hn, .inr (.inl h)⟩, h⟩⟩
  rw [State.portDisabled, State.modPort_record, (State.emptyOutbound_disabled hp).record, if_congr hmem rfl rfl,
    State.portDownOf, State.queuedNaming_congr hq, State.setDelayQueued_congr_on hq, State.emptyOutbound_record_eq hn]
  rfl

theorem State.portDisabled_verifies (n : Nat) : (s.portDisabled p).verifies n = s.verifies n := by
  rw [State.portDisabled, State.modPort_verifies, (State.emptyOutbound_disabled hp).verifies, s.emptyOutbound_verifies]

theorem State.mem_portDisabled_changed (n : Nat) :
    n ∈ (s.portDisabled p).changed ↔ n ∈ s.changed ∨ (n < 480 ∧ (s.record n).port = p ∧ (s.record n).dropId ≠ 0) := by
  rw [State.portDisabled, State.modPort_changed, (State.emptyOutbound_disabled hp).changed, s.emptyOutbound_changed]
  refine or_congr_right ⟨?_, ?_⟩
  · rintro ⟨hmem, hd⟩
    have hn := (State.mem_disableSet.mp hmem).1
    exact ⟨hn, (State.emptyOutbound_dropsOn hn).mp hd⟩
  · rintro ⟨hn, hd⟩
    exact ⟨State.mem_disableSet.mpr ⟨hn, .inr (.inl hd)⟩, (State.emptyOutbound_dropsOn hn).mpr hd⟩

theorem State.portDisabled_sameOutside : s.sameOutside (s.portDisabled p) :=
  ((s.emptyOutbound_sameOutside p).trans (State.emptyOutbound_disabled hp).same).trans (State.modPort_sameOutside _ _ _)

theorem State.portDisabled_record_port {n : Nat} (hn : n < 480) : ((s.portDisabled p).record n).port = (s.record n).port := by
  rw [State.portDisabled_record hp hn]
  split <;> rfl

/-- The disabled port's queue is empty, so a SET DELAY stands queued only elsewhere. -/
theorem State.portDisabled_setDelayQueued (hm : s.dropMapSound p) (n : Nat) :
    (s.portDisabled p).setDelayQueued allPorts n = s.setDelayQueued (otherPorts p) n := by
  have hq : ∀ q ∈ otherPorts p, ((s.portDisabled p).port q).outbound = (s.port q).outbound :=
    fun q hq => by rw [State.portDisabled_port_ne hp (ne_of_mem_otherPorts hq)]
  rw [← State.setDelayQueued_congr_on hq, State.setDelayQueued, State.setDelayQueued, List.any_filter,
    Bool.eq_iff_iff, List.any_eq_true, List.any_eq_true]
  refine exists_congr fun q => and_congr_right fun _ => ?_
  by_cases h : q = p
  · rw [h, State.portDisabled_port_self hp hm]
    simp
  · simp [h]

/-! ### The records served (R79) -/

/-- A record of another port is served exactly when it is left waiting there. -/
theorem State.portDisabled_awaitsOn (hm : s.dropMapSound p) {x n : Nat} (hx : x ≠ p) (hn : n < 480)
    (hport : (s.record n).port = x) :
    (s.portDisabled p).awaitsOn x n =
      (!s.setDelayQueued (otherPorts p) n
        && (if (s.port p).outbound.contains (.setDelay n) then (s.record n).ranging.isSome
          else (s.record n).delaySync == .waiting)) := by
  have hrec : (s.portDisabled p).record n = s.discardedOf p n := by
    rw [State.portDisabled_record hp hn, if_neg]
    rintro ⟨hpp, -⟩
    exact hx (hport.symm.trans hpp)
  have hport' : (s.discardedOf p n).port = x := hport
  rw [State.awaitsOn, State.portDisabled_setDelayQueued hp hm, hrec, hport', beq_self_eq_true, Bool.true_and,
    State.discardedOf, Record.afterDiscard_waiting, Bool.and_comm]

theorem State.portDisabled_servedAmong (hm : s.dropMapSound p) {x : Nat} (hx : x ≠ p) :
    (s.portDisabled p).servedAmong (s.disableSet p) x = (s.leftWaiting p x).take (64 - (s.port x).outbound.length) := by
  have hfilter : (s.disableSet p).filter ((s.portDisabled p).awaitsOn x) = s.leftWaiting p x := by
    have hset : s.disableSet p = (List.range 480).filter (fun r => decide (r ∈ s.disableSet p)) :=
      List.filter_congr fun n hn => by
        rw [Bool.eq_iff_iff, decide_eq_true_iff, State.disableSet, List.mem_filter]
        exact (and_iff_right hn).symm
    rw [hset, List.filter_filter, State.leftWaiting]
    refine List.filter_congr fun n hn => ?_
    have hlt : n < 480 := List.mem_range.mp hn
    by_cases hport : (s.record n).port = x
    · have hmem : decide (n ∈ s.disableSet p) = decide (0 < countNaming (s.port p).outbound n) :=
        decide_eq_decide.mpr (State.mem_disableSet_other hm hlt (hport ▸ hx))
      rw [State.portDisabled_awaitsOn hp hm hx hlt hport, hmem, hport]
      simp [Bool.and_comm, Bool.and_left_comm]
    · have hno : (s.portDisabled p).awaitsOn x n = false := by
        rw [Bool.eq_false_iff]
        intro h
        exact hport ((State.portDisabled_record_port hp hlt).symm.trans (State.awaitsOn_iff.mp h).1)
      simp [hno, hport]
  rw [State.servedAmong, hfilter, State.portDisabled_port_ne hp hx]

/-- No record of the disabled port itself waits. -/
theorem State.portDisabled_servedAmong_self (hs : s.recordsPlaced) :
    (s.portDisabled p).servedAmong (s.disableSet p) p = [] := by
  rw [List.eq_nil_iff_forall_not_mem]
  intro n hmem
  obtain ⟨hset, ha⟩ := State.mem_of_servedAmong hmem
  obtain ⟨hport, hw, -⟩ := State.awaitsOn_iff.mp ha
  have hn := (State.mem_disableSet.mp hset).1
  rw [State.portDisabled_record_port hp hn] at hport
  rw [State.portDisabled_record hp hn] at hw
  split at hw
  · exact Record.portDown_not_waiting _ _ _ hw
  · next hno =>
    have hd : (s.record n).dropId = 0 := by_contra fun hd => hno ⟨hport, hd⟩
    obtain ⟨hnone, hsync⟩ := (hs n hn).2 hd
    have hw' := beq_iff_eq.mpr hw
    rw [State.discardedOf, Record.afterDiscard_waiting, hnone] at hw'
    simp [hsync] at hw'

/-! ### The effect put together -/

theorem State.disablePort_served (hv : s.allVerify) (hs : s.recordsPlaced) :
    (s.portDisabled p).ServedEach (s.disableSet p) (s.disablePort p) := by
  rw [State.disablePort_eq hv]
  refine State.serveWaitings _ (allRecords_nodup.filter _) (fun r hr => (State.mem_disableSet.mp hr).1) (fun r hr => ?_)
  have hr' := (State.mem_disableSet.mp hr).1
  rw [State.portDisabled_record_port hp hr']
  exact Nat.lt_succ_of_le (hs r hr').1

theorem State.disablePort_port_self (hv : s.allVerify) (hs : s.recordsPlaced) :
    (s.disablePort p).port p = (s.portDisabled p).port p := by
  rw [(State.disablePort_served hp hv hs).port p hp, State.portDisabled_servedAmong_self hp hs]
  simp

theorem State.disablePort_port_ne (hv : s.allVerify) (hm : s.dropMapSound p) (hs : s.recordsPlaced) {x : Nat} (hx : x < 4)
    (hxp : x ≠ p) :
    (s.disablePort p).port x = { s.port x with
      outbound := (s.port x).outbound
        ++ ((s.leftWaiting p x).take (64 - (s.port x).outbound.length)).map .setDelay } := by
  rw [(State.disablePort_served hp hv hs).port x hx, State.portDisabled_servedAmong hp hm hxp, State.portDisabled_port_ne hp hxp]

theorem State.disablePort_record_held (hv : s.allVerify) (hs : s.recordsPlaced) {n : Nat} (hn : n < 480)
    (hd : s.dropsOn p n) :
    (s.disablePort p).record n =
      (s.record n).portDown (s.queuedNaming (otherPorts p) n) (s.setDelayQueued (otherPorts p) n) := by
  rw [(State.disablePort_served hp hv hs).record, State.portDisabled_record_port hp hn, hd.1,
    State.portDisabled_servedAmong_self hp hs, if_neg List.not_mem_nil, State.portDisabled_record hp hn, if_pos hd]

/-- A record without a drop id on the disabled port only loses its descriptors there, and may be served on its own port (R79,
R80). -/
theorem State.disablePort_record_other (hv : s.allVerify) (hm : s.dropMapSound p) (hs : s.recordsPlaced) {n : Nat} (hn : n < 480)
    (hd : ¬ s.dropsOn p n) :
    (s.disablePort p).record n =
      if n ∈ (s.leftWaiting p (s.record n).port).take (64 - (s.port (s.record n).port).outbound.length) then
        (s.discardedOf p n).served
      else s.discardedOf p n := by
  rw [(State.disablePort_served hp hv hs).record, State.portDisabled_record_port hp hn, State.portDisabled_record hp hn,
    if_neg hd]
  by_cases hport : (s.record n).port = p
  · have hleft : n ∉ s.leftWaiting p p := State.not_mem_leftWaiting hs (by_contra fun hdrop => hd ⟨hport, hdrop⟩)
    rw [hport, State.portDisabled_servedAmong_self hp hs, if_neg List.not_mem_nil,
      if_neg (fun hmem => hleft (List.mem_of_mem_take hmem))]
  · rw [State.portDisabled_servedAmong hp hm hport]

theorem State.disablePort_verifies (hv : s.allVerify) (hs : s.recordsPlaced) : (s.disablePort p).allVerify := fun n hn => by
  rw [(State.disablePort_served hp hv hs).verifies, State.portDisabled_verifies hp, hv n hn]

theorem State.disablePort_sameOutside (hv : s.allVerify) (hs : s.recordsPlaced) : s.sameOutside (s.disablePort p) :=
  (State.portDisabled_sameOutside hp).trans (State.disablePort_served hp hv hs).same
end

/-- A record with its content and its verification is stored as before (R162). -/
theorem State.stored_eq_of_verifies {t : State} {n : Nat} (hs : s.verifies n = true) (ht : t.verifies n = true)
    (h : t.record n = s.record n) : t.stored n = s.stored n := by
  have hchecks : ∀ x y : StoredRecord, x.verifies = true → y.verifies = true → x.content = y.content → x = y := by
    rintro ⟨c, k⟩ ⟨c', k'⟩ hx hy rfl
    simp only [StoredRecord.verifies, beq_iff_eq] at hx hy
    rw [← hx, ← hy]
  exact hchecks _ _ ht hs h

/-- Settles O33: the ports, the records and the frame of `disablePort`, and the reply. -/
theorem portDisableEndsService : Obligations.PortDisableEndsService := by
  rintro tag b s p others away left served hr hpb hp hstandby hv hm hs rfl rfl rfl rfl
  have hm : s.dropMapSound p := hm
  have hs : s.recordsPlaced := hs
  have hself := (State.disablePort_port_self hp hv hs).trans (State.portDisabled_port_self hp hm)
  have hrun : runCommand .host (.portDisable b) s =
      (s.disablePort p, { status := .ok, payload := [PortState.standby.code, PortState.down.code] }) := by
    have hok := portCommand_ok s (l := .host) (permitted_host _ _) hp (needPortState_self (inWork := .busy) hstandby)
      (fun s => s.disablePort p)
    rw [hself, hstandby, hpb] at hok
    rw [hpb]
    exact hok
  have hother : ∀ r, (s.record r).port ≠ p ∨ (s.record r).dropId = 0 → ¬ s.dropsOn p r :=
    fun r h hd => h.elim (fun hne => hne hd.1) (fun h0 => hd.2 h0)
  refine ⟨_, exec_answered s hr tag (.portDisable b) hrun, ?_, fun x hx hxp => ?_, fun r hn hport hdrop => ?_, fun n => ?_,
    fun r ha hc => ?_, fun r ha hserved => ?_, fun r ha hserved => ?_, fun n hn => ?_, ?_⟩
  · rw [State.replied_port, hself]
  · rw [State.replied_port]
    exact State.disablePort_port_ne hp hv hm hs hx hxp
  · rw [State.replied_record]
    exact State.disablePort_record_held hp hv hs hn ⟨hport, hdrop⟩
  · rw [State.replied_changed, (State.disablePort_served hp hv hs).changed, State.mem_portDisabled_changed hp]
  · rw [State.replied_stored]
    refine State.stored_eq_of_verifies (hv r ha.1) (State.disablePort_verifies hp hv hs r ha.1) ?_
    rw [State.disablePort_record_other hp hv hm hs ha.1 (hother r ha.2), if_neg, State.discardedOf, hc,
      not_contains_of_countNaming hc, Record.afterDiscard_zero]
    intro hmem
    exact (State.countNaming_of_leftWaiting (List.mem_of_mem_take hmem)).ne' hc
  · rw [State.replied_record, State.disablePort_record_other hp hv hm hs ha.1 (hother r ha.2)]
    exact if_pos hserved
  · rw [State.replied_record, State.disablePort_record_other hp hv hm hs ha.1 (hother r ha.2)]
    exact if_neg hserved
  · rw [State.replied_verifies]
    exact State.disablePort_verifies hp hv hs n hn
  · rw [State.replied_host, State.disablePort_sameOutside hp hv hs]

end Sys2Proof.Machine
end

section
/-! What every step keeps, first part: the relation between a state and what work on it leaves, and the operations over records, ports and
queues. -/

namespace Sys2Proof.Machine

/-! ### Ports -/

/-- The number of SET DELAYs that name record `n` in a queue. -/
abbrev setDelays (ds : List Descriptor) (n : Nat) : Nat := ds.countP (fun d => d.isSetDelayOf n)

/-- A change of one port keeps its bounds, the agreement of its window and changeover with its state and the order of its drop map. -/
structure Port.Keeps (q q' : Port) : Prop where
  bounded : q.bounded → q'.bounded
  lawful : q.lawful → q'.lawful
  dropMap : rising (q.dropMap.map Prod.fst) → rising (q'.dropMap.map Prod.fst)

/-- Such a change that opens no window either, and starts no changeover and changes no port state outside one. -/
structure Port.Steady (q q' : Port) : Prop extends q.Keeps q' where
  window : q.window = none → q'.window = none
  context : q.changeover.reference = none → q'.state = q.state ∧ q'.changeover = q.changeover

theorem Port.Keeps.refl (q : Port) : q.Keeps q := ⟨id, id, id⟩

theorem Port.Keeps.trans {q q' q'' : Port} (h : q.Keeps q') (h' : q'.Keeps q'') : q.Keeps q'' where
  bounded hq := h'.bounded (h.bounded hq)
  lawful hq := h'.lawful (h.lawful hq)
  dropMap hq := h'.dropMap (h.dropMap hq)

theorem Port.Steady.refl (q : Port) : q.Steady q := ⟨.refl q, id, fun _ => ⟨rfl, rfl⟩⟩

/-- A change of a port that leaves its window, its state and its changeover. -/
theorem Port.Steady.of_eq {q q' : Port} (hb : q.bounded → q'.bounded) (hw : q'.window = q.window) (hs : q'.state = q.state)
    (hc : q'.changeover = q.changeover)
    (hd : rising (q.dropMap.map Prod.fst) → rising (q'.dropMap.map Prod.fst)) : q.Steady q' where
  bounded := hb
  lawful h := by rw [Port.lawful, hw, hs, hc]; exact h
  dropMap := hd
  window h := hw.trans h
  context _ := ⟨hs, hc⟩

/-! ### States -/

/-- The four invariants of O59, each kept. -/
structure State.Keeps (s t : State) : Prop where
  bounded : s.bounded → t.bounded
  lawful : s.lawful → t.lawful
  mapsRise : s.mapsRise → t.mapsRise
  oneSetDelay : s.oneSetDelay → t.oneSetDelay

/-- Work that keeps them and leaves the links and the hard-reset pin alone. -/
structure State.Evolves (s t : State) : Prop extends s.Keeps t where
  host : t.host = s.host
  craft : t.craft = s.craft
  resetHeld : t.resetHeld = s.resetHeld

/-- Such work that opens no window either, and outside a changeover leaves every port's state and changeover as they were. -/
structure State.Steady (s t : State) : Prop extends s.Evolves t where
  window : ∀ p, p < 4 → (s.port p).window = none → (t.port p).window = none
  context : ∀ p, p < 4 → (s.port p).changeover.reference = none →
    (t.port p).state = (s.port p).state ∧ (t.port p).changeover = (s.port p).changeover

section
variable {s t u : State}

theorem State.Keeps.trans (h : s.Keeps t) (h' : t.Keeps u) : s.Keeps u where
  bounded hs := h'.bounded (h.bounded hs)
  lawful hs := h'.lawful (h.lawful hs)
  mapsRise hs := h'.mapsRise (h.mapsRise hs)
  oneSetDelay hs := h'.oneSetDelay (h.oneSetDelay hs)

theorem State.Evolves.trans (h : s.Evolves t) (h' : t.Evolves u) : s.Evolves u where
  toKeeps := h.toKeeps.trans h'.toKeeps
  host := h'.host.trans h.host
  craft := h'.craft.trans h.craft
  resetHeld := h'.resetHeld.trans h.resetHeld

theorem State.Steady.trans (h : s.Steady t) (h' : t.Steady u) : s.Steady u where
  toEvolves := h.toEvolves.trans h'.toEvolves
  window p hp hw := h'.window p hp (h.window p hp hw)
  context p hp hc := by
    obtain ⟨hs, hco⟩ := h.context p hp hc
    obtain ⟨hs', hco'⟩ := h'.context p hp (by rw [hco]; exact hc)
    exact ⟨hs'.trans hs, hco'.trans hco⟩

theorem State.Evolves.link (h : s.Evolves t) (l : Link) : t.link l = s.link l := by
  cases l
  · exact h.host
  · exact h.craft

/-- Fewer SET DELAYs queued, port by port, are still at most one for each record. -/
theorem State.oneSetDelay_of_le (h : ∀ p, p < 4 → ∀ n, setDelays (t.port p).outbound n ≤ setDelays (s.port p).outbound n)
    (hs : s.oneSetDelay) : t.oneSetDelay := by
  intro n
  have := hs n
  have h0 := h 0 (by decide) n
  have h1 := h 1 (by decide) n
  have h2 := h 2 (by decide) n
  have h3 := h 3 (by decide) n
  simp only [allPorts, List.map_cons, List.map_nil, List.sum_cons, List.sum_nil, setDelays] at *
  omega
end

variable (s : State)

theorem State.Evolves.refl : s.Evolves s := ⟨⟨id, id, id, id⟩, rfl, rfl, rfl⟩

theorem State.Steady.refl : s.Steady s := ⟨.refl s, fun _ _ => id, fun _ _ _ => ⟨rfl, rfl⟩⟩

/-- What every step of a fold does, the fold does. -/
theorem eachNumber_steady {f : State → Nat → State} {ns : List Nat} (h : ∀ (t : State), ∀ n ∈ ns, t.Steady (f t n)) :
    s.Steady (eachNumber f ns s) :=
  eachNumber_keeps (P := fun t => s.Steady t) (fun t n hn ht => ht.trans (h t n hn)) (.refl s)

/-- A fold over all ports acts on each in its bounds. -/
theorem eachNumber_evolves {f : State → Nat → State} {ns : List Nat} (h : ∀ (t : State), ∀ n ∈ ns, t.Evolves (f t n)) :
    s.Evolves (eachNumber f ns s) :=
  eachNumber_keeps (P := fun t => s.Evolves t) (fun t n hn ht => ht.trans (h t n hn)) (.refl s)

/-- A reflexive relation that a change of one port meets holds of every port before and after it. -/
theorem State.modPort_each {R : Port → Port → Prop} (hr : ∀ q, R q q) {p : Nat} {f : Port → Port}
    (h : R (s.port p) (f (s.port p))) (q : Nat) : R (s.port q) ((s.modPort p f).port q) := by
  by_cases hp : p < 4
  · by_cases he : q = p
    · subst he
      rwa [s.modPort_port_self hp]
    · rw [s.modPort_port_ne he]
      exact hr _
  · rw [s.modPort_of_le (Nat.le_of_not_lt hp)]
    exact hr _

/-- A change of a port that queues no SET DELAY leaves at most one for each record. -/
theorem State.modPort_oneSetDelay {p : Nat} {f : Port → Port}
    (h : ∀ n, setDelays (f (s.port p)).outbound n ≤ setDelays (s.port p).outbound n) :
    s.oneSetDelay → (s.modPort p f).oneSetDelay :=
  State.oneSetDelay_of_le fun q _ n =>
    s.modPort_each (R := fun x y => setDelays y.outbound n ≤ setDelays x.outbound n) (fun _ => le_rfl) (h n) q

/-- A change of one port after work that keeps the invariants keeps them where the port does; of the port's window and state the whole
work's beginning may be used. Most changes leave the outbound queue alone. -/
theorem State.Evolves.modPort {s t : State} (hst : s.Evolves t) {p : Nat} {f : Port → Port}
    (hb : (t.port p).bounded → (f (t.port p)).bounded)
    (hl : s.lawful → (t.port p).lawful → (f (t.port p)).lawful)
    (hd : rising ((t.port p).dropMap.map Prod.fst) → rising ((f (t.port p)).dropMap.map Prod.fst))
    (ho : t.oneSetDelay → (t.modPort p f).oneSetDelay := by exact State.modPort_oneSetDelay _ fun _ => le_rfl) :
    s.Evolves (t.modPort p f) where
  bounded hs := by
    obtain ⟨hports, hrest⟩ := hst.bounded hs
    exact ⟨fun q hq => t.modPort_each (R := fun x y => x.bounded → y.bounded) (fun _ => id) hb q (hports q hq), hrest⟩
  lawful hs q hq := t.modPort_each (R := fun x y => x.lawful → y.lawful) (fun _ => id) (hl hs) q (hst.lawful hs q hq)
  mapsRise hs := by
    obtain ⟨hserial, hplot, hchanged, hdrop⟩ := hst.mapsRise hs
    exact ⟨hserial, hplot, hchanged, fun q hq =>
      t.modPort_each (R := fun x y => rising (x.dropMap.map Prod.fst) → rising (y.dropMap.map Prod.fst)) (fun _ => id) hd q
        (hdrop q hq)⟩
  oneSetDelay hs := ho (hst.oneSetDelay hs)
  host := hst.host
  craft := hst.craft
  resetHeld := hst.resetHeld

theorem State.modPort_evolves {p : Nat} {f : Port → Port} (h : (s.port p).Keeps (f (s.port p)))
    (ho : s.oneSetDelay → (s.modPort p f).oneSetDelay := by exact State.modPort_oneSetDelay _ fun _ => le_rfl) :
    s.Evolves (s.modPort p f) :=
  (State.Evolves.refl s).modPort h.bounded (fun _ => h.lawful) h.dropMap ho

theorem State.modPort_steady {p : Nat} {f : Port → Port} (h : (s.port p).Steady (f (s.port p)))
    (ho : s.oneSetDelay → (s.modPort p f).oneSetDelay := by exact State.modPort_oneSetDelay _ fun _ => le_rfl) :
    s.Steady (s.modPort p f) where
  toEvolves := s.modPort_evolves h.toKeeps ho
  window q _ := (s.modPort_each Port.Steady.refl h q).window
  context q _ := (s.modPort_each Port.Steady.refl h q).context

/-! ### Records and the changed set -/

theorem State.store_steady (n : Nat) (x : StoredRecord) : s.Steady (s.store n x) :=
  ⟨⟨⟨id, id, id, id⟩, rfl, rfl, rfl⟩, fun _ _ => id, fun _ _ _ => ⟨rfl, rfl⟩⟩

theorem State.modRecord_steady (n : Nat) (f : Record → Record) : s.Steady (s.modRecord n f) := s.store_steady n _

theorem State.freshRecord_steady (n : Nat) (r : Record) : s.Steady (s.freshRecord n r) := s.store_steady n _

theorem State.noteChanged_steady (n : Nat) : s.Steady (s.noteChanged n) :=
  ⟨⟨⟨id, id, fun ⟨hserial, hplot, hchanged, hdrop⟩ => ⟨hserial, hplot, rising_insertNumber hchanged n, hdrop⟩, id⟩,
    rfl, rfl, rfl⟩, fun _ _ => id, fun _ _ _ => ⟨rfl, rfl⟩⟩

theorem State.change_steady (n : Nat) (f : Record → Record) : s.Steady (s.change n f) :=
  (s.modRecord_steady n f).trans (State.noteChanged_steady _ n)

/-! ### Flags and drop ids -/

theorem State.flag_steady (p : Nat) (f : Conditions → Conditions) : s.Steady (s.flag p f) :=
  s.modPort_steady (.of_eq id rfl rfl rfl id)

theorem State.holdDrop_steady (p d r : Nat) : s.Steady (s.holdDrop p d r) :=
  s.modPort_steady (.of_eq id rfl rfl rfl (fun h => rising_mapPut h d r))

theorem State.freeDrop_steady (p d : Nat) : s.Steady (s.freeDrop p d) :=
  s.modPort_steady (.of_eq id rfl rfl rfl (fun h => rising_mapErase h d))

/-! ### The outbound queue -/

/-- A descriptor that finds room joins the queue within its bound (R76, R77). -/
theorem Port.bounded_append {q : Port} (h : q.bounded) (hroom : q.outbound.length < Config.outboundLimit) (d : Descriptor) :
    ({ q with outbound := q.outbound ++ [d] } : Port).bounded := by
  obtain ⟨h1, h2, h3, h4, h5, h6, h7, h8, h9, h10, h11, h12, -, h14⟩ := h
  exact ⟨h1, h2, h3, h4, h5, h6, h7, h8, h9, h10, h11, h12, by simpa using hroom, h14⟩

theorem setDelays_append (ds es : List Descriptor) (n : Nat) : setDelays (ds ++ es) n = setDelays ds n + setDelays es n :=
  List.countP_append ..

/-- A descriptor appended where there is room, with at most one SET DELAY for each record afterwards. -/
theorem State.push_steady {p : Nat} {d : Descriptor} (hroom : (s.port p).outbound.length < Config.outboundLimit)
    (hone : s.oneSetDelay → (s.modPort p (fun q => { q with outbound := q.outbound ++ [d] })).oneSetDelay) :
    s.Steady (s.push p d) := by
  have hport : s.Steady (s.modPort p (fun q => { q with outbound := q.outbound ++ [d] })) :=
    s.modPort_steady (.of_eq (fun h => Port.bounded_append h hroom d) rfl rfl rfl id) hone
  unfold State.push
  split
  · exact hport.trans (State.modRecord_steady _ _ _)
  · exact hport

theorem State.enqueue_steady (p : Nat) {d : Descriptor} (hd : ∀ n, d.isSetDelayOf n = false) : s.Steady (s.enqueue p d) := by
  unfold State.enqueue
  split
  · next hroom =>
    exact s.push_steady hroom (s.modPort_oneSetDelay fun n => by simp [setDelays, hd n])
  · exact s.flag_steady p _

theorem State.setDelays_of_not_queued {r p : Nat} (h : s.setDelayQueued allPorts r = false) (hp : p < 4) :
    setDelays (s.port p).outbound r = 0 := by
  rw [setDelays, List.countP_eq_zero]
  intro d hd he
  rw [eq_of_beq (a := d) he] at hd
  exact s.setDelayQueued_false_iff.mp h p hp hd

/-- The first SET DELAY that names a record is its only one. -/
theorem State.append_oneSetDelay {r : Nat} (hfree : s.setDelayQueued allPorts r = false) (p : Nat) (h : s.oneSetDelay) :
    (s.modPort p (fun q => { q with outbound := q.outbound ++ [.setDelay r] })).oneSetDelay := by
  by_cases hp : p < 4
  case neg => rwa [s.modPort_of_le (Nat.le_of_not_lt hp)]
  intro n
  have hn := h n
  have hcount : ∀ q, setDelays ((s.modPort p (fun q => { q with outbound := q.outbound ++ [.setDelay r] })).port q).outbound n =
      setDelays (s.port q).outbound n + if q = p ∧ n = r then 1 else 0 := by
    intro q
    by_cases hq : q = p
    · subst hq
      rw [s.modPort_port_self hp]
      by_cases hr : n = r
      · simp [setDelays, Descriptor.isSetDelayOf, hr]
      · simp [setDelays, Descriptor.isSetDelayOf, hr, Ne.symm hr]
    · simp [s.modPort_port_ne hq, hq]
  by_cases hr : n = r
  · subst hr
    have hzero : ∀ q < 4, setDelays (s.port q).outbound n = 0 := fun _ hq => s.setDelays_of_not_queued hfree hq
    simp only [allPorts, List.map_cons, List.map_nil, List.sum_cons, List.sum_nil, hcount,
      hzero 0 (by decide), hzero 1 (by decide), hzero 2 (by decide), hzero 3 (by decide)]
    split_ifs <;> omega
  · simpa only [hcount, hr, and_false, if_false, Nat.add_zero] using hn

/-- A SET DELAY is queued only where none names its record yet (R76; log entry 28). -/
theorem State.queueSetDelay_steady (p r : Nat) : s.Steady (s.queueSetDelay p r) := by
  unfold State.queueSetDelay
  split
  · next h =>
    obtain ⟨hroom, hfree⟩ := h
    exact (s.push_steady hroom (s.append_oneSetDelay hfree p)).trans (State.modRecord_steady _ _ _)
  · exact .refl s

/-- Serving any records on any ports. -/
theorem State.fillSetDelay_steady (p : Nat) : s.Steady (s.fillSetDelay p) :=
  eachNumber_steady s fun t r _ => t.queueSetDelay_steady p r

theorem State.discard_steady (d : Descriptor) : s.Steady (s.discard d) := by
  cases d with
  | release => exact .refl s
  | name r | setDelay r | level r | openDrop r | shut r =>
    unfold State.discard
    exact s.modRecord_steady r _

theorem State.discards_steady (ds : List Descriptor) : s.Steady (ds.foldl State.discard s) := by
  induction ds generalizing s with
  | nil => exact .refl s
  | cons d ds ih => exact (s.discard_steady d).trans (ih _)

/-- A port whose outbound queue has lost descriptors. -/
theorem Port.bounded_outbound {q : Port} (h : q.bounded) {ds : List Descriptor} (hds : ds.length ≤ q.outbound.length) :
    ({ q with outbound := ds } : Port).bounded := by
  obtain ⟨h1, h2, h3, h4, h5, h6, h7, h8, h9, h10, h11, h12, h13, h14⟩ := h
  exact ⟨h1, h2, h3, h4, h5, h6, h7, h8, h9, h10, h11, h12, hds.trans h13, h14⟩

theorem State.shrinkOutbound_steady {p : Nat} {ds : List Descriptor} (h : ds.Sublist (s.port p).outbound) :
    s.Steady (s.modPort p (fun q => { q with outbound := ds })) :=
  s.modPort_steady (.of_eq (fun hb => Port.bounded_outbound hb h.length_le) rfl rfl rfl id)
    (s.modPort_oneSetDelay fun _ => h.countP_le)

theorem State.emptyOutbound_steady (p : Nat) : s.Steady (s.emptyOutbound p) :=
  (s.discards_steady _).trans (State.shrinkOutbound_steady _ (List.nil_sublist _))

/-! ### Activation queues -/

/-- A port whose activation queue stays within its bound (R114). -/
theorem Port.bounded_activation {q : Port} (h : q.bounded) {es : List ActivationEntry}
    (hes : es.length ≤ q.activation.length ∨ es.length ≤ Config.activationLimit) :
    ({ q with activation := es } : Port).bounded := by
  obtain ⟨h1, h2, h3, h4, h5, h6, h7, h8, h9, h10, h11, h12, h13⟩ := h
  exact ⟨h1, h2, h3, h4, h5, h6, h7, h8, h9, h10, h11, hes.elim (fun h => h.trans h12) id, h13⟩

theorem State.setPhase_steady (p r : Nat) (ph : Phase) : s.Steady (s.setPhase p r ph) :=
  s.modPort_steady (.of_eq (fun h => Port.bounded_activation h (.inl (List.length_map _).le)) rfl rfl rfl id)

theorem State.removeEntry_steady (p r : Nat) : s.Steady (s.removeEntry p r) :=
  s.modPort_steady (.of_eq (fun h => Port.bounded_activation h (.inl (List.length_filter_le _ _))) rfl rfl rfl id)

theorem State.appendEntry_steady {p : Nat} (hroom : s.activationRoom p = true) (r : Nat) : s.Steady (s.appendEntry p r) :=
  s.modPort_steady (.of_eq (fun h => Port.bounded_activation h (.inr (by simpa [State.activationRoom] using hroom)))
    rfl rfl rfl id)

/-- An entry that goes to the tail makes its own room (R116). -/
theorem State.entryToTail_steady {p r : Nat} (h : (s.phaseOf p r).isSome = true) : s.Steady (s.entryToTail p r) := by
  rw [State.entryToTail, State.removeEntry, State.appendEntry, State.modPort_modPort]
  refine s.modPort_steady (.of_eq (fun hb => Port.bounded_activation hb (.inl ?_)) rfl rfl rfl id)
  obtain ⟨e, he, hr⟩ : ∃ e ∈ (s.port p).activation, e.record = r := by
    simpa [State.phaseOf] using h
  have hlt : ((s.port p).activation.filter (fun e => e.record ≠ r)).length < (s.port p).activation.length := by
    rw [List.length_filter_lt_length_iff_exists]
    exact ⟨e, he, by simp [hr]⟩
  simpa using hlt

/-! ### Windows (R61, R66) -/

/-- A window that only loses its target keeps its kind. -/
theorem Port.Steady.mapWindow (q : Port) {f : OpenWindow → OpenWindow} (hf : ∀ w, (f w).kind = w.kind) :
    q.Steady { q with window := q.window.map f } where
  bounded := id
  lawful h := by
    obtain ⟨hw, hchangeover⟩ := h
    refine ⟨fun w hw' => ?_, hchangeover⟩
    obtain ⟨w', hw'', rfl⟩ := Option.map_eq_some_iff.mp hw'
    rw [hf]
    exact hw w' hw''
  dropMap := id
  window h := by simp [h]
  context _ := ⟨rfl, rfl⟩

theorem State.clearTarget_steady (r p : Nat) : s.Steady (s.clearTarget r p) :=
  s.modPort_steady (.mapWindow _ fun w => by split <;> rfl)

theorem State.clearTargets_steady (r : Nat) : s.Steady (s.clearTargets r) :=
  eachNumber_steady s fun t p _ => t.clearTarget_steady r p

/-- A port without its window is as lawful as before. -/
theorem Port.lawful_noWindow {q : Port} (h : q.lawful) : ({ q with window := none } : Port).lawful :=
  ⟨nofun, h.2⟩

theorem State.dropWindow_steady (p : Nat) : s.Steady (s.dropWindow p) :=
  s.modPort_steady
    { bounded := fun ⟨h1, h2, h3, h4, h5, h6, _, h8⟩ => ⟨h1, h2, h3, h4, h5, h6, Nat.zero_le _, h8⟩
      lawful := Port.lawful_noWindow
      dropMap := id
      window := fun _ => rfl
      context := fun _ => ⟨rfl, rfl⟩ }

theorem State.abandonOwner_steady (p : Nat) (w : OpenWindow) : s.Steady (s.abandonOwner p w) := by
  unfold State.abandonOwner
  split
  · exact s.modPort_steady (.of_eq (fun ⟨h1, h2, h3, _, h5, h6, h7, h8, h9, _, h11⟩ =>
      ⟨h1, h2, h3, Nat.zero_le _, h5, h6, h7, h8, h9, Nat.zero_le _, h11⟩) rfl rfl rfl id)
  · split
    · exact (s.setPhase_steady _ _ _).trans (State.change_steady _ _ _)
    · exact .refl s
  · split
    · exact s.setPhase_steady _ _ _
    · exact .refl s
  · exact s.modPort_steady (.of_eq (fun ⟨h1, h2, h3, h4, h5, _, h7⟩ =>
      ⟨h1, h2, h3, h4, h5, Nat.zero_le _, h7⟩) rfl rfl rfl id)
  · exact .refl s

theorem State.abandon_steady (p : Nat) : s.Steady (s.abandon p) := by
  unfold State.abandon
  split
  · exact .refl s
  · exact (s.dropWindow_steady p).trans (State.abandonOwner_steady _ p _)

/-- Abandonment leaves no window open. -/
theorem State.abandon_window {p : Nat} (hp : p < 4) : ((s.abandon p).port p).window = none := by
  cases hw : (s.port p).window with
  | none => rw [s.abandon_none hw, hw]
  | some w =>
    rw [s.abandon_some hw]
    refine (State.abandonOwner_steady _ p w).window p hp ?_
    rw [State.dropWindow, s.modPort_port_self hp]

/-! ### A changeover's failure (R159) -/

/-- CHANGEOVER permits REFERENCE windows alone, and CALIBRATING alone permits LOOP windows (R62). -/
theorem PortState.permits_changeover {k : WindowKind} : PortState.changeover.permits k = true ↔ k = .reference := by
  cases k <;> decide

theorem PortState.permits_loop {st : PortState} : st.permits .loop = true ↔ st = .calibrating := by
  cases st <;> decide

/-- A failed changeover leaves its port in RUN, with no REFERENCE window and so with no window at all. -/
theorem Port.changeoverFailed_lawful {q : Port} (h : q.lawful) (hr : q.changeover.reference.isSome = true) :
    q.changeoverFailed.lawful := by
  obtain ⟨hwindow, hstate, -⟩ := h
  have hnone : q.changeoverFailed.window = none := by
    cases hw : q.window with
    | none => simp [Port.changeoverFailed, hw]
    | some w =>
      have hk : w.kind = .reference := by
        have hperm := hwindow w hw
        rw [hstate.mp hr] at hperm
        exact PortState.permits_changeover.mp hperm
      simp [Port.changeoverFailed, hw, hk]
  refine ⟨fun w hw => ?_, by simp [Port.changeoverFailed, ChangeoverContext.ended], rfl⟩
  rw [hnone] at hw
  cases hw

theorem Port.changeoverFailed_steady {q : Port} (hr : q.changeover.reference.isSome = true) : q.Steady q.changeoverFailed where
  bounded := by
    rintro ⟨h1, h2, h3, h4, h5, h6, h7, h8, h9, h10, h11, h12, h13, -⟩
    refine ⟨h1, h2, h3, h4, h5, h6, ?_, h8, h9, h10, h11, h12, h13, Nat.zero_le _⟩
    simp only [Port.changeoverFailed]
    split
    · exact Nat.zero_le _
    · exact h7
  lawful h := Port.changeoverFailed_lawful h hr
  dropMap := id
  window h := by simp [Port.changeoverFailed, h]
  context h := by simp [h] at hr

theorem State.failChangeover_eq (p : Nat) :
    s.failChangeover p = s.modPort p (fun q => if q.changeover.reference.isSome then q.changeoverFailed else q) := by
  cases h : (s.port p).changeover.reference with
  | none =>
    rw [s.failChangeover_none h]
    exact (s.modPort_id _ (by simp [h])).symm
  | some r =>
    have hf := s.failIfReference_eq r p
    rw [State.failIfReference, if_pos h] at hf
    rw [hf]
    exact s.modPort_congr (by simp [h])

theorem State.failChangeover_steady (p : Nat) : s.Steady (s.failChangeover p) := by
  rw [s.failChangeover_eq]
  refine s.modPort_steady ?_ ?_
  · split
    · next h => exact Port.changeoverFailed_steady h
    · exact .refl _
  · exact s.modPort_oneSetDelay fun n => by split <;> exact le_rfl

theorem State.failIfReference_steady (r p : Nat) : s.Steady (s.failIfReference r p) := by
  unfold State.failIfReference
  split
  · exact s.failChangeover_steady p
  · exact .refl s

/-! ### Damage handling (R165, R166, R169) -/

theorem State.releaseEntry_steady (p d : Nat) : s.Steady (s.releaseEntry p d) :=
  (s.enqueue_steady p fun _ => rfl).trans (State.freeDrop_steady _ p d)

theorem State.releaseRecord_steady (r p : Nat) : s.Steady (s.releaseRecord r p) :=
  eachNumber_steady s fun t d _ => t.releaseEntry_steady p d

theorem State.unindex_steady (r : Nat) : s.Steady (s.unindex r) :=
  ⟨⟨⟨id, id, fun ⟨hserial, hplot, h⟩ => ⟨rising_mapEraseRecord hserial r, rising_mapEraseRecord hplot r, h⟩, id⟩,
    rfl, rfl, rfl⟩, fun _ _ => id, fun _ _ _ => ⟨rfl, rfl⟩⟩

theorem State.countDamage_steady (r : Nat) : s.Steady (s.countDamage r) := by
  have h : ∀ count first, s.Steady { s with integrityCount := count, firstDamaged := first } := fun _ _ =>
    ⟨⟨⟨id, id, id, id⟩, rfl, rfl, rfl⟩, fun _ _ => id, fun _ _ _ => ⟨rfl, rfl⟩⟩
  unfold State.countDamage
  split
  · exact h _ _
  · split
    · exact h _ s.firstDamaged
    · exact .refl s

theorem State.detach_steady (r : Nat) : s.Steady (s.detach r) :=
  (((eachNumber_steady s fun t p _ => t.releaseRecord_steady r p).trans (State.unindex_steady _ r)).trans
    (eachNumber_steady _ fun t p _ => t.removeEntry_steady p r)).trans (State.clearTargets_steady _ r)

theorem State.damage_steady (r : Nat) : s.Steady (s.damage r) :=
  ((((s.detach_steady r).trans (State.freshRecord_steady _ r _)).trans (State.noteChanged_steady _ r)).trans
    (State.countDamage_steady _ r)).trans (eachNumber_steady _ fun t p _ => t.failIfReference_steady r p)

theorem State.verifyOrDamage_steady (r : Nat) : s.Steady (s.verifyOrDamage r) := by
  unfold State.verifyOrDamage
  split
  · exact .refl s
  · exact s.damage_steady r

/-- A scan that verifies what it reads. -/
theorem State.scan_steady (ns : List Nat) : s.Steady (eachNumber State.verifyOrDamage ns s) :=
  eachNumber_steady s fun t n _ => t.verifyOrDamage_steady n

end Sys2Proof.Machine
end

section
/-! What every step keeps, second part: naming, activation, upkeep and the record commands, none of which opens a window. -/

namespace Sys2Proof.Machine

variable (s : State)

/-! ### Entries before and after a descriptor is queued -/

@[simp] theorem State.enqueue_activation (p : Nat) (d : Descriptor) (q : Nat) :
    ((s.enqueue p d).port q).activation = (s.port q).activation := by
  rcases s.enqueue_cases p d with ⟨_, h⟩ | ⟨_, h⟩ <;> rw [h]
  · rw [s.push_port]
    exact s.modPort_each (R := fun x y => y.activation = x.activation) (fun _ => rfl) (by rfl) q
  · exact s.modPort_each (R := fun x y => y.activation = x.activation) (fun _ => rfl) (by rfl) q

variable {s} in
theorem State.activationRoom_congr {t : State} {p : Nat} (h : (t.port p).activation = (s.port p).activation) :
    t.activationRoom p = s.activationRoom p := by
  rw [State.activationRoom, h, State.activationRoom]

/-! ### Naming and giving up drop ids -/

theorem State.releaseHeld_steady (r : Nat) : s.Steady (s.releaseHeld r) := by
  by_cases h : (s.record r).dropId = 0
  · rw [s.releaseHeld_none h]
    exact .refl s
  · rw [s.releaseHeld_some h]
    exact (s.enqueue_steady _ fun _ => rfl).trans (State.freeDrop_steady _ _ _)

theorem State.nameExpected_steady (p r : Nat) (cause : Cause) (heard : Option Bool) :
    s.Steady (s.nameExpected p r cause heard) := by
  unfold State.nameExpected
  split
  · exact s.flag_steady p _
  · next hroom =>
    split
    · exact s.flag_steady p _
    · next d _ =>
      have hheld : ((s.holdDrop p d r).port p).activation = (s.port p).activation :=
        s.modPort_each (R := fun x y => y.activation = x.activation) (fun _ => rfl) rfl p
      refine (((s.holdDrop_steady p d r).trans (State.change_steady _ r _)).trans
        (State.enqueue_steady _ p fun _ => rfl)).trans (State.appendEntry_steady _ ?_ r)
      rw [State.activationRoom_congr (State.enqueue_activation _ p _ p), State.activationRoom, State.change_port, hheld]
      simpa [State.activationRoom] using hroom

theorem State.reenter_steady {p : Nat} (hroom : s.activationRoom p = true) (r : Nat) (cause : Cause) (heard : Option Bool) :
    s.Steady (s.reenter p r cause heard) := by
  have hshut : ∀ t : State, t = (if (s.record r).state = .active then s.enqueue p (.shut r) else s) →
      s.Steady t ∧ (t.port p).activation = (s.port p).activation := by
    rintro t rfl
    split
    · exact ⟨s.enqueue_steady p fun _ => rfl, s.enqueue_activation p _ p⟩
    · exact ⟨.refl s, rfl⟩
  obtain ⟨hsteady, hact⟩ := hshut _ rfl
  refine ((hsteady.trans (State.enqueue_steady _ p fun _ => rfl)).trans (State.change_steady _ r _)).trans
    (State.appendEntry_steady _ ?_ r)
  rw [State.activationRoom, State.change_port, State.enqueue_activation, hact]
  exact hroom

theorem State.restart_steady (p r : Nat) (heard : Option Bool) : s.Steady (s.restart p r heard) :=
  ((s.enqueue_steady p fun _ => rfl).trans (State.change_steady _ r _)).trans (State.setPhase_steady _ p r _)

theorem State.lose_steady (r : Nat) (cause : Cause) : s.Steady (s.lose r cause) :=
  (s.releaseHeld_steady r).trans (State.change_steady _ r _)

theorem State.failActivation_steady (p r : Nat) (cause : Cause) : s.Steady (s.failActivation p r cause) :=
  ((s.releaseHeld_steady r).trans (State.removeEntry_steady _ p r)).trans (State.change_steady _ r _)

/-! ### The activation sequencer -/

theorem State.setCondition_steady (p r code : Nat) : s.Steady (s.setCondition p r code) := s.modRecord_steady r _

theorem State.setLastLevel_steady (r code : Nat) : s.Steady (s.setLastLevel r code) := s.modRecord_steady r _

theorem State.recordRanging_steady (p r : Nat) (g : Ranging) : s.Steady (s.recordRanging p r g) :=
  (s.modRecord_steady r _).trans (State.fillSetDelay_steady _ p)

/-- An attempt failure of a record that has its entry (R124). -/
theorem State.attemptFailure_steady {p r : Nat} (h : (s.phaseOf p r).isSome = true) (cause : Cause) :
    s.Steady (s.attemptFailure p r cause) := by
  dsimp only [State.attemptFailure]
  refine (s.modRecord_steady r (fun c => { c with attempts := c.attempts + 1 })).trans ?_
  split
  · refine ((State.enqueue_steady _ p fun _ => rfl).trans (State.change_steady _ r _)).trans (State.entryToTail_steady _ ?_)
    rw [State.phaseOf, State.change_port, State.enqueue_activation, State.modRecord_port]
    exact h
  · exact State.failActivation_steady _ p r cause

theorem State.finish_steady (p r code : Nat) : s.Steady (s.finish p r code) := by
  dsimp only [State.finish]
  split
  · exact (s.setCondition_steady p r code).trans (State.failActivation_steady _ p r _)
  · refine (s.removeEntry_steady p r).trans ?_
    split
    · exact State.change_steady _ r _
    · split
      · exact (State.change_steady _ r _).trans (State.enqueue_steady _ p fun _ => rfl)
      · exact State.change_steady _ r _

theorem State.levellingRound_steady (p r code index : Nat) (first : Bool) :
    s.Steady (s.levellingRound p r code index first) := by
  dsimp only [State.levellingRound]
  refine State.Steady.trans ?_ ((State.enqueue_steady _ p fun _ => rfl).trans (State.setPhase_steady _ p r _))
  split
  · exact s.change_steady r _
  · exact s.modRecord_steady r _

theorem State.evaluateLevel_steady (p r code : Nat) (first : Bool) : s.Steady (s.evaluateLevel p r code first) := by
  dsimp only [State.evaluateLevel]
  split
  · exact s.levellingRound_steady p r code _ first
  · exact s.finish_steady p r code

theorem State.echoCaptured_steady {p r : Nat} (h : (s.phaseOf p r).isSome = true) (e : Captured) :
    s.Steady (s.echoCaptured p r e) := by
  dsimp only [State.echoCaptured]
  refine (s.setLastLevel_steady r e.level).trans ?_
  split
  · exact (State.setCondition_steady _ p r _).trans (State.attemptFailure_steady _ (by exact h) _)
  · exact (State.setCondition_steady _ p r _).trans (State.failActivation_steady _ p r _)
  · exact (State.recordRanging_steady _ p r _).trans (State.evaluateLevel_steady _ p r _ _)

theorem State.verifyCaptured_steady {p r : Nat} (h : (s.phaseOf p r).isSome = true) (e : Captured) :
    s.Steady (s.verifyCaptured p r e) := by
  dsimp only [State.verifyCaptured]
  refine (s.setLastLevel_steady r e.level).trans ?_
  split
  · exact .refl _
  · split
    · exact State.evaluateLevel_steady _ p r _ _
    · exact (State.setCondition_steady _ p r _).trans (State.attemptFailure_steady _ (by exact h) _)
    · split
      · exact (State.recordRanging_steady _ p r _).trans (State.evaluateLevel_steady _ p r _ _)
      · exact (State.setCondition_steady _ p r _).trans (State.failActivation_steady _ p r _)
      · exact (State.setCondition_steady _ p r _).trans (State.attemptFailure_steady _ (by exact h) _)

/-- A close of the activation sequencer that takes its result finds the target's entry in the queue (R118). -/
theorem State.takeActivationClose_steady (p : Nat) (w : OpenWindow) (phase : Phase) (st : RecState)
    {captured : Nat → Captured → State} (h : ∀ r e, (s.phaseOf p r).isSome = true → s.Steady (captured r e)) :
    s.Steady (s.takeActivationClose p w phase st captured) := by
  unfold State.takeActivationClose
  split
  · exact .refl s
  · next r _ =>
    split
    · exact s.damage_steady r
    · split
      · next hstands =>
        have hentry : (s.phaseOf p r).isSome = true := by rw [hstands.1]; rfl
        split
        · exact s.attemptFailure_steady hentry _
        · exact h r _ hentry
      · exact .refl s

theorem State.echoClosed_steady (p : Nat) (w : OpenWindow) : s.Steady (State.echoClosed p s w) :=
  s.takeActivationClose_steady p w _ _ fun _ e h => s.echoCaptured_steady h e

theorem State.verifyClosed_steady (p : Nat) (w : OpenWindow) : s.Steady (State.verifyClosed p s w) :=
  s.takeActivationClose_steady p w _ _ fun _ e h => s.verifyCaptured_steady h e

/-! ### Upkeep -/

theorem State.rerange_steady (p r : Nat) : s.Steady (s.rerange p r) := by
  unfold State.rerange
  split
  · next hroom => exact s.reenter_steady hroom r _ _
  · exact s.lose_steady r _

theorem State.serveLevel_steady (p r code : Nat) : s.Steady (s.serveLevel p r code) := by
  dsimp only [State.serveLevel]
  split
  · exact .refl s
  · exact (s.modRecord_steady r _).trans (State.enqueue_steady _ p fun _ => rfl)

theorem State.upkeepMiss_steady (r : Nat) : s.Steady (s.upkeepMiss r) := by
  unfold State.upkeepMiss
  split
  · exact s.modRecord_steady r _
  · exact s.lose_steady r _

theorem State.cleanEcho_steady (p r : Nat) (e : Captured) : s.Steady (s.cleanEcho p r e) := by
  dsimp only [State.cleanEcho]
  refine (s.modRecord_steady r (fun c => { c with
    misses := 0
    lastLevel := e.level
    levelCondition := serviceCondition (s.port p).config e.level })).trans ?_
  split
  · exact .refl _
  · split
    · exact State.serveLevel_steady _ p r _
    · exact State.rerange_steady _ p r
    · split
      · exact (State.recordRanging_steady _ p r _).trans (State.serveLevel_steady _ p r _)
      · exact State.lose_steady _ r _

theorem State.upkeepClosed_steady (p : Nat) (w : OpenWindow) : s.Steady (State.upkeepClosed p s w) := by
  unfold State.upkeepClosed
  split
  · exact .refl s
  · next r _ =>
    split
    · exact s.damage_steady r
    · split
      · split
        · exact s.upkeepMiss_steady r
        · exact s.cleanEcho_steady p r _
      · exact .refl s

/-- The owed count grows to 8 at most (R69). -/
theorem Port.owe_eq (q : Port) : ∃ n c, q.owe = { q with owed := n, conditions := c } ∧ (n ≤ Config.owedLimit ∨ n = q.owed) := by
  unfold Port.owe
  split
  · next hlt => exact ⟨q.owed + 1, q.conditions, rfl, .inl hlt⟩
  · exact ⟨q.owed, _, rfl, .inr rfl⟩

/-- The end of an upkeep period sets its timer and may raise the owed count (R69). -/
theorem State.periodEnd_steady (p : Nat) : s.Steady (s.periodEnd p) := by
  dsimp only [State.periodEnd]
  cases s.hasRanged p with
  | true =>
    obtain ⟨n, c, heq, hn⟩ := Port.owe_eq { s.port p with periodTimer := 0 }
    rw [s.modPort_congr (g := fun q => { q with periodTimer := 0, owed := n, conditions := c }) heq]
    refine s.modPort_steady (.of_eq ?_ rfl rfl rfl id)
    rintro ⟨h1, h2, h3, h4, h5, h6, h7, h8, h9⟩
    exact ⟨h1, h2, h3, h4, h5, h6, h7, hn.elim id fun h => h.trans_le h8, h9⟩
  | false => exact s.modPort_steady (.of_eq id rfl rfl rfl id)

end Sys2Proof.Machine
end

section
/-! What every step keeps, third part: the registry's indexes and the stranger list, and the record commands. -/

namespace Sys2Proof.Machine

variable (s : State)

/-! ### Indexes and strangers (R6 to R9) -/

theorem State.serialIndex_steady {m : NumMap} (h : rising (s.serialIndex.map Prod.fst) → rising (m.map Prod.fst)) :
    s.Steady { s with serialIndex := m } :=
  ⟨⟨⟨id, id, fun ⟨hserial, hrest⟩ => ⟨h hserial, hrest⟩, id⟩, rfl, rfl, rfl⟩, fun _ _ => id, fun _ _ _ => ⟨rfl, rfl⟩⟩

theorem State.plotIndex_steady {m : NumMap} (h : rising (s.plotIndex.map Prod.fst) → rising (m.map Prod.fst)) :
    s.Steady { s with plotIndex := m } :=
  ⟨⟨⟨id, id, fun ⟨hserial, hplot, hrest⟩ => ⟨hserial, h hplot, hrest⟩, id⟩, rfl, rfl, rfl⟩, fun _ _ => id,
    fun _ _ _ => ⟨rfl, rfl⟩⟩

theorem State.strangers_steady {es : List Stranger} (h : es.length ≤ s.strangers.length ∨ es.length ≤ Config.strangerLimit) :
    s.Steady { s with strangers := es } :=
  ⟨⟨⟨fun ⟨hports, hlen, hrest⟩ => ⟨hports, h.elim (fun h => h.trans hlen) id, hrest⟩, id, id, id⟩, rfl, rfl, rfl⟩,
    fun _ _ => id, fun _ _ _ => ⟨rfl, rfl⟩⟩

theorem State.indexSerial_steady (x : Serial) (n : Nat) : s.Steady (s.indexSerial x n) :=
  s.serialIndex_steady fun h => rising_mapPut h _ _

theorem State.unindexSerial_steady (x : Option Serial) : s.Steady (s.unindexSerial x) := by
  cases x with
  | none => exact .refl s
  | some x => exact s.serialIndex_steady fun h => rising_mapErase h _

theorem State.indexPlot_steady (x n : Nat) : s.Steady (s.indexPlot x n) := s.plotIndex_steady fun h => rising_mapPut h _ _

theorem State.unindexPlot_steady (x : Option Nat) : s.Steady (s.unindexPlot x) := by
  cases x with
  | none => exact .refl s
  | some x => exact s.plotIndex_steady fun h => rising_mapErase h _

theorem State.removeStranger_steady (x : Serial) : s.Steady (s.removeStranger x) :=
  s.strangers_steady (.inl (List.length_filter_le _ _))

/-- A new stranger takes the place of the oldest where the list is full (R8). -/
theorem State.appendStranger_steady (e : Stranger) : s.Steady (s.appendStranger e) := by
  unfold State.appendStranger
  split
  · next h => exact s.strangers_steady (.inr (by simpa using h))
  · next h =>
    refine s.strangers_steady (.inl ?_)
    have hpos : 0 < s.strangers.length := lt_of_lt_of_le (by decide) (Nat.le_of_not_lt h)
    simp only [List.length_append, List.length_drop, List.length_singleton]
    omega

/-! ### The effects of the record commands -/

theorem State.nameAtOnce_steady (n : Nat) (cause : Cause) : s.Steady (s.nameAtOnce n cause) := by
  unfold State.nameAtOnce
  split
  · exact s.nameExpected_steady _ n cause none
  · exact .refl s

theorem State.planRecord_steady (a : PlanArgs) (cause causeAdopted causeNamed : Cause) :
    s.Steady (s.planRecord a cause causeAdopted causeNamed) := by
  unfold State.planRecord
  split
  · exact ((((s.change_steady _ _).trans (State.indexPlot_steady _ _ _)).trans (State.indexSerial_steady _ _ _)).trans
      (State.removeStranger_steady _ _)).trans (State.nameAtOnce_steady _ _ _)
  · dsimp only [State.planPlain]
    refine ((s.change_steady a.record.toNat (plannedContent a a.port.toNat none cause)).trans
      (State.indexPlot_steady _ a.plot.toNat a.record.toNat)).trans ?_
    split
    · exact .refl _
    · exact State.indexSerial_steady _ _ _

theorem State.resolveQuery_steady (n : Nat) : s.Steady (s.resolveQuery n) := by
  dsimp only [State.resolveQuery]
  split
  · exact (s.change_steady n _).trans (State.enqueue_steady _ _ fun _ => rfl)
  · exact s.change_steady n _

theorem State.amendPlot_steady (a : AmendArgs) (old : Option Nat) : s.Steady (s.amendPlot a old) := by
  unfold State.amendPlot
  split
  · exact (s.unindexPlot_steady old).trans (State.indexPlot_steady _ _ _)
  · exact .refl s

theorem State.amendSerial_steady (a : AmendArgs) (old : Option Serial) : s.Steady (s.amendSerial a old) := by
  unfold State.amendSerial
  split
  · split
    · exact ((s.unindexSerial_steady old).trans (State.indexSerial_steady _ _ _)).trans (State.removeStranger_steady _ _)
    · exact s.unindexSerial_steady old
  · exact .refl s

theorem State.amendRecord_steady (a : AmendArgs) : s.Steady (s.amendRecord a) := by
  have hamended := ((s.change_steady a.plan.record.toNat (amendedContent a)).trans
    (State.amendPlot_steady _ a (s.record a.plan.record.toNat).plot)).trans
    (State.amendSerial_steady _ a (s.record a.plan.record.toNat).serial)
  dsimp only [State.amendRecord]
  split
  · exact hamended.trans (State.resolveQuery_steady _ _)
  · exact hamended

theorem State.retireRecord_steady (n : Nat) : s.Steady (s.retireRecord n) :=
  ((((((s.releaseHeld_steady n).trans (State.unindexSerial_steady _ _)).trans (State.unindexPlot_steady _ _)).trans
    (State.removeEntry_steady _ _ n)).trans (State.clearTargets_steady _ n)).trans (State.change_steady _ n _)).trans
    (eachNumber_steady _ fun t p _ => t.failIfReference_steady n p)

theorem State.adoptRecord_steady (n : Nat) (x : Serial) : s.Steady (s.adoptRecord n x) := by
  unfold State.adoptRecord
  split
  · exact .refl s
  · exact ((((s.unindexSerial_steady _).trans (State.indexSerial_steady _ x n)).trans (State.removeStranger_steady _ x)).trans
      (State.change_steady _ n _)).trans (State.nameAtOnce_steady _ n _)

theorem State.activate_steady (n : Nat) (cause : Cause) : s.Steady (s.activate n cause) :=
  (s.change_steady n _).trans (State.enqueue_steady _ _ fun _ => rfl)

theorem State.disown_steady (c : Record) : s.Steady (s.disown c) := by
  unfold State.disown
  split
  · exact .refl s
  · exact (s.unindexSerial_steady _).trans (State.appendStranger_steady _ _)

theorem State.rejectRecord_steady (n : Nat) : s.Steady (s.rejectRecord n) :=
  (((s.releaseHeld_steady n).trans (State.disown_steady _ _)).trans (State.clearTargets_steady _ n)).trans
    (State.change_steady _ n _)

/-! ### Record commands and their checks (R10, R11) -/

/-- A record command does its effect, where its checks pass, or handles damage, or nothing. -/
theorem recordCommand_steady {l : Link} {k : Permit} {n : Nat} {argsOk : Bool} {check : State → Record → Option Status}
    {apply : State → State} (h : check s (s.record n) = none → s.Steady (apply s)) :
    s.Steady (recordCommand l k n argsOk check apply s).1 := by
  unfold recordCommand
  split
  · exact .refl s
  · split
    · exact .refl s
    · split
      · exact .refl s
      · split
        · dsimp only
          exact s.damage_steady n
        · split
          · exact .refl s
          · next hc => exact h hc

theorem doPlan_steady (l : Link) (a : PlanArgs) : s.Steady (doPlan l a s).1 :=
  recordCommand_steady s fun _ => s.planRecord_steady a _ _ _

theorem doRestore_steady (l : Link) (a : PlanArgs) : s.Steady (doRestore l a s).1 :=
  recordCommand_steady s fun _ => s.planRecord_steady a _ _ _

theorem doAmend_steady (l : Link) (a : AmendArgs) : s.Steady (doAmend l a s).1 :=
  recordCommand_steady s fun _ => s.amendRecord_steady a

theorem doRetire_steady (l : Link) (r : Half) : s.Steady (doRetire l r s).1 :=
  recordCommand_steady s fun _ => s.retireRecord_steady _

theorem doAdopt_steady (l : Link) (r : Half) (x : Serial) : s.Steady (doAdopt l r x s).1 :=
  recordCommand_steady s fun _ => s.adoptRecord_steady _ x

theorem doRetry_steady (l : Link) (r : Half) : s.Steady (doRetry l r s).1 :=
  recordCommand_steady s fun _ => s.change_steady _ _

theorem doPin_steady (l : Link) (r : Half) : s.Steady (doPin l r s).1 :=
  recordCommand_steady s fun _ => s.modRecord_steady _ _

theorem doUnpin_steady (l : Link) (r : Half) : s.Steady (doUnpin l r s).1 :=
  recordCommand_steady s fun _ => s.modRecord_steady _ _

theorem doReject_steady (l : Link) (r : Half) : s.Steady (doReject l r s).1 :=
  recordCommand_steady s fun _ => s.rejectRecord_steady _

theorem doAdmit_steady (l : Link) (r : Half) : s.Steady (doAdmit l r s).1 :=
  recordCommand_steady s fun _ => s.activate_steady _ _

theorem doSuspend_steady (l : Link) (r : Half) : s.Steady (doSuspend l r s).1 :=
  recordCommand_steady s fun _ => (s.change_steady _ _).trans (State.enqueue_steady _ _ fun _ => rfl)

theorem doConfirm_steady (l : Link) (r : Half) : s.Steady (doConfirm l r s).1 :=
  recordCommand_steady s fun _ => by
    split
    · exact s.activate_steady _ _
    · exact s.change_steady _ _

theorem doRediscover_steady (l : Link) (r : Half) : s.Steady (doRediscover l r s).1 :=
  recordCommand_steady s fun hc => by
    refine s.reenter_steady ?_ _ _ _
    by_contra hroom
    unfold rediscoverCheck at hc
    split at hc
    · cases hc
    · split at hc
      · cases hc
      · simp [hroom] at hc

/-! ### The reads and the device commands -/

theorem State.lookedUp_steady (n : Nat) (items : State → List Byte) : s.Steady (s.lookedUp n items).1 := by
  unfold State.lookedUp
  split
  · exact .refl s
  · dsimp only
    exact s.damage_steady n

theorem doReadRecord_steady (r : Half) : s.Steady (doReadRecord r s).1 := by
  dsimp only [doReadRecord]
  split
  · exact .refl s
  · split
    · exact .refl s
    · dsimp only
      exact s.damage_steady _

theorem doFindSerial_steady (x : Serial) : s.Steady (doFindSerial x s).1 := by
  unfold doFindSerial
  split
  · exact s.lookedUp_steady _ _
  · exact .refl s

theorem doFindPlot_steady (plot : Half) : s.Steady (doFindPlot plot s).1 := by
  unfold doFindPlot
  split
  · exact .refl s
  · split
    · exact s.lookedUp_steady _ _
    · exact .refl s

theorem doSilenceMap_steady (p : Byte) (first : Half) : s.Steady (doSilenceMap p first s).1 := by
  dsimp only [doSilenceMap]
  split
  · exact .refl s
  · split
    · exact .refl s
    · exact s.scan_steady _

theorem doDropMap_steady (p : Byte) : s.Steady (doDropMap p s).1 := by
  dsimp only [doDropMap]
  split
  · exact .refl s
  · exact s.scan_steady _

theorem doActivationQueue_steady (p : Byte) : s.Steady (doActivationQueue p s).1 := by
  dsimp only [doActivationQueue]
  split
  · exact .refl s
  · exact s.scan_steady _

theorem doPortStatus_steady (l : Link) (p : Byte) : s.Steady (doPortStatus l p s).1 := by
  dsimp only [doPortStatus]
  split
  · exact .refl s
  · dsimp only
    split
    · exact s.flag_steady _ _
    · exact .refl s

/-- Flags, phase and integrity count stand in no bound, window or map. -/
theorem State.unbound_steady (newStranger : Bool) (phase : SitePhase) (count : Nat) (first : Option Nat) :
    s.Steady { s with newStranger := newStranger, phase := phase, integrityCount := count, firstDamaged := first } :=
  ⟨⟨⟨id, id, id, id⟩, rfl, rfl, rfl⟩, fun _ _ => id, fun _ _ _ => ⟨rfl, rfl⟩⟩

theorem State.clearFlags_steady : s.Steady s.clearFlags :=
  (s.unbound_steady false s.phase s.integrityCount s.firstDamaged).trans
    (eachNumber_steady _ fun t p _ => t.flag_steady p _)

theorem State.withoutChanged_steady (ns : List Nat) : s.Steady (s.withoutChanged ns) :=
  ⟨⟨⟨id, id, fun ⟨hserial, hplot, hchanged, hdrop⟩ => ⟨hserial, hplot, hchanged.filter _, hdrop⟩, id⟩, rfl, rfl, rfl⟩,
    fun _ _ => id, fun _ _ _ => ⟨rfl, rfl⟩⟩

theorem doChanges_steady (l : Link) : s.Steady (doChanges l s).1 := by
  dsimp only [doChanges]
  split
  · exact .refl s
  · exact ((s.scan_steady _).trans (State.withoutChanged_steady _ _)).trans (State.clearFlags_steady _)

theorem doScrubConfigure_steady (l : Link) (i : Byte) : s.Steady (doScrubConfigure l i s).1 := by
  unfold doScrubConfigure
  split
  · exact .refl s
  · split
    · exact .refl s
    · next hi =>
      have hpos : 1 ≤ i.toNat := Nat.pos_of_ne_zero fun h => hi (BitVec.eq_of_toNat_eq h)
      have hle : i.toNat ≤ 255 := Nat.le_of_lt_succ i.isLt
      exact ⟨⟨⟨fun ⟨h1, h2, h3, h4, h5, h6, _, _, h9⟩ => ⟨h1, h2, h3, h4, h5, h6, hpos, hle, h9⟩, id, id, id⟩, rfl, rfl, rfl⟩,
        fun _ _ => id, fun _ _ _ => ⟨rfl, rfl⟩⟩

theorem doIntegrity_steady (l : Link) : s.Steady (doIntegrity l s).1 := by
  unfold doIntegrity
  split
  · exact .refl s
  · exact s.unbound_steady s.newStranger s.phase 0 none

theorem doPhaseService_steady (l : Link) : s.Steady (doPhaseService l s).1 := by
  unfold doPhaseService
  split
  · exact .refl s
  · exact s.unbound_steady s.newStranger .service s.integrityCount s.firstDamaged

/-! ### SOFT RESET -/

/-- A port after a soft reset has no window and no changeover, and its counters start again. -/
theorem Port.softReset_keeps (q : Port) : q.Keeps q.softReset where
  bounded := by
    rintro ⟨h1, h2, -, -, -, -, -, -, h9, -⟩
    have hspread : q.config.initSpread ≤ Config.spreadLimit := by
      simp only [PortConfig.inRange, Bool.and_eq_true, decide_eq_true_eq] at h1
      simp only [Config.spreadLimit]
      omega
    exact ⟨h1, h2, hspread, Nat.zero_le _, Nat.zero_lt_succ _, Nat.zero_le _, Nat.zero_le _, Nat.zero_le _, h9, Nat.zero_le _,
      Nat.zero_le _, Nat.zero_le _, Nat.zero_le _, Nat.zero_le _⟩
  lawful _ := by
    refine ⟨nofun, ⟨nofun, fun h => ?_⟩, rfl⟩
    have hstate : q.softReset.state = q.state.afterSoftReset := rfl
    rw [hstate] at h
    cases hs : q.state <;> rw [hs] at h <;> cases h
  dropMap := id

theorem State.softResetRecord_steady (r : Nat) : s.Steady (s.softResetRecord r) := by
  unfold State.softResetRecord
  split
  · exact s.damage_steady r
  · split
    · exact (s.releaseHeld_steady r).trans (State.change_steady _ r _)
    · exact s.modRecord_steady r _

theorem State.softResetEnd_steady :
    s.Steady { s with strangers := [], scrubCursor := 0, scrubCounter := 0, integrityCount := 0, firstDamaged := none } :=
  ⟨⟨⟨fun ⟨h1, _, h3, h4, h5, _, h7, h8, _⟩ => ⟨h1, Nat.zero_le _, h3, h4, h5, Nat.zero_lt_succ _, h7, h8, Nat.zero_le _⟩, id, id, id⟩,
    rfl, rfl, rfl⟩, fun _ _ => id, fun _ _ _ => ⟨rfl, rfl⟩⟩

theorem State.softReset_evolves : s.Evolves s.softReset := by
  have habandoned := eachNumber_steady s (ns := allPorts) fun t p _ => t.abandon_steady p
  have hemptied := habandoned.trans (eachNumber_steady _ (ns := allPorts) fun t p _ => t.emptyOutbound_steady p)
  have hports := hemptied.toEvolves.trans (eachNumber_evolves _ (ns := allPorts) fun t p _ =>
    t.modPort_evolves (p := p) (Port.softReset_keeps _) (t.modPort_oneSetDelay fun _ => Nat.zero_le _))
  have hregistry := hports.trans
    (eachNumber_steady _ (ns := s.softResetSet) fun t r _ => t.softResetRecord_steady r).toEvolves
  have hserved := hregistry.trans (eachNumber_steady _ (ns := allPorts) fun t p _ => t.fillSetDelay_steady p).toEvolves
  exact hserved.trans ((State.clearFlags_steady _).trans (State.softResetEnd_steady _)).toEvolves

theorem doSoftReset_evolves (l : Link) : s.Evolves (doSoftReset l s).1 := by
  unfold doSoftReset
  split
  · exact .refl s
  · exact s.softReset_evolves

end Sys2Proof.Machine
end

section
/-! What every step keeps, fourth part: the port commands, the framer's traffic and discovery. -/

namespace Sys2Proof.Machine

variable (s : State)

/-! ### Lawful ports -/

/-- A port without a window or a changeover is lawful outside CHANGEOVER. -/
theorem Port.lawful_of_idle {q : Port} (hw : q.window = none) (hr : q.changeover.reference = none)
    (hf : q.changeover.previousFeed.isSome = q.changeover.reference.isSome) (hs : q.state ≠ .changeover) : q.lawful :=
  ⟨fun w h => by simp [hw] at h, ⟨fun h => by simp [hr] at h, fun h => absurd h hs⟩, hf⟩

theorem Port.lawful_reference {q : Port} (h : q.lawful) (hs : q.state ≠ .changeover) : q.changeover.reference = none := by
  obtain ⟨-, hstate, -⟩ := h
  exact Option.not_isSome_iff_eq_none.mp fun hr => hs (hstate.mp hr)

/-- DOWN and STANDBY permit no window (R62). -/
theorem Port.lawful_window {q : Port} (h : q.lawful) (hs : q.state = .down ∨ q.state = .standby) : q.window = none := by
  obtain ⟨hw, -⟩ := h
  cases hq : q.window with
  | none => rfl
  | some w =>
    have hperm := hw w hq
    rcases hs with hs | hs <;> rw [hs] at hperm <;> cases hperm

/-- From DOWN or STANDBY a port may take any state but CHANGEOVER. -/
theorem Port.lawful_setState {q : Port} (h : q.lawful) (hs : q.state = .down ∨ q.state = .standby) {q' : Port}
    (hw : q'.window = q.window) (hc : q'.changeover = q.changeover) (hs' : q'.state ≠ .changeover) : q'.lawful := by
  have hr : q.changeover.reference = none := Port.lawful_reference h (by rcases hs with hs | hs <;> rw [hs] <;> nofun)
  exact Port.lawful_of_idle (hw.trans (Port.lawful_window h hs)) (by rw [hc, hr]) (by rw [hc]; exact h.2.2) hs'

/-! ### Port commands -/

theorem portCommand_evolves {l : Link} {p : Nat} {check : Port → Option Status} {apply : State → State}
    (h : p < 4 → check (s.port p) = none → s.Evolves (apply s)) : s.Evolves (portCommand l p check apply s).1 := by
  unfold portCommand
  split
  · exact .refl s
  · split
    · exact .refl s
    · next hp =>
      split
      · exact .refl s
      · next hc => exact h (Nat.lt_of_not_le hp) hc

theorem state_of_needPortState {st : PortState} {inWork : Status} {q : Port} (h : needPortState st inWork q = none) :
    q.state = st := by
  unfold needPortState at h
  split at h
  · assumption
  · split at h <;> cases h

theorem doPortEnable_evolves (l : Link) (p : Byte) : s.Evolves (doPortEnable l p s).1 :=
  portCommand_evolves s fun _ hc => s.modPort_evolves
    ⟨id, fun h => Port.lawful_setState h (.inl (state_of_needPortState hc)) rfl rfl nofun, id⟩

theorem doStart_evolves (l : Link) (p : Byte) : s.Evolves (doStart l p s).1 := by
  refine portCommand_evolves s fun _ hc => s.modPort_evolves ⟨?_, fun h => ?_, id⟩
  · rintro ⟨h1, h2, h3, -, h5⟩
    exact ⟨h1, h2, h3, Nat.zero_le _, h5⟩
  · refine Port.lawful_setState h (.inr ?_) rfl rfl nofun
    unfold startCheck at hc
    split at hc
    · cases hc
    · next hneed => exact state_of_needPortState hneed

theorem doCalibrate_evolves (l : Link) (p : Byte) : s.Evolves (doCalibrate l p s).1 := by
  refine portCommand_evolves s fun _ hc => s.modPort_evolves ⟨?_, fun h => ?_, id⟩
  · rintro ⟨h1, h2, h3, h4, h5, -, h7⟩
    exact ⟨h1, h2, h3, h4, h5, Nat.zero_le _, h7⟩
  · exact Port.lawful_setState h (.inr (state_of_needPortState hc)) rfl rfl nofun

/-- Reports discarded and queues emptied lie within every bound (R45, R47, R83). -/
theorem Port.withoutReports_bounded {q : Port} (h : q.bounded) : q.withoutReports.bounded := by
  obtain ⟨h1, h2, h3, h4, h5, h6, h7, h8, h9, -, -, h12⟩ := h
  exact ⟨h1, h2, h3, h4, h5, h6, h7, h8, h9, Nat.zero_le _, Nat.zero_le _, h12⟩

theorem State.disableRecord_steady (p r : Nat) : s.Steady (s.disableRecord p r) := by
  dsimp only [State.disableRecord]
  split
  · exact (s.freeDrop_steady _ _).trans (State.change_steady _ _ _)
  · exact .refl s

theorem State.serveWaiting_steady (r : Nat) : s.Steady (s.serveWaiting r) := by
  unfold State.serveWaiting
  split
  · exact s.queueSetDelay_steady _ _
  · exact .refl s

/-- Before its own fields follow, PORT DISABLE leaves its port without a window or a changeover where it found it so (R45). -/
theorem State.disablePort_evolves {p : Nat} (hp : p < 4) (hs : (s.port p).state = .standby) : s.Evolves (s.disablePort p) := by
  have hsteady := ((s.scan_steady (s.disableSet p)).trans (State.emptyOutbound_steady _ p)).trans
    (eachNumber_steady _ (ns := s.disableSet p) fun t r _ => t.disableRecord_steady p r)
  refine State.Evolves.trans ?_ (eachNumber_steady _ fun t r _ => t.serveWaiting_steady r).toEvolves
  refine hsteady.toEvolves.modPort ?_ (fun hl hq => ?_) id (State.modPort_oneSetDelay _ fun _ => Nat.zero_le _)
  · intro h
    obtain ⟨h1, h2, h3, h4, h5, h6, h7, -, h9, h10, h11, -, -, h14⟩ := Port.withoutReports_bounded h
    exact ⟨h1, h2, h3, h4, h5, h6, h7, Nat.zero_le _, h9, h10, h11, Nat.zero_le _, Nat.zero_le _, h14⟩
  · have hr : (s.port p).changeover.reference = none := Port.lawful_reference (hl p hp) (by rw [hs]; nofun)
    obtain ⟨hstate, -⟩ := hsteady.context p hp hr
    exact Port.lawful_setState hq (.inr (hstate.trans hs)) rfl rfl nofun

theorem doPortDisable_evolves (l : Link) (p : Byte) : s.Evolves (doPortDisable l p s).1 :=
  portCommand_evolves s fun hp hc => s.disablePort_evolves hp (state_of_needPortState hc)

theorem Port.stopped_bounded {q : Port} (h : q.bounded) : q.stopped.bounded := by
  obtain ⟨h1, h2, h3, h4, h5, -, h7⟩ := Port.withoutReports_bounded h
  exact ⟨h1, h2, h3, h4, h5, Nat.zero_le _, h7⟩

theorem state_of_stopCheck {q : Port} (h : stopCheck q = none) : q.state ≠ .changeover := by
  intro hs
  simp [stopCheck, hs] at h

/-- STOP ends in STANDBY without a window; no changeover is in progress in the states it accepts (R47). -/
theorem State.stopPort_evolves {p : Nat} (hp : p < 4) (hc : stopCheck (s.port p) = none) : s.Evolves (s.stopPort p) := by
  refine (s.abandon_steady p).toEvolves.modPort Port.stopped_bounded (fun _ hq => ?_) id
  have hs : ((s.abandon p).port p).state ≠ .changeover := by
    rw [s.abandon_port_state]
    exact state_of_stopCheck hc
  have hr : ((s.abandon p).port p).changeover.reference = none := Port.lawful_reference hq hs
  exact Port.lawful_of_idle (s.abandon_window hp) hr hq.2.2 nofun

theorem doStop_evolves (l : Link) (p : Byte) : s.Evolves (doStop l p s).1 :=
  portCommand_evolves s fun hp hc => s.stopPort_evolves hp hc

theorem Port.configured_keeps {a : ConfigArgs} {q : Port} (h : configArgsOk a q.config = true) :
    q.Keeps (q.configured a) where
  bounded := by
    rintro ⟨-, h2, h3, h4⟩
    simp only [configArgsOk, Bool.and_eq_true] at h
    obtain ⟨-, hrange⟩ := h
    refine ⟨hrange, h2, ?_, h4⟩
    simp only [Port.configured, Config.spreadLimit]
    split
    · next hpick =>
      simp only [PortConfig.inRange, configApplied, hpick, if_true, Bool.and_eq_true, decide_eq_true_eq] at hrange
      omega
    · exact h3
  lawful h := h
  dropMap := id

theorem doPortConfigure_evolves (l : Link) (a : ConfigArgs) : s.Evolves (doPortConfigure l a s).1 := by
  dsimp only [doPortConfigure]
  split
  · exact .refl s
  · split
    · exact .refl s
    · split
      · exact .refl s
      · next hok =>
        split
        · exact .refl s
        · split
          · exact .refl s
          · dsimp only
            exact s.modPort_evolves (Port.configured_keeps (by simpa using hok))

theorem doSweep_evolves (l : Link) (p : Byte) : s.Evolves (doSweep l p s).1 := by
  dsimp only [doSweep]
  split
  · exact .refl s
  · split
    · exact .refl s
    · split
      · exact .refl s
      · dsimp only
        exact s.modPort_evolves ⟨id, id, id⟩

/-- CHANGEOVER abandons the open window before its port enters CHANGEOVER (R153). -/
theorem State.startChangeover_evolves {p : Nat} (hp : p < 4) (r : Nat) : s.Evolves (s.startChangeover p r) := by
  have hrestart : (s.abandon p).Steady ((s.abandon p).restartEntries p) :=
    eachNumber_steady _ fun t r _ => t.restart_steady p r none
  refine ((s.abandon_steady p).trans hrestart).toEvolves.modPort (fun h => ?_) (fun _ _ => ?_) id
  · obtain ⟨h1, h2, h3, h4, h5, h6, h7, h8, h9, h10, h11, h12, h13, -⟩ := Port.withoutReports_bounded h
    exact ⟨h1, h2, h3, h4, h5, h6, h7, h8, h9, h10, h11, h12, h13, Nat.zero_le _⟩
  · refine ⟨fun w hw => ?_, ⟨fun _ => rfl, fun _ => rfl⟩, rfl⟩
    have hnone : some w = none := hw.symm.trans (hrestart.window p hp (s.abandon_window hp))
    cases hnone

theorem doChangeover_evolves (l : Link) (p : Byte) (ref : Half) : s.Evolves (doChangeover l p ref s).1 := by
  dsimp only [doChangeover]
  split
  · exact .refl s
  · split
    · exact .refl s
    · next hp =>
      split
      · exact .refl s
      · split
        · exact .refl s
        · exact .refl s
        · exact .refl s
        · exact .refl s
        · split
          · dsimp only
            exact (s.damage_steady _).toEvolves
          · split
            · exact .refl s
            · dsimp only
              exact s.startChangeover_evolves (Nat.lt_of_not_le hp) _

end Sys2Proof.Machine
end

section
/-! What every step keeps, fifth part: the framer's traffic, discovery, the changeover's close, grants and frame starts. -/

namespace Sys2Proof.Machine

variable (s : State)

/-! ### Arrival reports (R72 to R74) -/

/-- An open window that is written again keeps its kind; what else changes lies within the bounds. -/
theorem Port.Steady.rewriteWindow {q q' : Port} {w w' : OpenWindow} (hw : q.window = some w) (hw' : q'.window = some w')
    (hk : w'.kind = w.kind) (hb : q.bounded → q'.bounded) (hs : q'.state = q.state) (hc : q'.changeover = q.changeover)
    (hd : q'.dropMap = q.dropMap) : q.Steady q' where
  bounded := hb
  lawful h := by
    obtain ⟨hwin, hrest⟩ := h
    refine ⟨fun x hx => ?_, by rwa [hs, hc]⟩
    obtain rfl : w' = x := Option.some.inj (hw'.symm.trans hx)
    rw [hs, hk]
    exact hwin w hw
  dropMap h := by rwa [hd]
  window h := by simp [hw] at h
  context _ := ⟨hs, hc⟩

theorem OpenWindow.capture_kind (w : OpenWindow) (r : ReportFields) : (w.capture r).kind = w.kind := by
  unfold OpenWindow.capture
  split <;> rfl

theorem Port.inviteReport_steady {q : Port} {w : OpenWindow} (hw : q.window = some w) (r : ReportFields) (k : ReportKind) :
    q.Steady (q.inviteReport w r k) := by
  unfold Port.inviteReport
  split
  · next hroom =>
    refine .rewriteWindow hw rfl (by split <;> rfl) ?_ rfl rfl rfl
    rintro ⟨h1, h2, h3, h4, h5, h6, h7, h8, h9, -, h11⟩
    exact ⟨h1, h2, h3, h4, h5, h6, h7, h8, h9, by simpa using hroom, h11⟩
  · exact .rewriteWindow hw rfl rfl id rfl rfl rfl

theorem Port.handleReport_steady {q : Port} {w : OpenWindow} (hw : q.window = some w) (r : ReportFields) (k : ReportKind) :
    q.Steady (q.handleReport w r k) := by
  have hcapture : q.Steady { q with window := some (w.capture r) } :=
    .rewriteWindow hw rfl (w.capture_kind r) id rfl rfl rfl
  unfold Port.handleReport
  split
  · exact Port.inviteReport_steady hw r _
  · exact Port.inviteReport_steady hw r _
  · exact .refl q
  · exact hcapture
  · exact .refl q
  · split
    · exact hcapture
    · exact .refl q
  · exact .refl q

theorem Port.arrival_steady (q : Port) (r : ReportFields) : q.Steady (q.arrival r) := by
  unfold Port.arrival
  split
  · next w k hw _ =>
    split
    · exact Port.handleReport_steady hw r k
    · exact .refl q
  · exact .refl q

/-- Reports come and go without a SET DELAY. -/
theorem Port.arrival_outbound (q : Port) (r : ReportFields) : (q.arrival r).outbound = q.outbound := by
  unfold Port.arrival Port.handleReport Port.inviteReport
  split
  · split
    · split
      · split <;> rfl
      · split <;> rfl
      · rfl
      · rfl
      · rfl
      · split <;> rfl
      · rfl
    · rfl
  · rfl

theorem State.arrival_steady (p : Nat) (r : ReportFields) : s.Steady (s.modPort p (fun q => q.arrival r)) :=
  s.modPort_steady (Port.arrival_steady _ r) (s.modPort_oneSetDelay fun n => by rw [Port.arrival_outbound])

/-! ### Message takes and admission lookups (R31, R78) -/

theorem State.answerTake_steady (p : Nat) (a : TakeAnswer) : s.Steady (s.answerTake p a) :=
  s.modPort_steady (.of_eq id rfl rfl rfl id)

theorem State.handOver_steady (p : Nat) (d : Descriptor) : s.Steady (s.handOver p d) := by
  unfold State.handOver
  split
  · exact s.answerTake_steady p _
  · split
    · exact (s.modRecord_steady _ _).trans (State.answerTake_steady _ p _)
    · exact (s.damage_steady _).trans (State.answerTake_steady _ p _)

theorem State.take_steady (p : Nat) : s.Steady (s.take p) := by
  unfold State.take
  split
  · exact s.answerTake_steady p _
  · next d ds hq =>
    refine ((s.shrinkOutbound_steady ?_).trans (State.handOver_steady _ p d)).trans (State.fillSetDelay_steady _ p)
    rw [hq]
    exact List.sublist_cons_self d ds

theorem State.answerLookup_steady (p : Nat) (b : Byte) : s.Steady (s.answerLookup p b) :=
  s.modPort_steady (.of_eq id rfl rfl rfl id)

theorem State.lookup_steady (p d : Nat) : s.Steady (s.lookup p d) := by
  unfold State.lookup
  split
  · exact s.answerLookup_steady p _
  · split
    · exact s.answerLookup_steady p _
    · split
      · exact s.answerLookup_steady p _
      · split
        · exact s.answerLookup_steady p _
        · exact (s.damage_steady _).trans (State.answerLookup_steady _ p _)

/-! ### Discovery (R70, R85 to R96) -/

/-- An INVITE close sets the discovery timer to 0 and adapts the spread, which it does not raise above 6 (R85). -/
theorem Port.inviteClosed_eq (q : Port) (w : OpenWindow) :
    ∃ n b, q.inviteClosed w = { q with discoveryTimer := 0, spread := n, lastEmpty := b }
      ∧ (n ≤ Config.spreadLimit ∨ n ≤ q.spread) := by
  dsimp only [Port.inviteClosed]
  split
  · exact ⟨_, _, rfl, .inl (Nat.min_le_right _ _)⟩
  · split
    · split
      · exact ⟨_, q.lastEmpty, rfl, .inr (Nat.sub_le _ _)⟩
      · exact ⟨q.spread, _, rfl, .inr le_rfl⟩
    · exact ⟨q.spread, _, rfl, .inr le_rfl⟩

theorem State.inviteClosedAt_steady (p : Nat) (w : OpenWindow) : s.Steady (State.inviteClosedAt p s w) := by
  obtain ⟨n, b, heq, hn⟩ := (s.port p).inviteClosed_eq w
  rw [State.inviteClosedAt, s.modPort_congr (g := fun q => { q with discoveryTimer := 0, spread := n, lastEmpty := b }) heq]
  refine s.modPort_steady (.of_eq ?_ rfl rfl rfl id)
  rintro ⟨h1, h2, h3, -, h5⟩
  exact ⟨h1, h2, hn.elim id fun h => h.trans h3, Nat.zero_le _, h5⟩

/-- A grant of an INVITE window takes the due flag, and the heard list where no report is at work (R84). -/
theorem Port.inviteGranted_eq (q : Port) (tag : Nat) :
    q.inviteGranted tag =
      { q with
        due := false
        heard := if q.arrivals = [] ∧ q.processing = none then [] else q.heard
        heardTag := if q.arrivals = [] ∧ q.processing = none then some tag else q.heardTag } := by
  have hiff : (q.arrivals.isEmpty && q.processing.isNone) = true ↔ q.arrivals = [] ∧ q.processing = none := by simp
  simp only [Port.inviteGranted, hiff]
  split <;> rfl

theorem State.makeDue_steady (p : Nat) : s.Steady (s.makeDue p) := by
  unfold State.makeDue
  split
  · exact s.modPort_steady (.of_eq id rfl rfl rfl id)
  · exact .refl s

theorem State.beginReport_steady (p : Nat) : s.Steady (s.modPort p Port.beginReport) := by
  have heq : ∀ q : Port, q.Steady q.beginReport ∧ q.beginReport.outbound = q.outbound := by
    intro q
    unfold Port.beginReport
    split
    · next r rs hq _ =>
      split
      · refine ⟨.of_eq ?_ rfl rfl rfl id, rfl⟩
        rintro ⟨h1, h2, h3, h4, h5, h6, h7, h8, h9, h10, h11⟩
        rw [hq] at h10
        exact ⟨h1, h2, h3, h4, h5, h6, h7, h8, h9, (Nat.le_succ _).trans h10, h11⟩
      · exact ⟨.refl q, rfl⟩
    · exact ⟨.refl q, rfl⟩
  exact s.modPort_steady (heq _).1 (s.modPort_oneSetDelay fun n => by rw [(heq _).2])

theorem State.helloActivating_steady (p r : Nat) (levelable : Bool) : s.Steady (s.helloActivating p r levelable) := by
  dsimp only [State.helloActivating]
  refine (s.modRecord_steady r (fun c => { c with attempts := c.attempts + 1 })).trans ?_
  split
  · exact State.restart_steady _ p r _
  · exact State.failActivation_steady _ p r _

theorem State.helloRanged_steady (p r : Nat) (levelable : Bool) : s.Steady (s.helloRanged p r levelable) := by
  unfold State.helloRanged
  split
  · next hroom => exact s.reenter_steady hroom r _ _
  · exact ((s.freeDrop_steady p _).trans (State.change_steady _ r _)).trans (State.flag_steady _ p _)

theorem State.helloOwnPort_steady (p r : Nat) (levelable : Bool) : s.Steady (s.helloOwnPort p r levelable) := by
  unfold State.helloOwnPort
  split
  · exact s.nameExpected_steady p r _ _
  · exact s.helloActivating_steady p r levelable
  · exact s.helloActivating_steady p r levelable
  · exact s.helloActivating_steady p r levelable
  · exact s.helloRanged_steady p r levelable
  · exact s.helloRanged_steady p r levelable
  · exact s.helloRanged_steady p r levelable
  · exact .refl s

theorem State.helloOtherPort_steady (p r : Nat) (levelable : Bool) : s.Steady (s.helloOtherPort p r levelable) := by
  dsimp only [State.helloOtherPort]
  split
  · exact (s.change_steady r _).trans (State.nameExpected_steady _ p r _ _)
  · exact s.change_steady r _

theorem State.helloStranger_steady (p : Nat) (x : Serial) (levelable : Bool) : s.Steady (s.helloStranger p x levelable) := by
  dsimp only [State.helloStranger]
  split
  · exact s.strangers_steady (.inl (List.length_map _).le)
  · exact (s.appendStranger_steady _).trans
      (State.unbound_steady _ true s.phase s.integrityCount s.firstDamaged)

theorem State.helloLookup_steady (p : Nat) (x : Serial) (levelable : Bool) : s.Steady (s.helloLookup p x levelable) := by
  unfold State.helloLookup
  split
  · exact s.helloStranger_steady p x levelable
  · split
    · exact s.damage_steady _
    · split
      · exact s.helloOwnPort_steady p _ levelable
      · exact s.helloOtherPort_steady p _ levelable

/-- A port whose heard list stays within its bound (R83). -/
theorem Port.bounded_heard {q : Port} (h : q.bounded) {xs : List Serial} (hxs : xs.length ≤ Config.heardLimit) :
    ({ q with heard := xs } : Port).bounded := by
  obtain ⟨h1, h2, h3, h4, h5, h6, h7, h8, h9, h10, -, h12⟩ := h
  exact ⟨h1, h2, h3, h4, h5, h6, h7, h8, h9, h10, hxs, h12⟩

theorem State.heardWindow_steady (p tag : Nat) : s.Steady (s.modPort p (fun q => q.heardWindow tag)) := by
  by_cases h : (s.port p).heardTag = some tag
  · rw [s.modPort_id (fun q => q.heardWindow tag) (if_pos h)]
    exact .refl s
  · rw [s.modPort_congr (f := fun q => q.heardWindow tag) (g := fun q => { q with heard := [], heardTag := some tag }) (if_neg h)]
    exact s.modPort_steady (.of_eq (fun hb => Port.bounded_heard hb (Nat.zero_le _)) rfl rfl rfl id)

theorem State.recordHeard_steady (p : Nat) (x : Serial) : s.Steady (s.modPort p (fun q => q.recordHeard x)) := by
  by_cases h : (s.port p).heard.length < Config.heardLimit
  · rw [s.modPort_congr (f := fun q => q.recordHeard x) (g := fun q => { q with heard := q.heard ++ [x] }) (if_pos h)]
    exact s.modPort_steady
      (.of_eq (fun hb => Port.bounded_heard hb (by simpa using h)) rfl rfl rfl id)
  · rw [s.modPort_id (fun q => q.recordHeard x) (if_neg h)]
    exact .refl s

theorem State.hello_steady (p tag : Nat) (x : Serial) (levelable : Bool) : s.Steady (s.hello p tag x levelable) := by
  dsimp only [State.hello]
  refine (s.heardWindow_steady p tag).trans ?_
  split
  · exact .refl _
  · exact (State.recordHeard_steady _ p x).trans (State.helloLookup_steady _ p x levelable)

theorem State.registryStep_steady (p : Nat) : s.Steady (s.registryStep p) := by
  unfold State.registryStep
  split
  · exact .refl s
  · next r _ =>
    have hcleared : s.Steady (s.modPort p (fun q => { q with processing := none })) :=
      s.modPort_steady (.of_eq id rfl rfl rfl id)
    dsimp only
    split
    · exact hcleared
    · exact hcleared.trans (State.hello_steady _ p _ _ _)

/-! ### The changeover's close and the calibration's (R53, R155 to R159) -/

theorem State.updateRecord_steady (p : Nat) (shift : Int) (acc : State × List Nat) (r : Nat) :
    acc.1.Steady (State.updateRecord p shift acc r).1 := by
  dsimp only [State.updateRecord]
  split
  · dsimp only
    exact acc.1.damage_steady r
  · split
    · exact .refl _
    · split
      · dsimp only
        exact acc.1.change_steady r _
      · dsimp only
        exact (acc.1.freeDrop_steady p _).trans (State.change_steady _ r _)

theorem State.registryUpdate_steady (p : Nat) (shift : Int) : s.Steady (s.registryUpdate p shift) := by
  have hupdated : ∀ (rs : List Nat) (acc : State × List Nat), acc.1.Steady (rs.foldl (State.updateRecord p shift) acc).1 := by
    intro rs
    induction rs with
    | nil => exact fun acc => .refl _
    | cons r rs ih =>
      intro acc
      rw [List.foldl_cons]
      exact (State.updateRecord_steady p shift acc r).trans (ih _)
  exact ((hupdated (s.rangedOf p) (s, [])).trans
    (eachNumber_steady _ fun t d _ => t.enqueue_steady p fun _ => rfl)).trans (State.fillSetDelay_steady _ p)

/-- The changeover completes on a port that has no window open (R158). -/
theorem State.completeChangeover_evolves {p : Nat} (hp : p < 4) (hw : (s.port p).window = none) (r : Nat) (e : Captured)
    (g : Ranging) : s.Evolves (s.completeChangeover p r e g) := by
  have hsteady := ((s.setLastLevel_steady r e.level).trans (State.setCondition_steady _ p r e.level)).trans
    (State.registryUpdate_steady _ p (driftOf (s.port p) e.offset g))
  refine hsteady.toEvolves.modPort ?_ (fun _ _ => ?_) id
  · rintro ⟨h1, h2, h3, h4, h5, h6, h7, -, h9, h10, h11, h12, h13, -⟩
    exact ⟨h1, h2, h3, h4, h5, h6, h7, le_rfl, h9, h10, h11, h12, h13, Nat.zero_le _⟩
  · exact Port.lawful_of_idle (hsteady.window p hp hw) rfl rfl nofun

theorem State.referenceClosed_evolves {p : Nat} (hp : p < 4) (hw : (s.port p).window = none) (w : OpenWindow) :
    s.Evolves (State.referenceClosed p s w) := by
  unfold State.referenceClosed
  split
  · exact (s.failChangeover_steady p).toEvolves
  · split
    · exact ((s.damage_steady _).trans (State.failChangeover_steady _ p)).toEvolves
    · split
      · exact (s.failChangeover_steady p).toEvolves
      · split
        · exact s.completeChangeover_evolves hp hw _ _ _
        · exact (s.failChangeover_steady p).toEvolves
        · split
          · exact .refl s
          · exact (s.failChangeover_steady p).toEvolves

/-- A calibration that ends leaves its port in STANDBY, with a loop offset within its range (R53, R112). -/
theorem Port.calibrationEnds_bounded {q : Port} (h : q.bounded) {mean : Option Nat} (hm : ∀ m, mean = some m → m ≤ 4095) :
    (q.calibrationEnds mean).bounded := by
  obtain ⟨h1, h2, h3, h4, h5, -, h7⟩ := h
  cases mean with
  | none => exact ⟨h1, h2, h3, h4, h5, Nat.zero_le _, h7⟩
  | some m => exact ⟨h1, hm m rfl, h3, h4, h5, Nat.zero_le _, h7⟩

theorem calibrationMean_le {offsets : List Nat} {m : Nat} (h : calibrationMean offsets = some m) : m ≤ 4095 := by
  dsimp only [calibrationMean] at h
  split at h
  · next hok =>
    cases h
    exact hok.2
  · cases h

theorem Port.loopClosed_bounded {q : Port} (h : q.bounded) (captured : Option Captured) : (q.loopClosed captured).bounded := by
  unfold Port.loopClosed
  split
  · exact Port.calibrationEnds_bounded h nofun
  · split
    · next hlen =>
      obtain ⟨h1, h2, h3, h4, h5, -, h7⟩ := h
      exact ⟨h1, h2, h3, h4, h5, by simpa using Nat.le_of_lt_succ hlen, h7⟩
    · exact Port.calibrationEnds_bounded h fun m hm => calibrationMean_le hm

/-- What a LOOP close leaves of its port: the port as it was, or in STANDBY. -/
theorem Port.loopClosed_frame (q : Port) (captured : Option Captured) :
    (q.loopClosed captured).window = q.window ∧ (q.loopClosed captured).changeover = q.changeover
      ∧ (q.loopClosed captured).dropMap = q.dropMap ∧ (q.loopClosed captured).outbound = q.outbound
      ∧ ((q.loopClosed captured).state = q.state ∨ (q.loopClosed captured).state = .standby) := by
  have hends : ∀ mean, (q.calibrationEnds mean).window = q.window ∧ (q.calibrationEnds mean).changeover = q.changeover
      ∧ (q.calibrationEnds mean).dropMap = q.dropMap ∧ (q.calibrationEnds mean).outbound = q.outbound
      ∧ ((q.calibrationEnds mean).state = q.state ∨ (q.calibrationEnds mean).state = .standby) := by
    intro mean
    cases mean with
    | none => exact ⟨rfl, rfl, rfl, rfl, .inr rfl⟩
    | some m => exact ⟨rfl, rfl, rfl, rfl, .inr rfl⟩
  unfold Port.loopClosed
  split
  · exact hends none
  · split
    · exact ⟨rfl, rfl, rfl, rfl, .inl rfl⟩
    · exact hends _

/-- A LOOP window is open in CALIBRATING alone, where no changeover is in progress (R62). -/
theorem State.loopClosedAt_evolves {t : State} (hst : s.Evolves t) {p : Nat} (hw : (t.port p).window = none)
    (hs : s.lawful → (t.port p).state = .calibrating) (w : OpenWindow) : s.Evolves (State.loopClosedAt p t w) := by
  obtain ⟨hwindow, hchangeover, hdrop, hout, hstate⟩ := (t.port p).loopClosed_frame w.captured
  refine hst.modPort (fun h => Port.loopClosed_bounded h _) (fun hl hq => ?_) (fun h => by rwa [hdrop])
    (t.modPort_oneSetDelay fun n => by rw [hout])
  have hr : (t.port p).changeover.reference = none := Port.lawful_reference hq (by rw [hs hl]; nofun)
  refine Port.lawful_of_idle (hwindow.trans hw) (by rw [hchangeover, hr]) (by rw [hchangeover]; exact hq.2.2) ?_
  rcases hstate with hstate | hstate <;> rw [hstate]
  · rw [hs hl]
    nofun
  · nofun

/-! ### Closes -/

theorem State.dropWindow_window {p : Nat} (hp : p < 4) : ((s.dropWindow p).port p).window = none := by
  rw [State.dropWindow, s.modPort_port_self hp]

/-- What the owner of a closed window does keeps the invariants, whatever the window's kind (R65). -/
theorem State.closedBy_evolves {p : Nat} (hp : p < 4) {w : OpenWindow} (hw : (s.port p).window = some w) :
    s.Evolves (State.closedBy p (s.dropWindow p) w) := by
  have hdrop := (s.dropWindow_steady p).toEvolves
  have hnone := s.dropWindow_window hp
  unfold State.closedBy
  split
  · exact hdrop.trans (State.inviteClosedAt_steady _ p w).toEvolves
  · exact hdrop.trans (State.echoClosed_steady _ p w).toEvolves
  · exact hdrop.trans (State.verifyClosed_steady _ p w).toEvolves
  · exact hdrop.trans (State.upkeepClosed_steady _ p w).toEvolves
  · exact hdrop.trans (State.referenceClosed_evolves _ hp hnone w)
  · next hk =>
    refine s.loopClosedAt_evolves hdrop hnone (fun hl => ?_) w
    have hperm := (hl p hp).1 w hw
    rw [hk] at hperm
    rw [State.dropWindow, s.modPort_port_self hp]
    exact PortState.permits_loop.mp hperm

theorem State.closeOf_congr {p : Nat} {k : WindowKind} {owner owner' : State → OpenWindow → State}
    (h : ∀ t w, w.kind = k → owner t w = owner' t w) : s.closeOf p k owner = s.closeOf p k owner' := by
  unfold State.closeOf
  split
  · split
    · next hk => exact h _ _ hk
    · rfl
  · rfl

/-- The row that closes a window of a kind does what its owner does at a frame start (R65; log entry 4). -/
theorem exec_closeRow (p : Lane) (k : WindowKind) :
    exec (closeRow p k) s =
      .next (if s.resetHeld then s else s.closeOf p.val k (State.closedBy p.val)).settle := by
  cases k with
  | invite | echo | verify | upkeep | reference | loop =>
    refine congrArg (fun t => Host.Outcome.next (if s.resetHeld then s else t).settle) (s.closeOf_congr fun t w hk => ?_)
    rw [State.closedBy, hk]

theorem State.closeOf_closedBy_evolves {p : Nat} (hp : p < 4) (k : WindowKind) :
    s.Evolves (s.closeOf p k (State.closedBy p)) := by
  unfold State.closeOf
  split
  · next w hw =>
    split
    · exact s.closedBy_evolves hp hw
    · exact .refl s
  · exact .refl s

end Sys2Proof.Machine
end

section
/-! What every step keeps, sixth part: grants, frame starts, the links and the step itself. -/

namespace Sys2Proof.Machine

variable (s : State)

/-! ### Grants (R63, R67, R68) -/

/-- A requester that stands in RUN asks for a window that RUN permits (R62, R67). -/
theorem State.runRequest_permits {p : Nat} {q : Requester} (h : s.runRequest p = some q) :
    PortState.run.permits q.kind = true := by
  have hupkeep : ∀ o, upkeepRequest o = some q → PortState.run.permits q.kind = true := by
    intro o ho
    obtain ⟨r, -, rfl⟩ := Option.map_eq_some_iff.mp ho
    rfl
  rw [State.runRequest, Option.or_eq_some_iff, Option.or_eq_some_iff, Option.or_eq_some_iff, Option.or_eq_some_iff] at h
  rcases h with ((hfull | ⟨-, hact⟩) | ⟨-, hmissed⟩) | ⟨-, hinvite | ⟨-, hroutine⟩⟩
  · unfold State.fullUpkeepRequest at hfull
    split at hfull
    · exact hupkeep _ hfull
    · cases hfull
  · obtain ⟨e, -, rfl⟩ := Option.map_eq_some_iff.mp hact
    dsimp only
    split <;> rfl
  · unfold State.missedUpkeepRequest at hmissed
    split at hmissed
    · exact hupkeep _ hmissed
    · cases hmissed
  · unfold State.inviteRequest at hinvite
    split at hinvite
    · cases hinvite
      rfl
    · cases hinvite
  · unfold State.routineUpkeepRequest at hroutine
    split at hroutine
    · exact hupkeep _ hroutine
    · cases hroutine

/-- The effect of a grant on its requester; only a REFERENCE window counts a window of the changeover (R68, R154). -/
theorem State.grantEffect_evolves {p : Nat} {w : OpenWindow}
    (h : w.kind = .reference → (s.port p).changeover.windows < 3) : s.Evolves (s.grantEffect p w) := by
  unfold State.grantEffect
  split
  · simp only [Port.inviteGranted_eq]
    refine s.modPort_evolves ⟨fun hb => Port.bounded_heard hb ?_, id, id⟩
    split
    · exact Nat.zero_le _
    · obtain ⟨-, -, -, -, -, -, -, -, -, -, hheard, -⟩ := hb
      exact hheard
  · exact ((s.setPhase_steady p _ _).trans (State.change_steady _ _ _)).toEvolves
  · exact (s.setPhase_steady p _ _).toEvolves
  · refine s.modPort_evolves ⟨?_, id, id⟩
    rintro ⟨h1, h2, h3, h4, h5, h6, h7, h8, h9⟩
    exact ⟨h1, h2, h3, h4, h5, h6, h7, (Nat.sub_le _ _).trans h8, h9⟩
  · next _ hk =>
    refine s.modPort_evolves ⟨?_, id, id⟩
    rintro ⟨h1, h2, h3, h4, h5, h6, h7, h8, h9, h10, h11, h12, h13, -⟩
    exact ⟨h1, h2, h3, h4, h5, h6, h7, h8, h9, h10, h11, h12, h13, h hk⟩
  · exact .refl s

/-- A grant of a kind that the port state permits (R62, R68). -/
theorem State.Evolves.grant {t : State} (hst : s.Evolves t) {p : Nat} {q : Requester}
    (hl : s.lawful → (t.port p).state.permits q.kind = true)
    (hr : q.kind = .reference → (t.port p).changeover.windows < 3) : s.Evolves (t.grant p q) := by
  refine (hst.modPort (f := fun x => x.granted (t.openWindow p q)) ?_ (fun hs hq => ?_) id).trans
    (State.grantEffect_evolves _ fun hk => ?_)
  · rintro ⟨h1, h2, h3, h4, -, h6⟩
    exact ⟨h1, h2, h3, h4, Nat.mod_lt _ (by decide), h6⟩
  · obtain ⟨-, hrest⟩ := hq
    refine ⟨fun w hw => ?_, hrest⟩
    cases hw
    exact hl hs
  · exact t.modPort_each (R := fun x y => x.changeover.windows < 3 → y.changeover.windows < 3) (fun _ => id) id p (hr hk)

/-- Damage found at a grant leaves the port in RUN, and the arbiter goes on (R68; log entry 31). -/
theorem State.Evolves.grantRun {p : Nat} (hp : p < 4) (fuel : Nat) {t : State} (hst : s.Evolves t)
    (h : s.lawful → (t.port p).state = .run) : s.Evolves (State.grantRun fuel t p) := by
  induction fuel generalizing t with
  | zero => exact hst
  | succ fuel ih =>
    unfold State.grantRun
    split
    · exact hst
    · next q hq =>
      have hgrant : s.Evolves (t.grant p q) := by
        have hperm := t.runRequest_permits hq
        refine hst.grant s (fun hl => by rw [h hl]; exact hperm) (fun hk => ?_)
        rw [hk] at hperm
        cases hperm
      split
      · exact hgrant
      · split
        · exact hgrant
        · next r _ _ =>
          refine ih (hst.trans (t.damage_steady r).toEvolves) (fun hl => ?_)
          have hr : (t.port p).changeover.reference = none :=
            Port.lawful_reference (hst.lawful hl p hp) (by rw [h hl]; nofun)
          exact ((t.damage_steady r).context p hp hr).1.trans (h hl)

theorem State.grantReference_evolves {p : Nat} (hs : (s.port p).state = .changeover) : s.Evolves (s.grantReference p) := by
  unfold State.grantReference
  split
  · exact .refl s
  · next q hq =>
    have hreq : q.kind = .reference ∧ (s.port p).changeover.windows < 3 := by
      unfold State.referenceRequest at hq
      split at hq
      · cases hq
      · split at hq
        · next hstands =>
          cases hq
          exact ⟨rfl, hstands.1⟩
        · cases hq
    split
    · exact .refl s
    · split
      · exact (State.Evolves.refl s).grant s (fun _ => by rw [hs, hreq.1]; rfl) fun _ => hreq.2
      · exact (s.damage_steady _).toEvolves

theorem State.grantStep_evolves {p : Nat} (hp : p < 4) : s.Evolves (s.grantStep p) := by
  unfold State.grantStep
  split
  · unfold State.considerGrant
    split
    · next hs => exact (State.Evolves.refl s).grantRun s hp _ fun _ => hs
    · next hs => exact (State.Evolves.refl s).grant s (fun _ => by rw [hs]; rfl) nofun
    · next hs => exact s.grantReference_evolves hs
    · exact .refl s
    · exact .refl s
  · exact .refl s

/-! ### Frame starts (R64, R69, R70, R164) -/

theorem State.windowStep_evolves {p : Nat} (hp : p < 4) : s.Evolves (s.windowStep p) := by
  unfold State.windowStep
  split
  · refine s.modPort_evolves ⟨?_, id, id⟩
    rintro ⟨h1, h2, h3, h4, h5, h6, -, h8⟩
    exact ⟨h1, h2, h3, h4, h5, h6, Nat.min_le_right _ _, h8⟩
  · next w hw =>
    split
    · exact s.closedBy_evolves hp hw
    · refine (s.modPort_steady ?_).toEvolves
      exact .rewriteWindow hw rfl rfl id rfl rfl rfl

theorem State.timerStep_steady (p : Nat) (invite : Bool) : s.Steady (s.timerStep p invite) := by
  have hperiod : s.Steady (s.periodStep p) := by
    unfold State.periodStep
    split
    · exact s.periodEnd_steady p
    · exact s.modPort_steady (.of_eq id rfl rfl rfl id)
  have hdiscovery : ∀ t : State, t.Steady (t.discoveryStep p) := by
    intro t
    have hcounted : t.Steady
        (t.modPort p (fun q => { q with discoveryTimer := min (q.discoveryTimer + 1) Config.discoveryTimerLimit })) :=
      t.modPort_steady (.of_eq (fun ⟨h1, h2, h3, _, h5⟩ => ⟨h1, h2, h3, Nat.min_le_right _ _, h5⟩) rfl rfl rfl id)
    dsimp only [State.discoveryStep]
    split
    · exact hcounted.trans (State.makeDue_steady _ p)
    · exact hcounted
  dsimp only [State.timerStep]
  split
  · split
    · exact hperiod
    · exact hperiod.trans (hdiscovery _)
  · exact .refl s

theorem State.arbiterFrame_evolves {p n : Nat} (hp : p < 4) (hn : n < 65536) : s.Evolves (s.arbiterFrame p n) := by
  have hframe : s.Evolves (s.modPort p (fun q => { q with frame := n })) :=
    s.modPort_evolves ⟨fun ⟨h1, h2, h3, h4, h5, h6, h7, h8, _, h10⟩ => ⟨h1, h2, h3, h4, h5, h6, h7, h8, hn, h10⟩, id, id⟩
  exact ((hframe.trans (State.windowStep_evolves _ hp)).trans (State.timerStep_steady _ p _).toEvolves).trans
    (State.grantStep_evolves _ hp)

/-- The scrubber's cursor and counter stay within their bounds (R164). -/
theorem State.scrubCounters_steady {cursor counter : Nat} (hcursor : s.scrubCursor < Config.records → cursor < Config.records)
    (hcounter : s.scrubInterval ≤ 255 → s.scrubCounter ≤ 255 → counter ≤ 255) :
    s.Steady { s with scrubCounter := counter, scrubCursor := cursor } :=
  ⟨⟨⟨fun ⟨h1, h2, h3, h4, h5, h6, h7, h8, h9⟩ => ⟨h1, h2, h3, h4, h5, hcursor h6, h7, h8, hcounter h8 h9⟩, id, id, id⟩,
    rfl, rfl, rfl⟩, fun _ _ => id, fun _ _ _ => ⟨rfl, rfl⟩⟩

theorem State.scrub_steady : s.Steady s.scrub :=
  (s.verifyOrDamage_steady s.scrubCursor).trans
    (State.scrubCounters_steady _ (fun _ => Nat.mod_lt _ (by decide)) fun _ _ => Nat.zero_le _)

theorem State.scrubCount_steady : s.Steady s.scrubCount := by
  unfold State.scrubCount
  split
  · exact s.scrub_steady
  · exact s.scrubCounters_steady id fun h _ => by omega

/-! ### The links (R173 to R177) -/

/-- What a change of the links within their bounds keeps. -/
theorem State.links_keep {host craft : LinkState} {idle : Nat} (hh : s.host.bounded → host.bounded)
    (hc : s.craft.bounded → craft.bounded) (hi : s.craftIdle ≤ Config.craftIdleLimit → idle ≤ Config.craftIdleLimit)
    (lastServed : Link) (hostRead : Bool) :
    s.Keeps { s with host := host, craft := craft, craftIdle := idle, lastServed := lastServed, hostRead := hostRead } :=
  ⟨fun ⟨h1, h2, h3, h4, h5, h6⟩ => ⟨h1, h2, hh h3, hc h4, hi h5, h6⟩, id, id, id⟩

theorem State.Keeps.refl : s.Keeps s := ⟨id, id, id, id⟩

theorem State.modLink_keeps {l : Link} {f : LinkState → LinkState} (h : (s.link l).bounded → (f (s.link l)).bounded) :
    s.Keeps (s.modLink l f) := by
  cases l with
  | host => exact s.links_keep h id id s.lastServed s.hostRead
  | craft => exact s.links_keep id h id s.lastServed s.hostRead

theorem State.appendReply_keeps {l : Link} (hroom : (s.link l).replies.length < Config.replyLimit) (f : ReplyFrame) :
    s.Keeps (s.appendReply l f) :=
  s.modLink_keeps fun ⟨hq, _⟩ => ⟨hq, by simpa using hroom⟩

theorem State.replyRoom_iff {l : Link} : s.replyRoom l = true ↔ (s.link l).replies.length < Config.replyLimit :=
  decide_eq_true_iff

theorem State.immediate_keeps (l : Link) (tag : Byte) (st : Status) : s.Keeps (s.immediate l tag st) := by
  unfold State.immediate
  split
  · next hroom => exact s.appendReply_keeps (s.replyRoom_iff.mp hroom) _
  · exact .refl s

theorem State.queueCommand_keeps (l : Link) (tag : Byte) (c : Command) : s.Keeps (s.queueCommand l tag c) := by
  unfold State.queueCommand
  split
  · next hroom => exact s.modLink_keeps fun ⟨_, hr⟩ => ⟨by simpa using hroom, hr⟩
  · exact s.immediate_keeps l tag _

theorem State.checkFrame_keeps (l : Link) (bs : List Byte) : s.Keeps (s.checkFrame l bs) := by
  unfold State.checkFrame
  split
  · exact s.immediate_keeps l _ _
  · unfold State.checkCommand
    split
    · split
      · exact s.queueCommand_keeps l _ _
      · exact s.immediate_keeps l _ _
    · exact s.immediate_keeps l _ _

theorem State.hostPeriod_keeps (bs : List Byte) : s.Keeps (s.hostPeriod bs).endPeriod := by
  have hend : ∀ t : State, t.Keeps t.endPeriod := fun t =>
    t.links_keep (host := { t.host with assembly := none }) id id id t.lastServed false
  unfold State.hostPeriod
  split
  · exact (s.checkFrame_keeps _ _).trans (hend _)
  · exact hend s

theorem State.dropReply_keeps (l : Link) : s.Keeps (s.dropReply l) :=
  s.modLink_keeps fun ⟨hq, hr⟩ => ⟨hq, by
    rw [List.length_drop]
    exact (Nat.sub_le _ _).trans hr⟩

theorem State.shiftReplyOut_keeps : s.Keeps s.shiftReplyOut := by
  unfold State.shiftReplyOut
  split
  · exact .refl s
  · have hread : ∀ t : State, t.Keeps { t with hostRead := true } := fun t => t.links_keep id id id t.lastServed true
    exact (s.dropReply_keeps .host).trans (hread _)

theorem State.endAssembly_keeps : s.Keeps s.endAssembly :=
  s.links_keep (craft := { s.craft with assembly := none }) id id (fun _ => Nat.zero_le _) s.lastServed s.hostRead

theorem State.incomplete_keeps (bs : List Byte) : s.Keeps (s.incomplete bs) := by
  unfold State.incomplete
  split
  · exact s.endAssembly_keeps.trans (State.immediate_keeps _ _ _ _)
  · exact s.endAssembly_keeps

theorem State.assemble_keeps (bs : List Byte) : s.Keeps (s.assemble bs) := by
  unfold State.assemble
  split
  · exact s.endAssembly_keeps.trans (State.checkFrame_keeps _ _ _)
  · exact s.links_keep (craft := { s.craft with assembly := some bs }) id id (fun _ => Nat.zero_le _) s.lastServed s.hostRead

theorem State.craftByte_keeps (b : Byte) (stopError : Bool) : s.Keeps (s.craftByte b stopError) := by
  unfold State.craftByte
  split
  · split
    · exact s.assemble_keeps _
    · exact .refl s
  · split
    · exact s.incomplete_keeps _
    · exact s.assemble_keeps _

theorem State.craftTimeout_keeps : s.Keeps s.craftTimeout := by
  unfold State.craftTimeout
  split
  · exact .refl s
  · exact s.incomplete_keeps _

theorem State.craftIdleCount_keeps : s.Keeps s.craftIdleCount := by
  unfold State.craftIdleCount
  split
  · exact .refl s
  · split
    · exact s.incomplete_keeps _
    · exact s.links_keep id id (fun _ => by omega) s.lastServed s.hostRead

theorem State.frameStart_keeps {p n : Nat} (hp : p < 4) (hn : n < 65536) : s.Keeps (s.frameStart p n) := by
  have harbiter := (s.arbiterFrame_evolves hp hn).toKeeps
  unfold State.frameStart
  split
  · exact (harbiter.trans (State.scrubCount_steady _).toKeeps).trans (State.craftIdleCount_keeps _)
  · exact harbiter

/-! ### Link commands -/

/-- Every link command leaves the links alone: the reply is the arbiter's (R177). -/
theorem runCommand_evolves (l : Link) (c : Command) : s.Evolves (runCommand l c s).1 := by
  cases c with
  | plan a => exact (doPlan_steady s l a).toEvolves
  | amend a => exact (doAmend_steady s l a).toEvolves
  | retire r => exact (doRetire_steady s l r).toEvolves
  | adopt r x => exact (doAdopt_steady s l r x).toEvolves
  | retry r => exact (doRetry_steady s l r).toEvolves
  | restore a => exact (doRestore_steady s l a).toEvolves
  | pin r => exact (doPin_steady s l r).toEvolves
  | unpin r => exact (doUnpin_steady s l r).toEvolves
  | confirm r => exact (doConfirm_steady s l r).toEvolves
  | reject r => exact (doReject_steady s l r).toEvolves
  | admitDrop r => exact (doAdmit_steady s l r).toEvolves
  | suspend r => exact (doSuspend_steady s l r).toEvolves
  | rediscover r => exact (doRediscover_steady s l r).toEvolves
  | portEnable p => exact doPortEnable_evolves s l p
  | portDisable p => exact doPortDisable_evolves s l p
  | calibrate p => exact doCalibrate_evolves s l p
  | start p => exact doStart_evolves s l p
  | stop p => exact doStop_evolves s l p
  | portConfigure a => exact doPortConfigure_evolves s l a
  | sweep p => exact doSweep_evolves s l p
  | changeover p r => exact doChangeover_evolves s l p r
  | readRecord r => exact (doReadRecord_steady s r).toEvolves
  | findSerial x => exact (doFindSerial_steady s x).toEvolves
  | findPlot plot => exact (doFindPlot_steady s plot).toEvolves
  | strangers | deviceStatus => exact .refl s
  | silenceMap p r => exact (doSilenceMap_steady s p r).toEvolves
  | dropMap p => exact (doDropMap_steady s p).toEvolves
  | activationQueue p => exact (doActivationQueue_steady s p).toEvolves
  | portStatus p => exact (doPortStatus_steady s l p).toEvolves
  | changes => exact (doChanges_steady s l).toEvolves
  | scrubConfigure i => exact (doScrubConfigure_steady s l i).toEvolves
  | integrity => exact (doIntegrity_steady s l).toEvolves
  | phaseService => exact (doPhaseService_steady s l).toEvolves
  | softReset => exact doSoftReset_evolves s l

/-- A command taken where its link's reply path has room (R177). -/
theorem State.answer_keeps {l : Link} (hroom : s.replyRoom l = true) (tag : Byte) (c : Command) :
    s.Keeps (s.answer l tag (runCommand l c)) := by
  have hact := runCommand_evolves s l c
  have hserved : ∀ t : State, t.Keeps { t with lastServed := l } := fun t => t.links_keep id id id l t.hostRead
  refine (hact.toKeeps.trans (hserved _)).trans (State.appendReply_keeps _ ?_ _)
  have hlink : ({ (runCommand l c s).1 with lastServed := l } : State).link l = s.link l := by
    cases l
    · exact hact.host
    · exact hact.craft
  rw [hlink]
  exact s.replyRoom_iff.mp hroom

theorem State.arbitrate_keeps : s.Keeps s.arbitrate := by
  unfold State.arbitrate
  split
  · exact .refl s
  · next l hnext =>
    have hroom : s.replyRoom l = true := by
      unfold State.nextLink at hnext
      split at hnext
      · next h =>
        cases hnext
        exact (Bool.and_eq_true_iff.mp h).2
      · split at hnext
        · next h =>
          cases hnext
          exact (Bool.and_eq_true_iff.mp h).2
        · cases hnext
    unfold State.takeCommand
    split
    · exact .refl s
    · next c cs hq =>
      have htaken : s.Keeps (s.modLink l (fun k => { k with queue := cs })) := s.modLink_keeps fun ⟨hlen, hr⟩ => by
        rw [hq] at hlen
        exact ⟨(Nat.le_succ _).trans hlen, hr⟩
      refine htaken.trans (State.answer_keeps _ ?_ _ _)
      rw [State.replyRoom_iff, State.modLink_link_self]
      exact s.replyRoom_iff.mp hroom

/-! ### The step -/

theorem State.settle_keeps : s.Keeps s.settle := ⟨id, id, id, id⟩

/-- The asserted pin puts the bounds, windows and maps of a reset part in place (R182). -/
theorem State.hardReset_keeps : s.Keeps s.hardReset :=
  ⟨fun _ => State.reset_bounded, fun _ => State.reset_lawful, fun _ => State.reset_mapsRise, fun _ => State.reset_oneSetDelay⟩

section
variable {s} {t u : State}

/-- What a row that has its effect keeps once the attention output has followed. -/
theorem State.Keeps.row (h : s.Keeps u) (ht : (.next u.settle : Result) = .next t) : s.Keeps t := by
  cases ht
  exact h.trans u.settle_keeps

/-- A row that has its effect where no condition rules it out. -/
theorem State.Keeps.unless (h : s.Keeps u) {c : Prop} [Decidable c] (ht : (.next (if c then s else u).settle : Result) = .next t) :
    s.Keeps t := by
  refine State.Keeps.row ?_ ht
  split
  · exact .refl s
  · exact h

theorem linkCommand_keeps {l : Link} {tag : Byte} {c : Command} (ht : linkCommand l tag c (runCommand l c) s = .next t) :
    s.Keeps t := by
  refine State.Keeps.unless ?_ ht
  split
  · next hroom => exact s.answer_keeps hroom tag c
  · exact s.queueCommand_keeps l tag c

/-- Every row of the table keeps the four invariants. -/
theorem exec_keeps {i : Instr} (ht : exec i s = .next t) : s.Keeps t := by
  cases i with
  | plan | amend | retire | adopt | retry | restore | pin | unpin | confirm | reject | admitDrop | suspend | rediscover
  | portEnable | portDisable | calibrate | start | stop | portConfigure | sweep | changeover | readRecord | findSerial
  | findPlot | strangers | silenceMap | dropMap | activationQueue | portStatus | deviceStatus | changes | scrubConfigure
  | integrity | phaseService | softReset => exact linkCommand_keeps ht
  | hardResetAssert => exact s.hardReset_keeps.row ht
  | hardResetRelease =>
    have hreleased : s.Keeps { s with resetHeld := false } := ⟨id, id, id, id⟩
    exact hreleased.row ht
  | storageUpset r image check =>
    change execStorageUpset r image check s = _ at ht
    unfold execStorageUpset at ht
    split at ht
    · cases ht
    · split at ht
      · cases ht
      · split at ht
        · cases ht
        · exact (s.store_steady r _).toKeeps.unless ht
  | frameStart p n => exact (s.frameStart_keeps p.isLt n.isLt).unless ht
  | windowGrant p => exact (s.grantStep_evolves p.isLt).toKeeps.unless ht
  | inviteClose p => exact (s.closeOf_closedBy_evolves p.isLt _).toKeeps.unless ((exec_closeRow s p .invite).symm.trans ht)
  | echoClose p => exact (s.closeOf_closedBy_evolves p.isLt _).toKeeps.unless ((exec_closeRow s p .echo).symm.trans ht)
  | verifyClose p => exact (s.closeOf_closedBy_evolves p.isLt _).toKeeps.unless ((exec_closeRow s p .verify).symm.trans ht)
  | upkeepClose p => exact (s.closeOf_closedBy_evolves p.isLt _).toKeeps.unless ((exec_closeRow s p .upkeep).symm.trans ht)
  | referenceClose p => exact (s.closeOf_closedBy_evolves p.isLt _).toKeeps.unless ((exec_closeRow s p .reference).symm.trans ht)
  | loopClose p => exact (s.closeOf_closedBy_evolves p.isLt _).toKeeps.unless ((exec_closeRow s p .loop).symm.trans ht)
  | upkeepPeriodEnd p => exact (s.periodEnd_steady p.val).toKeeps.unless ht
  | discoveryDue p => exact (s.makeDue_steady p.val).toKeeps.unless ht
  | scrubVerify => exact s.scrub_steady.toKeeps.unless ht
  | arrivalReport p r => exact (s.arrival_steady p.val r).toKeeps.unless ht
  | reportProcessingStart p => exact (s.beginReport_steady p.val).toKeeps.unless ht
  | reportRegistryStep p => exact (s.registryStep_steady p.val).toKeeps.unless ht
  | messageTake p =>
    refine State.Keeps.row ?_ ht
    split
    · exact (s.answerTake_steady p.val _).toKeeps
    · exact (s.take_steady p.val).toKeeps
  | setDelayQueue p => exact (s.fillSetDelay_steady p.val).toKeeps.unless ht
  | admissionLookup p d =>
    refine State.Keeps.row ?_ ht
    split
    · exact (s.answerLookup_steady p.val _).toKeeps
    · exact (s.lookup_steady p.val d.toNat).toKeeps
  | hostSelectEnd bs => exact (s.hostPeriod_keeps _).unless ht
  | hostReplyShiftedOut => exact s.shiftReplyOut_keeps.unless ht
  | craftByteReceived b stopError => exact (s.craftByte_keeps b stopError).unless ht
  | craftIdleTimeout => exact s.craftTimeout_keeps.unless ht
  | craftReplySent => exact (s.dropReply_keeps .craft).unless ht
  | commandTake => exact s.arbitrate_keeps.unless ht
end

/-- Settles O59: a step takes the front row, and every row keeps each of the four invariants. -/
theorem stepsKeepBoundsWindowsAndMaps : Obligations.StepsKeepBoundsWindowsAndMaps := by
  intro s t ht
  have hkeeps : s.Keeps t := by
    unfold step at ht
    split at ht
    · cases ht
      exact .refl s
    · next c rest _ =>
      have htaken : s.Keeps { s with pending := rest } := ⟨id, id, id, id⟩
      exact htaken.trans (exec_keeps ht)
  exact ⟨hkeeps.bounded, hkeeps.lawful, hkeeps.mapsRise, hkeeps.oneSetDelay⟩

end Sys2Proof.Machine
end

section
/-! Descriptors queued (R77), windows abandoned (R66), the moments of the timers (R69, R70, R164) and arrival reports (R72 to R74). -/

namespace Sys2Proof.Machine

variable (s : State)

/-! ### Descriptors queued (R77) -/

theorem State.enqueue_room {p : Nat} (h : (s.port p).outbound.length < 64) (d : Descriptor) : s.enqueue p d = s.push p d :=
  if_pos h

theorem State.enqueue_full {p : Nat} (h : 64 ≤ (s.port p).outbound.length) (d : Descriptor) :
    s.enqueue p d = s.flag p (fun c => { c with outboundOverrun := true }) := if_neg (Nat.not_lt.mpr h)

/-- Settles O15: the two outcomes of a descriptor offered to a queue, and what neither of them touches. -/
theorem descriptorsJoinOrAreDropped : Obligations.DescriptorsJoinOrAreDropped := by
  rintro s t p d hp rfl
  refine ⟨fun hroom => ⟨?_, fun r hr hd => ⟨?_, s.enqueue_verifies p r d⟩, fun n hn => ?_⟩, fun hfull => ?_,
    fun q hq => s.enqueue_port_ne (by simpa using hq) d, (s.enqueue_sameOutside p d).eq_of_changed (s.enqueue_changed p d)⟩
  · rw [s.enqueue_room hroom, s.push_port, s.modPort_port_self hp]
  · rw [s.enqueue_record_named hd hr, if_pos hroom]
  · exact s.enqueue_stored_other fun hd => hn (by rw [hd]; exact List.mem_singleton_self n)
  · rw [s.enqueue_full hfull, State.flag]
    exact ⟨s.modPort_port_self hp _, fun _ _ => rfl⟩

/-! ### Abandonment (R66) -/

/-- The phase of an entry does not depend on the window that is gone. -/
theorem State.dropWindow_phaseOf {p : Nat} (hp : p < 4) (r : Nat) : (s.dropWindow p).phaseOf p r = s.phaseOf p r := by
  rw [State.phaseOf, State.dropWindow, s.modPort_port_self hp, State.phaseOf]

/-- A window with no owner to return to: an echo kind without a target, or whose target's entry is not in the open phase. -/
theorem State.abandonOwner_none {p : Nat} {w : OpenWindow}
    (h : w.kind = .upkeep ∨ w.kind = .reference ∨ (w.kind = .echo ∧ ∀ r, w.target = some r → s.phaseOf p r ≠ some .echoOpen)
      ∨ (w.kind = .verify ∧ ∀ r, w.target = some r → s.phaseOf p r ≠ some .verifyOpen)) : s.abandonOwner p w = s := by
  unfold State.abandonOwner
  split
  case h_1 hk => simp [hk] at h
  case h_2 r hk ht =>
    have hphase : ∀ x, w.target = some x → s.phaseOf p x ≠ some .echoOpen := by simpa [hk] using h
    exact if_neg (hphase r ht)
  case h_3 r hk ht =>
    have hphase : ∀ x, w.target = some x → s.phaseOf p x ≠ some .verifyOpen := by simpa [hk] using h
    exact if_neg (hphase r ht)
  case h_4 hk => simp [hk] at h
  case h_5 => rfl

/-- Settles O19, owner by owner; of an ECHO window's owner the entry and the record both go back. -/
theorem abandonmentReturnsTheOwner : Obligations.AbandonmentReturnsTheOwner := by
  rintro s t gone p w hp hw rfl rfl
  have habandon := s.abandon_some hw
  have hphase := s.dropWindow_phaseOf hp
  have hnone := (s.dropWindow p).abandonOwner_none (p := p) (w := w)
  simp only [hphase] at hnone
  rw [habandon]
  refine ⟨fun hk => ?_, fun hk => ?_, fun hk => ?_, fun r hr hk ht hopen => ?_, fun r hk ht hopen => ?_, fun hk ht => ?_,
    fun r ht hk => ?_⟩
  · simp only [State.abandonOwner, hk]
    rfl
  · simp only [State.abandonOwner, hk]
    rfl
  · exact hnone (hk.elim .inl fun h => .inr (.inl h))
  · have howner : (s.dropWindow p).abandonOwner p w =
        ((s.dropWindow p).setPhase p r .awaitEcho).change r (fun c => { c with state := .named }) := by
      simp [State.abandonOwner, hk, ht, hphase, hopen]
    rw [howner]
    refine ⟨State.change_record_self _ hr _, ?_, ?_, fun n hn => ?_, fun q hq => ?_, rfl⟩
    · rw [State.change_verifies]
      rfl
    · rw [State.change_port, State.setPhase, State.modPort_port_self _ hp, State.dropWindow, s.modPort_port_self hp]
    · rw [State.change_stored_ne _ (by simpa using hn)]
      rfl
    · have hne : q ≠ p := by simpa using hq
      rw [State.change_port, State.setPhase, State.modPort_port_ne _ hne, State.dropWindow, s.modPort_port_ne hne]
  · have howner : (s.dropWindow p).abandonOwner p w = (s.dropWindow p).setPhase p r .awaitVerify := by
      simp [State.abandonOwner, hk, ht, hphase, hopen]
    rw [howner]
    rfl
  · rcases hk with hk | hk
    · exact hnone (.inr (.inr (.inl ⟨hk, by simp [ht]⟩)))
    · exact hnone (.inr (.inr (.inr ⟨hk, by simp [ht]⟩)))
  · have honly : ∀ {ph : Phase}, s.phaseOf p r ≠ some ph → ∀ x, w.target = some x → s.phaseOf p x ≠ some ph := by
      intro ph hne x hx
      rw [ht] at hx
      cases hx
      exact hne
    rcases hk with ⟨hk, hne⟩ | ⟨hk, hne⟩
    · exact hnone (.inr (.inr (.inl ⟨hk, honly hne⟩)))
    · exact hnone (.inr (.inr (.inr ⟨hk, honly hne⟩)))

/-! ### Periods, the due flag and the scrubber (R69, R70, R164) -/

/-- A test of the stored contents finds a record exactly when one of the 480 passes it. -/
theorem State.anyRecord_iff (f : Record → Bool) :
    s.records.toList.any (fun x => f x.content) = true ↔ ∃ n, n < 480 ∧ f (s.record n) = true := by
  have hlist : s.records.toList = (List.range 480).map s.stored := by
    apply List.ext_getElem?
    intro i
    by_cases hi : i < 480 <;> simp [State.stored, hi]
  rw [hlist, List.any_map, List.any_eq_true]
  exact exists_congr fun n => and_congr_left fun _ => List.mem_range

theorem State.hasRanged_iff {p : Nat} :
    s.hasRanged p = true ↔ ∃ n, n < 480 ∧ (s.record n).port = p ∧ (s.record n).state.ranged = true := by
  rw [State.hasRanged, s.anyRecord_iff (fun c => c.port == p && c.state.ranged)]
  simp

theorem State.hasExpected_iff {p : Nat} :
    s.hasExpected p = true ↔ ∃ n, n < 480 ∧ (s.record n).port = p ∧ (s.record n).state = .expected := by
  rw [State.hasExpected, s.anyRecord_iff (fun c => c.port == p && c.state == .expected)]
  simp

/-- The discovery mode invites always, or where a record of the port is EXPECTED, or never (R70). -/
theorem State.modeInvites_iff {p : Nat} :
    s.modeInvites p = true ↔ (s.port p).config.mode = .always
      ∨ ((s.port p).config.mode = .planned
        ∧ ∃ n, n < 480 ∧ (s.record n).port = p ∧ (s.record n).state = .expected) := by
  unfold State.modeInvites
  cases hm : (s.port p).config.mode with
  | off | always => simp
  | planned => simp [s.hasExpected_iff]

theorem State.makeDue_due {p : Nat} (h : s.modeInvites p = true) :
    s.makeDue p = s.modPort p (fun q => { q with due := true }) := if_pos h

theorem State.makeDue_none {p : Nat} (h : s.modeInvites p = false) : s.makeDue p = s := by
  simp [State.makeDue, h]

/-- The owed count and UPKEEP_OVERRUN after a period with a record in service (R69). -/
theorem Port.owe_periodEnd (q : Port) :
    ({ q with periodTimer := 0 } : Port).owe =
      { q with
        periodTimer := 0
        owed := if q.owed < 8 then q.owed + 1 else q.owed
        conditions := { q.conditions with upkeepOverrun := q.conditions.upkeepOverrun || decide (8 ≤ q.owed) } } := by
  unfold Port.owe
  by_cases h : q.owed < 8
  · have h8 : ¬ 8 ≤ q.owed := by omega
    simp [Config.owedLimit, h, h8]
  · have h8 : 8 ≤ q.owed := by omega
    simp [Config.owedLimit, h, h8]

theorem exec_upkeepPeriodEnd {p : Lane} (hh : s.resetHeld = false) (hs : (s.port p.val).state = .run) :
    exec (.upkeepPeriodEnd p) s = .next (s.periodEnd p.val).settle := by
  change execUpkeepPeriodEnd p s = _
  simp [execUpkeepPeriodEnd, hh, hs]

theorem exec_discoveryDue {p : Lane} (hh : s.resetHeld = false) (hs : (s.port p.val).state = .run) :
    exec (.discoveryDue p) s = .next (s.makeDue p.val).settle := by
  change execDiscoveryDue p s = _
  simp [execDiscoveryDue, hh, hs]

theorem exec_scrubVerify (hh : s.resetHeld = false) : exec .scrubVerify s = .next s.scrub.settle := by
  change execScrubVerify s = _
  simp [execScrubVerify, hh]

/-- Settles O53: each row is its operation, and the operation is read by what it finds. -/
theorem periodsFallDue : Obligations.PeriodsFallDue := by
  rintro p s q hh rfl
  refine ⟨fun hs => ⟨fun hranged => ?_, fun hnone => ?_, fun hmode => ?_, fun hmode => ?_⟩, fun hv => ?_, fun hv => ?_⟩
  · have hall : s.hasRanged p.val = true := s.hasRanged_iff.mpr hranged
    simp only [exec_upkeepPeriodEnd s hh hs, State.periodEnd, hall, if_true, Port.owe_periodEnd]
  · have hfalse : s.hasRanged p.val = false := Bool.eq_false_iff.mpr fun h => hnone (s.hasRanged_iff.mp h)
    simp only [exec_upkeepPeriodEnd s hh hs, State.periodEnd, hfalse, Bool.false_eq_true, if_false]
  · rw [exec_discoveryDue s hh hs, s.makeDue_due (s.modeInvites_iff.mpr hmode)]
  · have hfalse : s.modeInvites p.val = false := by
      refine Bool.eq_false_iff.mpr fun h => ?_
      rcases hmode with hoff | ⟨hplanned, hnone⟩
      · simp [State.modeInvites, hoff] at h
      · rw [s.modeInvites_iff, hplanned] at h
        exact hnone (h.resolve_left nofun).2
    rw [exec_discoveryDue s hh hs, s.makeDue_none hfalse]
  · rw [exec_scrubVerify s hh, State.scrub, s.verifyOrDamage_of_verifies hv]
    rfl
  · rw [exec_scrubVerify s hh, State.scrub, s.verifyOrDamage_of_damaged hv]
    rfl

/-! ### Arrival reports (R72 to R74) -/

theorem exec_arrivalReport (p : Lane) (f : ReportFields) (hh : s.resetHeld = false) :
    exec (.arrivalReport p f) s = .next (s.modPort p.val (fun q => q.arrival f)).settle := by
  change execArrivalReport p f s = _
  simp [execArrivalReport, hh]

/-- A report that leaves its port as it is leaves everything as it is. -/
theorem exec_arrivalReport_none {p : Lane} {f : ReportFields} (hh : s.resetHeld = false)
    (h : (s.port p.val).arrival f = s.port p.val) : exec (.arrivalReport p f) s = .next s.settle := by
  rw [exec_arrivalReport s p f hh, s.modPort_id (fun q => q.arrival f) h]

theorem exec_arrivalReport_eq {p : Lane} {f : ReportFields} (hh : s.resetHeld = false) {g : Port → Port}
    (h : (s.port p.val).arrival f = g (s.port p.val)) :
    exec (.arrivalReport p f) s = .next (s.modPort p.val g).settle := by
  rw [exec_arrivalReport s p f hh, s.modPort_congr (f := fun q => q.arrival f) h]

/-- Of a report that is not stale, its kind and the window's decide (R72). -/
theorem Port.arrival_open {q : Port} {w : OpenWindow} {f : ReportFields} (hw : q.window = some w) (ht : w.tag = f.tag.toNat)
    (ho : f.offset.toNat ≤ 312499) :
    q.arrival f = match reportKind f with
      | some k => q.handleReport w f k
      | none => q := by
  unfold Port.arrival
  rw [hw]
  cases reportKind f with
  | none => rfl
  | some k => exact if_pos ⟨ht, ho⟩

theorem Port.arrival_stale {q : Port} {f : ReportFields}
    (h : q.window = none ∨ (∃ w, q.window = some w ∧ w.tag ≠ f.tag.toNat) ∨ 312499 < f.offset.toNat) : q.arrival f = q := by
  unfold Port.arrival
  split
  · next w k hw _ =>
    refine if_neg fun ⟨ht, ho⟩ => ?_
    rcases h with hnone | ⟨w', hw', hne⟩ | hlate
    · rw [hw] at hnone
      cases hnone
    · rw [hw] at hw'
      cases hw'
      exact hne ht
    · exact absurd hlate (Nat.not_lt.mpr ho)
  · rfl

/-- The four kind bytes of a report, and a HELLO without a serial (R186). -/
theorem reportKind_eq (f : ReportFields) :
    reportKind f =
      if f.kind = 1#8 then some (if f.serial = 0 then .garbled else .hello)
      else if f.kind = 2#8 then some .echo
      else if f.kind = 3#8 then some .garbled
      else if f.kind = 4#8 then some .loopback
      else none := by
  have hbyte : ∀ n < 256, f.kind = BitVec.ofNat 8 n ↔ f.kind.toNat = n := fun n hn => by
    rw [← BitVec.toNat_inj, BitVec.toNat_ofNat, Nat.mod_eq_of_lt hn]
  simp only [hbyte 1 (by decide), hbyte 2 (by decide), hbyte 3 (by decide), hbyte 4 (by decide)]
  unfold reportKind
  split
  · next h => simp only [h, if_true]; split <;> rfl
  · next h => simp [h]
  · next h => simp [h]
  · next h => simp [h]
  · next h1 h2 h3 h4 => rw [if_neg h1, if_neg h2, if_neg h3, if_neg h4]

theorem reportKind_echo_iff {f : ReportFields} : reportKind f = some .echo ↔ f.kind = 2#8 := by
  rw [reportKind_eq]
  split_ifs with h1 <;> simp_all

theorem reportKind_loopback_iff {f : ReportFields} : reportKind f = some .loopback ↔ f.kind = 4#8 := by
  rw [reportKind_eq]
  split_ifs <;> simp_all

theorem OpenWindow.capture_first {w : OpenWindow} (h : w.captured = none) (f : ReportFields) :
    w.capture f = { w with captured := some { offset := f.offset.toNat, level := f.level.toNat } } := by
  simp [OpenWindow.capture, h]

theorem OpenWindow.capture_later {w : OpenWindow} (h : w.captured ≠ none) (f : ReportFields) : w.capture f = w := by
  simp [OpenWindow.capture, h]

/-- A window that captures nothing new leaves its port as it is. -/
theorem Port.capture_later {q : Port} {w : OpenWindow} (hw : q.window = some w) (h : w.captured ≠ none) (f : ReportFields) :
    ({ q with window := some (w.capture f) } : Port) = q := by
  rw [OpenWindow.capture_later h, ← hw]

theorem Port.handleReport_loop {q : Port} {w : OpenWindow} {k : ReportKind} (hk : w.kind = .loop) (f : ReportFields) :
    q.handleReport w f k = if k = .loopback then { q with window := some (w.capture f) } else q := by
  unfold Port.handleReport
  rw [hk]
  cases k <;> rfl

/-- An echo-kind window captures the ECHO report of its target's drop id (R74). -/
theorem Port.handleReport_echo {q : Port} {w : OpenWindow} {k : ReportKind} (hi : w.kind ≠ .invite) (hl : w.kind ≠ .loop)
    (f : ReportFields) :
    q.handleReport w f k =
      if k = .echo ∧ w.targetDrop = some f.dropId.toNat then { q with window := some (w.capture f) } else q := by
  unfold Port.handleReport
  cases hw : w.kind with
  | invite => exact absurd hw hi
  | loop => exact absurd hw hl
  | echo | verify | upkeep | reference => cases k <;> simp

theorem Port.handleReport_invite {q : Port} {w : OpenWindow} {k : ReportKind} (hw : w.kind = .invite) (f : ReportFields) :
    q.handleReport w f k = if k = .hello ∨ k = .garbled then q.inviteReport w f k else q := by
  unfold Port.handleReport
  rw [hw]
  cases k <;> rfl

/-- Settles O54: stale reports, then for each window kind what its reports do. -/
theorem reportsGoToTheirWindow : Obligations.ReportsGoToTheirWindow := by
  rintro p f s q hh rfl
  refine ⟨fun hstale => exec_arrivalReport_none s hh (Port.arrival_stale hstale), fun w hw ht ho => ?_⟩
  have hopen := Port.arrival_open hw ht ho
  refine ⟨fun hk hf hx hroom hlev => ?_, fun hk hf hroom => ?_, fun hk hf hfull => ?_, fun hi hl hf hd hc => ?_,
    fun hk hf hc => ?_, fun hquiet => exec_arrivalReport_none s hh ?_⟩
  · refine exec_arrivalReport_eq s hh ?_
    have hlevelable : levelableFlag f.levelable = (f.levelable == 1#8) := by
      rcases hlev with h | h <;> simp [levelableFlag, h]
    have hkind : reportKind f = some .hello := by rw [reportKind_eq, if_pos hf, if_neg hx]
    simp [hopen, hkind, Port.handleReport_invite hk, Port.inviteReport, Config.arrivalLimit, hroom, queuedReport, hlevelable,
      countUp]
  · refine exec_arrivalReport_eq s hh ?_
    have hkind : reportKind f = some .garbled := by
      rcases hf with h | ⟨h, hx⟩
      · simp [reportKind_eq, h]
      · simp [reportKind_eq, h, hx]
    simp [hopen, hkind, Port.handleReport_invite hk, Port.inviteReport, Config.arrivalLimit, hroom, queuedReport, countUp]
  · refine exec_arrivalReport_eq s hh ?_
    have hkind : ∃ k, reportKind f = some k ∧ (k = .hello ∨ k = .garbled) := by
      rw [reportKind_eq]
      rcases hf with h | h
      · rw [if_pos h]
        exact ⟨_, rfl, by split <;> simp⟩
      · simp [h]
    obtain ⟨k, hk', hor⟩ := hkind
    have hnot : ¬ (s.port p.val).arrivals.length < Config.arrivalLimit := Nat.not_lt.mpr hfull
    simp only [hopen, hk', Port.handleReport_invite hk, if_pos hor, Port.inviteReport, if_neg hnot]
  · refine exec_arrivalReport_eq s hh ?_
    simp only [hopen, reportKind_echo_iff.mpr hf, Port.handleReport_echo hi hl, hd, OpenWindow.capture_first hc, and_self,
      if_true]
  · refine exec_arrivalReport_eq s hh ?_
    simp only [hopen, reportKind_loopback_iff.mpr hf, Port.handleReport_loop hk, OpenWindow.capture_first hc, if_true]
  · rw [hopen]
    split
    case h_2 => rfl
    case h_1 k hk =>
      rcases hquiet with ⟨hi, hf⟩ | ⟨hl, hf⟩ | ⟨hi, hl, hf⟩ | ⟨hi, hc⟩
      · rw [Port.handleReport_invite hi, if_neg]
        rcases hf with hf | hf
        · cases (reportKind_echo_iff.mpr hf).symm.trans hk
          nofun
        · cases (reportKind_loopback_iff.mpr hf).symm.trans hk
          nofun
      · rw [Port.handleReport_loop hl, if_neg]
        rintro rfl
        exact hf (reportKind_loopback_iff.mp hk)
      · rw [Port.handleReport_echo hi hl, if_neg]
        rintro ⟨rfl, hd⟩
        exact hf.elim (fun hf => hf (reportKind_echo_iff.mp hk)) fun hne => hne hd
      · by_cases hl : w.kind = .loop
        · rw [Port.handleReport_loop hl, Port.capture_later hw hc, ite_self]
        · rw [Port.handleReport_echo hi hl, Port.capture_later hw hc, ite_self]

end Sys2Proof.Machine
end

section
/-! Which requester stands, and which record an UPKEEP window goes to (R67, R138, R139). -/

namespace Sys2Proof.Machine

variable (s : State)

/-! ### The lowest drop id among some records (R139) -/

theorem State.lowestDrop_none {rs : List Nat} : s.lowestDrop rs = none ↔ rs = [] := by
  cases rs with
  | nil => simp [State.lowestDrop]
  | cons r rs =>
    simp only [State.lowestDrop, reduceCtorEq, iff_false]
    split
    · nofun
    · split <;> nofun

/-- The record chosen is one of the list, and none has a lower drop id. -/
theorem State.lowestDrop_some {rs : List Nat} {r : Nat} (h : s.lowestDrop rs = some r) :
    r ∈ rs ∧ ∀ r' ∈ rs, (s.record r).dropId ≤ (s.record r').dropId := by
  induction rs generalizing r with
  | nil => cases h
  | cons x xs ih =>
    simp only [State.lowestDrop] at h
    split at h
    · next hnone =>
      cases h
      simp [s.lowestDrop_none.mp hnone]
    · next y hy =>
      obtain ⟨hmem, hmin⟩ := ih hy
      split at h
      · next hlt =>
        cases h
        refine ⟨List.mem_cons_of_mem _ hmem, fun r' hr' => ?_⟩
        rcases List.mem_cons.mp hr' with rfl | hr'
        · exact hlt.le
        · exact hmin r' hr'
      · next hle =>
        cases h
        refine ⟨List.mem_cons_self, fun r' hr' => ?_⟩
        rcases List.mem_cons.mp hr' with rfl | hr'
        · exact le_rfl
        · exact (Nat.le_of_not_lt hle).trans (hmin r' hr')

/-! ### Candidates and the upkeep target (R138, R139) -/

theorem Record.eligible_iff {c : Record} : c.eligible = true ↔ c.outstanding = 0 ∧ c.delaySync = .synced := by
  simp [Record.eligible]

theorem State.mem_candidates {p r : Nat} :
    r ∈ s.candidates p ↔
      r < 480 ∧ (s.record r).port = p ∧ (s.record r).state.ranged = true ∧ (s.record r).eligible = true := by
  rw [State.candidates, s.mem_recordsWhere]
  simp [Record.candidate, and_assoc]

theorem State.mem_missedCandidates {p r : Nat} :
    r ∈ s.missedCandidates p ↔ r ∈ s.candidates p ∧ 0 < (s.record r).misses := by
  rw [State.missedCandidates, State.candidates, s.mem_recordsWhere, s.mem_recordsWhere]
  simp [and_assoc]

/-- The candidates beyond the cursor (R139). -/
def State.beyondCursor (s : State) (p : Nat) : List Nat :=
  (s.candidates p).filter (fun r => decide ((s.port p).cursor < (s.record r).dropId))

theorem State.mem_beyondCursor {p r : Nat} :
    r ∈ s.beyondCursor p ↔ r ∈ s.candidates p ∧ (s.port p).cursor < (s.record r).dropId := by
  simp [State.beyondCursor]

/-- The three choices of R139 in their order: a missed record, the next beyond the cursor, the lowest. -/
theorem State.upkeepTarget_some {p r : Nat} (h : s.upkeepTarget p = some r) :
    s.lowestDrop (s.missedCandidates p) = some r
      ∨ (s.missedCandidates p = [] ∧ s.lowestDrop (s.beyondCursor p) = some r)
      ∨ (s.missedCandidates p = [] ∧ s.beyondCursor p = [] ∧ s.lowestDrop (s.candidates p) = some r) := by
  unfold State.upkeepTarget at h
  split at h
  · next hm =>
    cases h
    exact .inl hm
  · next hm =>
    have hmissed := s.lowestDrop_none.mp hm
    split at h
    · next hb =>
      cases h
      exact .inr (.inl ⟨hmissed, hb⟩)
    · next hb => exact .inr (.inr ⟨hmissed, s.lowestDrop_none.mp hb, h⟩)

theorem State.upkeepTarget_none {p : Nat} : s.upkeepTarget p = none ↔ s.candidates p = [] := by
  constructor
  · intro h
    unfold State.upkeepTarget at h
    split at h
    · cases h
    · split at h
      · cases h
      · exact s.lowestDrop_none.mp h
  · intro h
    have hmissed : s.missedCandidates p = [] := List.eq_nil_iff_forall_not_mem.mpr fun r hr => by
      have hmem := (s.mem_missedCandidates.mp hr).1
      rw [h] at hmem
      cases hmem
    simp [State.upkeepTarget, hmissed, h, State.lowestDrop]

theorem State.upkeepTarget_mem {p r : Nat} (h : s.upkeepTarget p = some r) : r ∈ s.candidates p := by
  rcases s.upkeepTarget_some h with h | ⟨-, h⟩ | ⟨-, -, h⟩
  · exact (s.mem_missedCandidates.mp (s.lowestDrop_some h).1).1
  · exact (s.mem_beyondCursor.mp (s.lowestDrop_some h).1).1
  · exact (s.lowestDrop_some h).1

/-- Where a candidate has missed, the target is the missed one of lowest drop id. -/
theorem State.upkeepTarget_missed {p r r' : Nat} (h : s.upkeepTarget p = some r) (hr' : r' ∈ s.missedCandidates p) :
    s.lowestDrop (s.missedCandidates p) = some r := by
  rcases s.upkeepTarget_some h with h | ⟨hnone, -⟩ | ⟨hnone, -⟩
  · exact h
  · rw [hnone] at hr'
    cases hr'
  · rw [hnone] at hr'
    cases hr'

theorem State.upkeepTarget_beyond {p r r' : Nat} (h : s.upkeepTarget p = some r) (hm : s.missedCandidates p = [])
    (hr' : r' ∈ s.beyondCursor p) : s.lowestDrop (s.beyondCursor p) = some r := by
  rcases s.upkeepTarget_some h with h | ⟨-, h⟩ | ⟨-, hnone, -⟩
  · rw [hm] at h
    cases h
  · exact h
  · rw [hnone] at hr'
    cases hr'

theorem State.upkeepTarget_lowest {p r : Nat} (h : s.upkeepTarget p = some r) (hm : s.missedCandidates p = [])
    (hb : s.beyondCursor p = []) : s.lowestDrop (s.candidates p) = some r := by
  rcases s.upkeepTarget_some h with h | ⟨-, h⟩ | ⟨-, -, h⟩
  · rw [hm] at h
    cases h
  · rw [hb] at h
    cases h
  · exact h

/-! ### The requesters of RUN (R67) -/

theorem State.fullUpkeepRequest_some {p r : Nat} (ho : (s.port p).owed = 8) (h : s.upkeepTarget p = some r) :
    s.fullUpkeepRequest p = some { kind := .upkeep, target := some r } := by
  simp [State.fullUpkeepRequest, Config.owedLimit, ho, h, upkeepRequest]

theorem State.fullUpkeepRequest_none {p : Nat} (h : (s.port p).owed ≠ 8 ∨ s.candidates p = []) :
    s.fullUpkeepRequest p = none := by
  rcases h with h | h
  · exact if_neg h
  · simp [State.fullUpkeepRequest, s.upkeepTarget_none.mpr h, upkeepRequest]

/-- The entry awaits a window and its record is eligible (R67). -/
def State.awaits (s : State) (e : ActivationEntry) : Bool :=
  (e.phase == .awaitEcho || e.phase == .awaitVerify) && (s.record e.record).eligible

theorem State.activationRequest_some {p : Nat} {before after : List ActivationEntry} {e : ActivationEntry}
    (hq : (s.port p).activation = before ++ e :: after) (hbefore : ∀ x ∈ before, s.awaits x = false)
    (he : s.awaits e = true) :
    s.activationRequest p =
      some { kind := if e.phase = .awaitEcho then .echo else .verify, target := some e.record } := by
  have hfind : (s.port p).activation.find? s.awaits = some e :=
    List.find?_eq_some_iff_append.mpr ⟨he, before, after, hq, fun x hx => by simp [hbefore x hx]⟩
  exact congrArg (Option.map _) hfind

theorem State.activationRequest_none {p : Nat} (h : ∀ e ∈ (s.port p).activation, s.awaits e = false) :
    s.activationRequest p = none := by
  have hfind : (s.port p).activation.find? s.awaits = none :=
    List.find?_eq_none.mpr fun e he => by simp [h e he]
  exact congrArg (Option.map _) hfind

theorem State.missedUpkeepRequest_some {p r : Nat} (ho : 1 ≤ (s.port p).owed)
    (h : s.lowestDrop (s.missedCandidates p) = some r) :
    s.missedUpkeepRequest p = some { kind := .upkeep, target := some r } := by
  simp [State.missedUpkeepRequest, Nat.one_le_iff_ne_zero.mp ho, h, upkeepRequest]

theorem State.missedUpkeepRequest_none {p : Nat} (h : (s.port p).owed = 0 ∨ s.missedCandidates p = []) :
    s.missedUpkeepRequest p = none := by
  rcases h with h | h <;> simp [State.missedUpkeepRequest, h, State.lowestDrop, upkeepRequest]

theorem State.routineUpkeepRequest_some {p r : Nat} (ho : 1 ≤ (s.port p).owed) (h : s.upkeepTarget p = some r) :
    s.routineUpkeepRequest p = some { kind := .upkeep, target := some r } := by
  simp [State.routineUpkeepRequest, Nat.one_le_iff_ne_zero.mp ho, h, upkeepRequest]

theorem State.routineUpkeepRequest_none {p : Nat} (h : (s.port p).owed = 0 ∨ s.candidates p = []) :
    s.routineUpkeepRequest p = none := by
  rcases h with h | h
  · simp [State.routineUpkeepRequest, h]
  · simp [State.routineUpkeepRequest, s.upkeepTarget_none.mpr h, upkeepRequest]

/-- The requester after those that do not stand (R67). -/
theorem State.runRequest_eq (p : Nat) :
    s.runRequest p = (s.fullUpkeepRequest p).or ((s.activationRequest p).or ((s.missedUpkeepRequest p).or
      ((s.inviteRequest p).or (s.routineUpkeepRequest p)))) := by
  simp [State.runRequest, Option.or_assoc]

/-- Settles O46: the target by its three choices, and the requesters one after another. -/
theorem requestersStandInOrder : Obligations.RequestersStandInOrder := by
  rintro s p q able fit missed awaits rfl rfl hfit hmissed hawaits
  have fit_iff : ∀ r, fit r ↔ r ∈ s.candidates p := fun r => by
    rw [hfit, s.mem_candidates, Record.eligible_iff]
  have missed_iff : ∀ r, missed r ↔ r ∈ s.missedCandidates p := fun r => by
    rw [hmissed, s.mem_missedCandidates, ← fit_iff]
  have awaits_iff : ∀ e, awaits e ↔ s.awaits e = true := fun e => by
    simp [hawaits, State.awaits, Record.eligible_iff]
  have none_fit : (∀ r, ¬ fit r) ↔ s.candidates p = [] := by
    simp only [fit_iff, List.eq_nil_iff_forall_not_mem]
  have none_missed : (¬ ∃ r', missed r') ↔ s.missedCandidates p = [] := by
    simp only [missed_iff, List.eq_nil_iff_forall_not_mem, not_exists]
  have beyond_iff : ∀ r, (fit r ∧ (s.port p).cursor < (s.record r).dropId) ↔ r ∈ s.beyondCursor p := fun r => by
    rw [fit_iff, s.mem_beyondCursor]
  refine ⟨s.upkeepTarget_none.trans none_fit.symm, fun r hr => ⟨(fit_iff r).mpr (s.upkeepTarget_mem hr), ?_, ?_, ?_⟩,
    fun r ho hr => ?_, fun hfull => ⟨?_, fun hact => ⟨?_, fun hmiss => ⟨fun hdue => ?_, fun hdue => ⟨?_, fun hidle => ?_⟩⟩⟩⟩⟩
  · rintro ⟨r', hr'⟩
    obtain ⟨hmem, hmin⟩ := s.lowestDrop_some (s.upkeepTarget_missed hr ((missed_iff r').mp hr'))
    exact ⟨(missed_iff r).mpr hmem, fun x hx => hmin x ((missed_iff x).mp hx)⟩
  · rintro hm ⟨r', hr'⟩
    obtain ⟨hmem, hmin⟩ := s.lowestDrop_some (s.upkeepTarget_beyond hr (none_missed.mp hm) ((beyond_iff r').mp hr'))
    exact ⟨((beyond_iff r).mpr hmem).2, fun x hx hlt => hmin x ((beyond_iff x).mp ⟨hx, hlt⟩)⟩
  · intro hm hb r' hr'
    have hnone : s.beyondCursor p = [] := List.eq_nil_iff_forall_not_mem.mpr fun x hx => hb ⟨x, (beyond_iff x).mpr hx⟩
    exact (s.lowestDrop_some (s.upkeepTarget_lowest hr (none_missed.mp hm) hnone)).2 r' ((fit_iff r').mp hr')
  · rw [s.runRequest_eq, s.fullUpkeepRequest_some ho hr, Option.some_or]
  · intro before e after hq hbefore he
    rw [s.runRequest_eq, s.fullUpkeepRequest_none (hfull.imp_right none_fit.mp),
      s.activationRequest_some hq (fun x hx => by simpa [awaits_iff] using hbefore x hx) ((awaits_iff e).mp he)]
    rfl
  all_goals
    rw [s.runRequest_eq, s.fullUpkeepRequest_none (hfull.imp_right none_fit.mp),
      s.activationRequest_none (fun e he => by simpa [awaits_iff] using hact e he), Option.none_or, Option.none_or]
  · rintro r ho ⟨r', hr'⟩ hr
    rw [s.missedUpkeepRequest_some ho (s.upkeepTarget_missed hr ((missed_iff r').mp hr')), Option.some_or]
  all_goals rw [s.missedUpkeepRequest_none (hmiss.imp_right none_missed.mp), Option.none_or, State.inviteRequest]
  · rw [if_pos hdue, Option.some_or]
  all_goals rw [hdue, if_neg Bool.false_ne_true, Option.none_or]
  · intro r ho hr
    exact s.routineUpkeepRequest_some ho hr
  · exact s.routineUpkeepRequest_none (hidle.imp_right none_fit.mp)

end Sys2Proof.Machine
end

section
/-! Message takes and the SET DELAYs that fill the freed places (R76, R78, R79, R186). -/

namespace Sys2Proof.Machine

variable (s : State)

/-! ### SET DELAYs where some are queued already (R79; log entry 28) -/

/-- Serving one record leaves what is queued for another. -/
theorem State.queueSetDelay_setDelayQueued {p r n : Nat} (hp : p < 4) (hn : n ≠ r) :
    (s.queueSetDelay p r).setDelayQueued allPorts n = s.setDelayQueued allPorts n := by
  by_cases h : (s.port p).outbound.length < 64 ∧ s.setDelayQueued allPorts r = false
  · have hserve : s.queueSetDelay p r = s.serve p r := s.queueSetDelay_room h.1 h.2
    rw [hserve, State.setDelayQueued, State.setDelayQueued]
    refine congrArg (List.any allPorts) (funext fun q => ?_)
    by_cases hq : q = p
    · subst hq
      simp [s.serve_port_self hp, Descriptor.isSetDelayOf, Ne.symm hn]
    · rw [s.serve_port_ne hq]
  · rw [s.queueSetDelay_none (by simpa [or_iff_not_imp_left] using h)]

/-- Records that a SET DELAY names already are passed over. -/
theorem State.queueSetDelays_filter {p : Nat} (hp : p < 4) {ns : List Nat} (hns : ns.Nodup) :
    eachNumber (fun s r => s.queueSetDelay p r) ns s =
      eachNumber (fun s r => s.queueSetDelay p r) (ns.filter (fun n => !s.setDelayQueued allPorts n)) s := by
  induction ns generalizing s with
  | nil => rfl
  | cons r ns ih =>
    obtain ⟨hr, hns⟩ := List.nodup_cons.mp hns
    cases hq : s.setDelayQueued allPorts r with
    | true =>
      rw [eachNumber_cons, s.queueSetDelay_none (.inr hq), List.filter_cons_of_neg (by simp [hq])]
      exact ih s hns
    | false =>
      rw [eachNumber_cons, List.filter_cons_of_pos (by simp [hq]), eachNumber_cons, ih _ hns]
      congr 1
      refine List.filter_congr fun n hn => ?_
      rw [s.queueSetDelay_setDelayQueued hp (ne_of_mem_of_not_mem hn hr)]

/-- The WAITING records of a port for which no SET DELAY is queued (R79). -/
def State.unserved (s : State) (p : Nat) : List Nat := (s.waiting p).filter (fun n => !s.setDelayQueued allPorts n)

theorem State.unserved_eq (p : Nat) :
    s.unserved p = (List.range 480).filter (fun n =>
      (s.record n).port == p && (s.record n).delaySync == .waiting && !s.setDelayQueued allPorts n) := by
  rw [State.unserved, State.waiting, s.recordsWhere_eq, List.filter_filter]
  exact List.filter_congr fun n _ => Bool.and_comm _ _

theorem State.fillSetDelay_unserved {p : Nat} (hp : p < 4) :
    s.Served p ((s.unserved p).take (64 - (s.port p).outbound.length)) (s.fillSetDelay p) := by
  have hmem : ∀ r ∈ s.unserved p, r ∈ s.waiting p ∧ s.setDelayQueued allPorts r = false := fun r hr => by
    simpa [State.unserved] using hr
  rw [State.fillSetDelay, s.queueSetDelays_filter hp (s.waiting_nodup p)]
  exact s.queueSetDelays hp ((s.waiting_nodup p).filter _) (fun r hr => (s.mem_waiting.mp (hmem r hr).1).1)
    fun r hr => (hmem r hr).2

/-! ### Records that are not served -/

/-- Serving one record stores no other one anew, and its own one only as QUEUED. -/
theorem State.queueSetDelay_stored (p r n : Nat) :
    (s.queueSetDelay p r).stored n = s.stored n ∨ (r = n ∧ ((s.queueSetDelay p r).record n).delaySync = .queued) := by
  by_cases h : (s.port p).outbound.length < 64 ∧ s.setDelayQueued allPorts r = false
  · rw [s.queueSetDelay_room h.1 h.2]
    by_cases hn : n = r
    · subst hn
      by_cases hlt : n < 480
      · exact .inr ⟨rfl, by rw [State.modRecord_record_self _ hlt]⟩
      · exact .inl ((State.stored_of_le _ (Nat.le_of_not_lt hlt)).trans (s.stored_of_le (Nat.le_of_not_lt hlt)).symm)
    · left
      rw [State.modRecord_stored_ne _ hn, s.push_names rfl, State.modRecord_stored_ne _ hn]
      rfl
  · exact .inl (by rw [s.queueSetDelay_none (by simpa [or_iff_not_imp_left] using h)])

/-- A record whose content a fill leaves is stored as before, check word and all. -/
theorem State.fillSetDelay_stored {p n : Nat} (h : (s.fillSetDelay p).record n = s.record n) :
    (s.fillSetDelay p).stored n = s.stored n := by
  by_cases hw : n ∈ s.waiting p
  · have hkept : (s.fillSetDelay p).stored n = s.stored n ∨ ((s.fillSetDelay p).record n).delaySync = .queued := by
      refine eachNumber_keeps (P := fun t => t.stored n = s.stored n ∨ (t.record n).delaySync = .queued)
        (fun t r _ ht => ?_) (.inl rfl)
      rcases t.queueSetDelay_stored p r n with hsame | ⟨-, hqueued⟩
      · rwa [State.record, hsame]
      · exact .inr hqueued
    refine hkept.resolve_right fun hqueued => ?_
    rw [h, (s.mem_waiting.mp hw).2.2] at hqueued
    cases hqueued
  · refine eachNumber_keeps (P := fun t => t.stored n = s.stored n) (fun t r hr ht => ?_) rfl
    rcases t.queueSetDelay_stored p r n with hsame | ⟨rfl, -⟩
    · exact hsame.trans ht
    · exact absurd hr hw

/-- What a fill of port `p` leaves: the unserved records that find room are QUEUED, and nothing else but the attention output differs
(R79). -/
def State.Fills (p : Nat) (u t : State) : Prop :=
  ∀ waits served,
    waits = (List.range 480).filter (fun n =>
      (u.record n).port == p && (u.record n).delaySync == .waiting && !u.setDelayQueued allPorts n) →
    served = waits.take (64 - (u.port p).outbound.length) →
    t.port p = { u.port p with outbound := (u.port p).outbound ++ served.map Descriptor.setDelay }
      ∧ (∀ n ∈ served,
          t.record n = { u.record n with delaySync := .queued, outstanding := (u.record n).outstanding + 1 }
            ∧ t.verifies n = u.verifies n)
      ∧ u.recordsKept t served ∧ u.portsKept t [p]
      ∧ t = { u with records := t.records, ports := t.ports, attention := t.attention }

theorem State.fillSetDelay_fills {p : Nat} (hp : p < 4) : State.Fills p s (s.fillSetDelay p).settle := by
  rintro waits served hwaits hserved
  have hs := s.fillSetDelay_unserved hp
  rw [s.unserved_eq, ← hwaits, ← hserved] at hs
  refine ⟨hs.port_self, fun n hn => ⟨?_, hs.verifies n⟩, fun n hn => ?_, fun q hq => hs.port_ne q (by simpa using hq), ?_⟩
  · rw [State.settle_record, hs.record, if_pos hn, Record.served]
  · exact s.fillSetDelay_stored (by rw [hs.record, if_neg hn])
  · have hsame := hs.same.eq_of_changed hs.changed
    exact congrArg (fun t : State => { t with attention := (s.fillSetDelay p).attentionDue }) hsame

/-! ### The rows -/

theorem exec_messageTake (p : Lane) (hh : s.resetHeld = false) :
    exec (.messageTake p) s = .next (s.take p.val).settle := by
  change execMessageTake p s = _
  simp [execMessageTake, hh]

theorem exec_setDelayQueue (p : Lane) (hh : s.resetHeld = false) :
    exec (.setDelayQueue p) s = .next (s.fillSetDelay p.val).settle := by
  change execSetDelayQueue p s = _
  simp [execSetDelayQueue, hh]

/-- A take of a head descriptor hands it over and lets the WAITING records fill the place (R78, R79). -/
theorem exec_messageTake_head {p : Lane} {d : Descriptor} {ds : List Descriptor} {u : State} (hh : s.resetHeld = false)
    (hq : (s.port p.val).outbound = d :: ds)
    (hu : (s.modPort p.val (fun q => { q with outbound := ds })).handOver p.val d = u) :
    ∃ t, exec (.messageTake p) s = .next t ∧ State.Fills p.val u t := by
  refine ⟨(u.fillSetDelay p.val).settle, ?_, u.fillSetDelay_fills p.isLt⟩
  simp only [exec_messageTake s p hh, State.take, hq, hu]

/-! ### What a take answers (R78, R186) -/

theorem Record.taken_eq {d : Descriptor} {r : Nat} (h : d.names = some r) (c : Record) :
    c.taken d = { c with
      outstanding := c.outstanding - 1
      delaySync := if d = .setDelay r then .synced else c.delaySync } := by
  cases d <;> simp_all [Descriptor.names, Record.taken]

/-- The hand-over of a descriptor whose record verifies (R78). -/
theorem State.handOver_verified {p r : Nat} {d : Descriptor} {ds : List Descriptor} (hd : d.names = some r)
    (hv : s.verifies r = true) :
    (s.modPort p (fun q => { q with outbound := ds })).handOver p d =
      (s.modPort p (fun q => { q with outbound := ds, takeAnswer := filled p d (s.record r) })).freshRecord r
        { s.record r with
          outstanding := (s.record r).outstanding - 1
          delaySync := if d = .setDelay r then .synced else (s.record r).delaySync } := by
  have hv' : (s.modPort p (fun q => { q with outbound := ds })).verifies r = true := hv
  have hhand : (s.modPort p (fun q => { q with outbound := ds })).handOver p d =
      ((s.modPort p (fun q => { q with outbound := ds })).modRecord r (fun c => c.taken d)).answerTake p
        (filled p d (s.record r)) := by
    simp [State.handOver, hd, hv]
  rw [hhand, State.modRecord_of_verifies _ hv', State.modPort_record, Record.taken_eq hd,
    ← s.modPort_modPort p (fun q => { q with outbound := ds }) (fun q => { q with takeAnswer := filled p d (s.record r) })]
  rfl

theorem beBytes_one (n : Nat) : beBytes 1 n = [BitVec.ofNat 8 n] := by
  simp [beBytes]

/-- The lane's layout of an answer (R186). -/
theorem TakeAnswer.bytes_eq (a : TakeAnswer) :
    a.bytes =
      [BitVec.ofNat 8 ([TakeKind.empty, .name, .setDelay, .level, .openDrop, .shut, .release, .void].idxOf a.kind),
          BitVec.ofNat 8 a.dropId]
        ++ (List.range 8).map (fun i => BitVec.ofNat 8 (a.serial.toNat / 256 ^ (7 - i)))
        ++ [BitVec.ofNat 8 a.levelIndex, BitVec.ofNat 8 (a.delay / 65536), BitVec.ofNat 8 (a.delay / 256),
          BitVec.ofNat 8 a.delay] := by
  have hcode : a.kind.code =
      BitVec.ofNat 8 ([TakeKind.empty, .name, .setDelay, .level, .openDrop, .shut, .release, .void].idxOf a.kind) := by
    cases a.kind <;> rfl
  have hserial : ∀ n, beBytes 8 n = (List.range 8).map (fun i => BitVec.ofNat 8 (n / 256 ^ (7 - i))) := fun n => rfl
  have hdelay : ∀ n, beBytes 3 n = [BitVec.ofNat 8 (n / 65536), BitVec.ofNat 8 (n / 256), BitVec.ofNat 8 n] := fun n => by
    simp [beBytes]
  simp only [TakeAnswer.bytes, hcode, beBytes_one, hserial, hdelay, List.append_assoc, List.cons_append, List.nil_append]

/-- Settles O56: the layout, the fill, and the take of each kind of head descriptor. -/
theorem messagesAreTaken : Obligations.MessagesAreTaken := by
  rintro p s q fills hh rfl hfills
  obtain rfl : fills = State.Fills p.val := hfills
  refine ⟨TakeAnswer.bytes_eq, ⟨_, exec_setDelayQueue s p hh, s.fillSetDelay_fills p.isLt⟩, fun hq => ?_,
    fun r d ds hq hd hv => exec_messageTake_head s hh hq ?_, fun x d ds hq => exec_messageTake_head s hh hq ?_,
    fun r d ds c a hq hd hr hv hc ha => exec_messageTake_head s hh hq ?_⟩
  · simp only [exec_messageTake s p hh, State.take, hq]
    rfl
  · have hv' : (s.modPort p.val (fun q => { q with outbound := ds })).verifies r = false := hv
    simp only [State.handOver, hd, hv', Bool.false_eq_true, if_false]
    rfl
  · simp only [State.handOver, Descriptor.names, State.answerTake, State.modPort_modPort, filled]
    simp [TakeAnswer.ofKind]
  · subst hc
    have hanswer : filled p.val d (s.record r) = a := by
      rcases ha with ⟨hport, rfl⟩ | ⟨hport, rfl, rfl⟩ | ⟨hport, rfl, rfl⟩ | ⟨hport, rfl, rfl⟩ | ⟨hport, rfl, rfl⟩ |
        ⟨hport, rfl, rfl⟩
      · simp [filled, hport]
      all_goals simp only [filled, hport, ne_eq, not_true_eq_false, if_false]
      all_goals rfl
    rw [s.handOver_verified hd hv, hanswer]

end Sys2Proof.Machine
end

section
/-! Grants of windows (R63, R68, R84, R139, R154, R159). -/

namespace Sys2Proof.Machine

variable (s : State)

theorem exec_windowGrant (p : Lane) (hh : s.resetHeld = false) :
    exec (.windowGrant p) s = .next (s.grantStep p.val).settle := by
  change execWindowGrant p s = _
  simp [execWindowGrant, hh]

/-! ### The arbiter and its fuel (log entry 31) -/

/-- The records that do not verify. -/
def State.unverified : Finset Nat := (Finset.range 480).filter (fun n => s.verifies n = false)

theorem State.unverified_damage {r : Nat} (h : s.verifies r = false) : (s.damage r).unverified = s.unverified.erase r := by
  ext n
  simp only [State.unverified, Finset.mem_filter, Finset.mem_erase, Finset.mem_range]
  by_cases hn : n = r
  · subst hn
    simp [s.damage_verifies_self (s.lt_of_verifies_false h)]
  · simp [s.damage_verifies_ne hn, hn]

/-- Each damage handled at a grant leaves one unverified record fewer. -/
theorem State.unverified_damage_card {r : Nat} (h : s.verifies r = false) :
    (s.damage r).unverified.card < s.unverified.card := by
  rw [s.unverified_damage h]
  exact Finset.card_erase_lt_of_mem (by simpa [State.unverified, h] using s.lt_of_verifies_false h)

theorem State.grantRun_damaged {p fuel r : Nat} {q : Requester} (h : s.runRequest p = some q) (hr : q.target = some r)
    (hv : s.verifies r = false) : State.grantRun (fuel + 1) s p = State.grantRun fuel (s.damage r) p := by
  simp [State.grantRun, h, hr, hv]

/-- Fuel above the number of unverified records is enough: more changes nothing. -/
theorem State.grantRun_fuel {p fuel : Nat} (h : s.unverified.card < fuel) :
    State.grantRun (fuel + 1) s p = State.grantRun fuel s p := by
  induction fuel generalizing s with
  | zero => cases h
  | succ fuel ih =>
    cases hq : s.runRequest p with
    | none => rw [s.grantRun_none hq, s.grantRun_none hq]
    | some q =>
      by_cases hv : ∀ r, q.target = some r → s.verifies r = true
      · rw [s.grantRun_some hq hv, s.grantRun_some hq hv]
      · push Not at hv
        obtain ⟨r, hr, hv⟩ := hv
        have hv : s.verifies r = false := Bool.eq_false_iff.mpr hv
        rw [s.grantRun_damaged hq hr hv, s.grantRun_damaged hq hr hv]
        exact ih _ ((s.unverified_damage_card hv).trans_le (Nat.le_of_lt_succ h))

/-- In RUN the requesters are considered again over what the handling of a damaged candidate left (R68; log entry 31). -/
theorem State.grantRun_again {p r : Nat} {q : Requester} (h : s.runRequest p = some q) (hr : q.target = some r)
    (hv : s.verifies r = false) : State.grantRun 481 s p = State.grantRun 481 (s.damage r) p := by
  have hall : s.unverified.card ≤ 480 := (Finset.card_filter_le _ _).trans_eq (Finset.card_range 480)
  rw [s.grantRun_damaged h hr hv, State.grantRun_fuel _ ((s.unverified_damage_card hv).trans_le hall)]

/-- Damage handling leaves a port in RUN without a window as the arbiter reads it. -/
theorem State.damage_idle {p : Nat} (hp : p < 4) (hw : (s.port p).window = none) (hs : (s.port p).state = .run) (r : Nat) :
    ((s.damage r).port p).window = none ∧ ((s.damage r).port p).state = .run
      ∧ ((s.damage r).port p).gapCounter = (s.port p).gapCounter ∧ ((s.damage r).port p).config = (s.port p).config := by
  have hdetach := s.detach_port hp r
  have hwindow : ((s.detach r).port p).window = none := by rw [hdetach]; simp [hw]
  have hstate : ((s.detach r).port p).state = .run := by rw [hdetach]; exact hs
  have hgap : ((s.detach r).port p).gapCounter = (s.port p).gapCounter := by rw [hdetach]; rfl
  have hconfig : ((s.detach r).port p).config = (s.port p).config := by rw [hdetach]; rfl
  rw [s.damage_port hp]
  split
  · simp [Port.changeoverFailed, hwindow, hgap, hconfig]
  · exact ⟨hwindow, hstate, hgap, hconfig⟩

/-! ### Where a grant is considered (R64, R68) -/

theorem State.grantStep_idle {p : Nat} (h : (s.port p).window ≠ none ∨ (s.port p).gapCounter < (s.port p).config.gap
    ∨ (s.port p).state = .down ∨ (s.port p).state = .standby) : s.grantStep p = s := by
  unfold State.grantStep
  split
  · next hstep =>
    rw [Option.isNone_iff_eq_none] at hstep
    rcases h with h | h | h | h
    · exact absurd hstep.1 h
    · exact absurd hstep.2 (Nat.not_le.mpr h)
    · rw [State.considerGrant, h]
    · rw [State.considerGrant, h]
  · rfl

section
variable {s} {p : Nat} (hw : (s.port p).window = none) (hg : (s.port p).config.gap ≤ (s.port p).gapCounter)
include hw hg

theorem State.grantStep_ready : s.grantStep p = s.considerGrant p := if_pos ⟨by rw [hw]; rfl, hg⟩

theorem State.grantStep_run (hs : (s.port p).state = .run) : s.grantStep p = State.grantRun 481 s p := by
  rw [State.grantStep_ready hw hg, State.considerGrant, hs]
  rfl

theorem State.grantStep_calibrating (hs : (s.port p).state = .calibrating) :
    s.grantStep p = s.grant p { kind := .loop, target := none } := by
  rw [State.grantStep_ready hw hg, State.considerGrant, hs]

theorem State.grantStep_changeover (hs : (s.port p).state = .changeover) : s.grantStep p = s.grantReference p := by
  rw [State.grantStep_ready hw hg, State.considerGrant, hs]

end

/-! ### REFERENCE windows (R154) -/

theorem State.referenceRequest_some {p r : Nat} (hr : (s.port p).changeover.reference = some r)
    (hw : (s.port p).changeover.windows < 3) (hc : (s.record r).eligible = true) :
    s.referenceRequest p = some { kind := .reference, target := some r } := by
  simp [State.referenceRequest, hr, hw, hc]

theorem State.referenceRequest_none {p r : Nat} (hr : (s.port p).changeover.reference = some r)
    (h : ¬ ((s.port p).changeover.windows < 3 ∧ (s.record r).eligible = true)) : s.referenceRequest p = none := by
  simp [State.referenceRequest, hr, h]

/-! ### The grant shown on the lane (R186) -/

theorem State.grantShown_eq (p : Nat) :
    s.grantShown p =
      match (s.port p).window with
      | none => [0#8, 0#8, 0#8, 0#8]
      | some w =>
        [match w.kind with
          | .invite => 1#8
          | .echo => 2#8
          | .verify => 3#8
          | .upkeep => 4#8
          | .reference => 5#8
          | .loop => 6#8,
          BitVec.ofNat 8 w.tag,
          match w.kind with
          | .invite => 127#8
          | .loop => 0#8
          | .echo | .verify | .upkeep | .reference => BitVec.ofNat 8 (w.targetDrop.getD 0),
          if w.kind = .invite then BitVec.ofNat 8 w.spread else 0#8] := by
  unfold State.grantShown
  cases (s.port p).window with
  | none => rfl
  | some w =>
    cases hk : w.kind <;> simp [beBytes_one, OpenWindow.grantDrop, hk, WindowKind.code, Config.broadcastId]

/-! ### Grants by their kind (R63, R68, R84, R139, R154) -/

theorem State.grant_invite (p : Nat) :
    s.grant p { kind := .invite, target := none } = s.modPort p (fun q =>
      { q with
        tagCounter := (q.tagCounter + 1) % 16
        window := some (s.openWindow p { kind := .invite, target := none })
        due := false
        heard := if q.arrivals = [] ∧ q.processing = none then [] else q.heard
        heardTag := if q.arrivals = [] ∧ q.processing = none then some (((s.port p).tagCounter + 1) % 16)
          else q.heardTag }) := by
  rw [State.grant]
  dsimp only [State.grantEffect, State.openWindow]
  simp only [Port.inviteGranted_eq, State.modPort_modPort]
  rfl

theorem State.grant_verify (p r : Nat) :
    s.grant p { kind := .verify, target := some r } = s.modPort p (fun q =>
      { q with
        tagCounter := (q.tagCounter + 1) % 16
        window := some (s.openWindow p { kind := .verify, target := some r })
        activation := q.activation.map (fun e => if e.record = r then { e with phase := .verifyOpen } else e) }) :=
  s.modPort_modPort p (fun q => q.granted (s.openWindow p { kind := .verify, target := some r }))
    (fun q => { q with activation := q.activation.map (fun e => if e.record = r then { e with phase := .verifyOpen } else e) })

theorem State.grant_upkeep (p r : Nat) :
    s.grant p { kind := .upkeep, target := some r } = s.modPort p (fun q =>
      { q with
        tagCounter := (q.tagCounter + 1) % 16
        window := some (s.openWindow p { kind := .upkeep, target := some r })
        owed := q.owed - 1
        cursor := (s.record r).dropId }) :=
  s.modPort_modPort p (fun q => q.granted (s.openWindow p { kind := .upkeep, target := some r }))
    (fun q => { q with owed := q.owed - 1, cursor := (s.record r).dropId })

theorem State.grant_reference (p r : Nat) :
    s.grant p { kind := .reference, target := some r } = s.modPort p (fun q =>
      { q with
        tagCounter := (q.tagCounter + 1) % 16
        window := some (s.openWindow p { kind := .reference, target := some r })
        changeover := { q.changeover with windows := q.changeover.windows + 1 } }) :=
  s.modPort_modPort p (fun q => q.granted (s.openWindow p { kind := .reference, target := some r }))
    (fun q => { q with changeover := { q.changeover with windows := q.changeover.windows + 1 } })

/-- An ECHO grant also sets its target, which verifies, to RANGING (R118). -/
theorem State.grant_echo (p : Nat) {r : Nat} (hv : s.verifies r = true) :
    s.grant p { kind := .echo, target := some r } = ((s.modPort p (fun q =>
      { q with
        tagCounter := (q.tagCounter + 1) % 16
        window := some (s.openWindow p { kind := .echo, target := some r })
        activation := q.activation.map (fun e => if e.record = r then { e with phase := .echoOpen } else e) })).freshRecord r
          { s.record r with state := .ranging }).noteChanged r := by
  have h := s.modPort_modPort p (fun q => q.granted (s.openWindow p { kind := .echo, target := some r }))
    (fun q => { q with activation := q.activation.map (fun e => if e.record = r then { e with phase := .echoOpen } else e) })
  refine (congrArg (fun t : State => t.change r (fun c => { c with state := .ranging })) h).trans ?_
  exact (s.modPort p _).change_of_verifies hv _

/-- Settles O45: the grant considered by the row is read by the port state and the request that stands. -/
theorem grantsOpenWindows : Obligations.GrantsOpenWindows := by
  rintro p s q opened hh rfl rfl
  rw [exec_windowGrant s p hh]
  refine ⟨fun u => u.grantShown_eq p.val, fun hidle => by rw [s.grantStep_idle hidle], fun hw hg => ⟨fun hs => ?_,
    fun r hs hr => ⟨fun hwindows hout hsync hv => ?_, fun hwindows hout hsync hv => ?_, fun hno => ?_⟩,
    fun hs => ⟨fun hreq => ?_, fun hreq => ?_, fun kind r hreq hv => ?_, fun r hreq hv => ?_, fun r hreq hv => ?_,
      fun r hreq hv => ?_⟩⟩⟩
  · rw [State.grantStep_calibrating hw hg hs]
    rfl
  · rw [State.grantStep_changeover hw hg hs, State.grantReference,
      s.referenceRequest_some hr hwindows (Record.eligible_iff.mpr ⟨hout, hsync⟩)]
    dsimp only
    rw [if_pos hv, s.grant_reference]
    rfl
  · rw [State.grantStep_changeover hw hg hs, State.grantReference,
      s.referenceRequest_some hr hwindows (Record.eligible_iff.mpr ⟨hout, hsync⟩)]
    dsimp only
    rw [hv]
    rfl
  · have hnone : s.referenceRequest p.val = none := s.referenceRequest_none hr (by
      rw [Record.eligible_iff]
      rintro ⟨hwindows, hout, hsync⟩
      rcases hno with hno | hno | hno
      · exact Nat.not_le.mpr hwindows hno
      · exact hno hout
      · exact hno hsync)
    rw [State.grantStep_changeover hw hg hs, State.grantReference, hnone]
  · rw [State.grantStep_run hw hg hs, s.grantRun_none hreq]
  · rw [State.grantStep_run hw hg hs, s.grantRun_some hreq nofun, s.grant_invite]
    rfl
  · obtain ⟨hw', hs', hgap, hconfig⟩ := s.damage_idle p.isLt hw hs r
    have hheld : (s.damage r).resetHeld = false := (s.damage_steady r).resetHeld.trans hh
    rw [exec_windowGrant (s.damage r) p hheld, State.grantStep_run hw hg hs,
      State.grantStep_run hw' (by rwa [hgap, hconfig]) hs', s.grantRun_again hreq rfl hv]
  · rw [State.grantStep_run hw hg hs, s.grantRun_some hreq (by rintro _ ⟨⟩; exact hv), s.grant_echo p.val hv]
    rfl
  · rw [State.grantStep_run hw hg hs, s.grantRun_some hreq (by rintro _ ⟨⟩; exact hv), s.grant_verify]
    rfl
  · rw [State.grantStep_run hw hg hs, s.grantRun_some hreq (by rintro _ ⟨⟩; exact hv), s.grant_upkeep]
    rfl

end Sys2Proof.Machine
end

section
/-! Frame starts (R64, R69, R70, R164, R175). -/

namespace Sys2Proof.Machine

variable (s : State)

theorem exec_frameStart (p : Lane) (n : Half) (hh : s.resetHeld = false) :
    exec (.frameStart p n) s = .next (s.frameStart p.val n.toNat).settle := by
  change execFrameStart p n s = _
  simp [execFrameStart, hh]

theorem exec_craftIdleTimeout (hh : s.resetHeld = false) : exec .craftIdleTimeout s = .next s.craftTimeout.settle := by
  change execCraftIdleTimeout s = _
  simp [execCraftIdleTimeout, hh]

/-! ### The gap and the window's age (R64, steps 2 and 3) -/

theorem State.windowStep_none {p : Nat} (hw : (s.port p).window = none) :
    s.windowStep p = s.modPort p (fun q => { q with gapCounter := min (q.gapCounter + 1) 8 }) := by
  rw [State.windowStep, hw]
  rfl

theorem State.windowStep_opens {p : Nat} {w : OpenWindow} (hw : (s.port p).window = some w) (ha : w.age = 0) :
    s.windowStep p = s.modPort p (fun q => { q with window := some { w with age := 1 } }) := by
  rw [State.windowStep, hw]
  dsimp only
  rw [ha, if_neg (by decide)]

theorem State.windowStep_closes {p : Nat} {w : OpenWindow} (hw : (s.port p).window = some w) (ha : 1 ≤ w.age) :
    s.windowStep p = State.closedBy p (s.dropWindow p) w := by
  rw [State.windowStep, hw]
  exact if_pos ha

/-- A frame start closes a window as the row of its kind does (R65; log entry 4). -/
theorem State.windowStep_closeRow {p : Lane} {w : OpenWindow} (hh : s.resetHeld = false)
    (hw : (s.port p.val).window = some w) (ha : 1 ≤ w.age) :
    exec (closeRow p w.kind) s = .next (s.windowStep p.val).settle := by
  rw [exec_closeRow, hh, s.closeOf_open hw rfl, s.windowStep_closes hw ha]
  rfl

/-! ### The timers (R64, step 4; R69, R70) -/

theorem State.inviteOpen_iff {p : Nat} : s.inviteOpen p = true ↔ ∃ w, (s.port p).window = some w ∧ w.kind = .invite := by
  unfold State.inviteOpen
  cases (s.port p).window <;> simp

theorem State.inviteOpen_false {p : Nat} (h : ∀ w, (s.port p).window = some w → w.kind ≠ .invite) : s.inviteOpen p = false :=
  Bool.eq_false_iff.mpr fun ht => by
    obtain ⟨w, hw, hk⟩ := s.inviteOpen_iff.mp ht
    exact h w hw hk

theorem State.timerStep_rest {p : Nat} (hs : (s.port p).state ≠ .run) (invite : Bool) : s.timerStep p invite = s := if_neg hs

theorem State.timerStep_invite {p : Nat} (hs : (s.port p).state = .run) : s.timerStep p true = s.periodStep p := if_pos hs

theorem State.timerStep_discovery {p : Nat} (hs : (s.port p).state = .run) :
    s.timerStep p false = (s.periodStep p).discoveryStep p := if_pos hs

theorem State.periodStep_counts {p : Nat} (h : (s.port p).periodTimer + 1 < (s.port p).config.period) :
    s.periodStep p = s.modPort p (fun q => { q with periodTimer := q.periodTimer + 1 }) := if_neg (Nat.not_le.mpr h)

theorem State.periodStep_ends {p : Nat} (h : (s.port p).config.period ≤ (s.port p).periodTimer + 1) :
    s.periodStep p = s.periodEnd p := if_pos h

theorem Port.owe_state (q : Port) : q.owe.state = q.state := by
  unfold Port.owe
  split <;> rfl

/-- The period timer leaves the port's state alone. -/
theorem State.periodStep_state (p : Nat) : ((s.periodStep p).port p).state = (s.port p).state := by
  unfold State.periodStep
  split
  · refine s.modPort_each (R := fun x y => y.state = x.state) (fun _ => rfl) ?_ p
    split
    · exact Port.owe_state _
    · rfl
  · exact s.modPort_each (R := fun x y => y.state = x.state) (fun _ => rfl) rfl p

/-- The discovery timer is counted, up to 4,096 (R70). -/
def State.discoveryCounted (s : State) (p : Nat) : State :=
  s.modPort p (fun q => { q with discoveryTimer := min (q.discoveryTimer + 1) 4096 })

theorem State.discoveryStep_counts {p : Nat}
    (h : ((s.discoveryCounted p).port p).discoveryTimer < ((s.discoveryCounted p).port p).config.interval) :
    s.discoveryStep p = s.discoveryCounted p := if_neg (Nat.not_le.mpr h)

theorem State.discoveryStep_due {p : Nat}
    (h : ((s.discoveryCounted p).port p).config.interval ≤ ((s.discoveryCounted p).port p).discoveryTimer) :
    s.discoveryStep p = (s.discoveryCounted p).makeDue p := if_pos h

theorem State.discoveryCounted_state (p : Nat) : ((s.discoveryCounted p).port p).state = (s.port p).state :=
  s.modPort_each (R := fun x y => y.state = x.state) (fun _ => rfl) rfl p

/-! ### The scrubber and the craft idle count (R164, R175) -/

theorem State.scrubCount_counts (h : s.scrubCounter + 1 < s.scrubInterval) :
    s.scrubCount = { s with scrubCounter := s.scrubCounter + 1 } := if_neg (Nat.not_le.mpr h)

theorem State.scrubCount_scrubs (h : s.scrubInterval ≤ s.scrubCounter + 1) : s.scrubCount = s.scrub := if_pos h

theorem State.craftIdleCount_none (h : s.craft.assembly = none) : s.craftIdleCount = s := by
  rw [State.craftIdleCount, h]

theorem State.craftIdleCount_counts (h : s.craft.assembly ≠ none) (hidle : s.craftIdle + 1 < 80) :
    s.craftIdleCount = { s with craftIdle := s.craftIdle + 1 } := by
  obtain ⟨bs, hbs⟩ := Option.ne_none_iff_exists'.mp h
  rw [State.craftIdleCount, hbs]
  exact if_neg (Nat.not_le.mpr hidle)

theorem State.craftIdleCount_ends (h : s.craft.assembly ≠ none) (hidle : 80 ≤ s.craftIdle + 1) :
    s.craftIdleCount = s.craftTimeout := by
  obtain ⟨bs, hbs⟩ := Option.ne_none_iff_exists'.mp h
  rw [State.craftIdleCount, State.craftTimeout, hbs]
  exact if_pos hidle

theorem State.scrub_of_verifies (hv : s.verifies s.scrubCursor = true) :
    s.scrub = { s with scrubCounter := 0, scrubCursor := (s.scrubCursor + 1) % 480 } := by
  rw [State.scrub, s.verifyOrDamage_of_verifies hv]
  rfl

/-- Between scrubs, with no craft frame in assembly, port 0's lane only counts. -/
theorem State.laneCount_counts (p : Nat) (f : Port → Port) (h : s.scrubCounter + 1 < s.scrubInterval)
    (hidle : s.craft.assembly = none) :
    (s.modPort p f).scrubCount.craftIdleCount = { s.modPort p f with scrubCounter := s.scrubCounter + 1 } := by
  rw [(s.modPort p f).scrubCount_counts h]
  exact State.craftIdleCount_none _ hidle

theorem State.laneCount_scrubs (p : Nat) (f : Port → Port) (h : s.scrubInterval ≤ s.scrubCounter + 1)
    (hv : s.verifies s.scrubCursor = true) (hidle : s.craft.assembly = none) :
    (s.modPort p f).scrubCount.craftIdleCount =
      { s.modPort p f with scrubCounter := 0, scrubCursor := (s.scrubCursor + 1) % 480 } := by
  rw [(s.modPort p f).scrubCount_scrubs h, (s.modPort p f).scrub_of_verifies hv]
  exact State.craftIdleCount_none _ hidle

/-! ### The steps in their order (R64) -/

/-- The frame number is set before any other step. -/
def State.framed (s : State) (p n : Nat) : State := s.modPort p (fun q => { q with frame := n })

theorem State.framed_window (p n : Nat) : ((s.framed p n).port p).window = (s.port p).window :=
  s.modPort_each (R := fun x y => y.window = x.window) (fun _ => rfl) rfl p

theorem State.arbiterFrame_eq (p n : Nat) :
    s.arbiterFrame p n = (((s.framed p n).windowStep p).timerStep p (s.inviteOpen p)).grantStep p := rfl

theorem State.framed_windowStep_none {p n : Nat} (hw : (s.port p).window = none) :
    (s.framed p n).windowStep p =
      s.modPort p (fun q => { q with frame := n, gapCounter := min (q.gapCounter + 1) 8 }) := by
  rw [State.windowStep_none _ ((s.framed_window p n).trans hw), State.framed, s.modPort_modPort]

theorem State.framed_windowStep_opens {p n : Nat} {w : OpenWindow} (hw : (s.port p).window = some w) (ha : w.age = 0) :
    (s.framed p n).windowStep p = s.modPort p (fun q => { q with frame := n, window := some { w with age := 1 } }) := by
  rw [State.windowStep_opens _ ((s.framed_window p n).trans hw) ha, State.framed, s.modPort_modPort]

/-! ### Frame starts that do one thing -/

/-- Outside RUN, where no grant can follow, a frame start ends with the window's step. -/
theorem State.arbiterFrame_rest {p n : Nat} {t : State} (ht : (s.framed p n).windowStep p = t) (hs : (t.port p).state ≠ .run)
    (hidle : (t.port p).window ≠ none ∨ (t.port p).gapCounter < (t.port p).config.gap
      ∨ (t.port p).state = .down ∨ (t.port p).state = .standby) : s.arbiterFrame p n = t := by
  rw [s.arbiterFrame_eq, ht, t.timerStep_rest hs, t.grantStep_idle hidle]

theorem State.arbiterFrame_quiet {p n : Nat} (hp : p < 4) (hw : (s.port p).window = none)
    (hs : (s.port p).state = .down ∨ (s.port p).state = .standby) :
    s.arbiterFrame p n = s.modPort p (fun q => { q with frame := n, gapCounter := min (q.gapCounter + 1) 8 }) := by
  refine s.arbiterFrame_rest (s.framed_windowStep_none hw) ?_ ?_ <;> rw [s.modPort_port_self hp]
  · rcases hs with hs | hs <;> simp [hs]
  · exact .inr (.inr hs)

theorem State.arbiterFrame_waits {p n : Nat} {w : OpenWindow} (hp : p < 4) (hw : (s.port p).window = some w)
    (ha : w.age = 0) (hs : (s.port p).state ≠ .run) :
    s.arbiterFrame p n = s.modPort p (fun q => { q with frame := n, window := some { w with age := 1 } }) := by
  refine s.arbiterFrame_rest (s.framed_windowStep_opens hw ha) ?_ ?_ <;> rw [s.modPort_port_self hp]
  · exact hs
  · exact .inl nofun

/-- In RUN a frame start under an open window counts the period, and the discovery interval unless the window is an INVITE window. -/
theorem State.arbiterFrame_counts {p n : Nat} {w : OpenWindow} (hp : p < 4) (hw : (s.port p).window = some w)
    (ha : w.age = 0) (hs : (s.port p).state = .run) (hperiod : (s.port p).periodTimer + 1 < (s.port p).config.period)
    (hdue : w.kind = .invite ∨ min ((s.port p).discoveryTimer + 1) 4096 < (s.port p).config.interval) :
    s.arbiterFrame p n = s.modPort p (fun q =>
      { q with
        frame := n
        window := some { w with age := 1 }
        periodTimer := (s.port p).periodTimer + 1
        discoveryTimer := if w.kind = .invite then (s.port p).discoveryTimer
          else min ((s.port p).discoveryTimer + 1) 4096 }) := by
  have hcounted : ((s.framed p n).windowStep p).periodStep p = s.modPort p (fun q =>
      { q with frame := n, window := some { w with age := 1 }, periodTimer := q.periodTimer + 1 }) := by
    rw [s.framed_windowStep_opens hw ha, State.periodStep_counts _ (by rw [s.modPort_port_self hp]; exact hperiod),
      s.modPort_modPort]
  have hrun : (((s.framed p n).windowStep p).port p).state = .run := by
    rw [s.framed_windowStep_opens hw ha, s.modPort_port_self hp]
    exact hs
  rw [s.arbiterFrame_eq]
  by_cases hk : w.kind = .invite
  · rw [s.inviteOpen_iff.mpr ⟨w, hw, hk⟩, State.timerStep_invite _ hrun, hcounted,
      State.grantStep_idle _ (.inl (by rw [s.modPort_port_self hp]; nofun))]
    refine s.modPort_congr ?_
    rw [if_pos hk]
  · have hinvite : s.inviteOpen p = false := s.inviteOpen_false fun w' hw' => by
      cases hw.symm.trans hw'
      exact hk
    have hless := hdue.resolve_left hk
    rw [hinvite, State.timerStep_discovery _ hrun, hcounted, State.discoveryStep_counts, State.discoveryCounted,
      s.modPort_modPort, State.grantStep_idle _ (.inl (by rw [s.modPort_port_self hp]; nofun))]
    · refine s.modPort_congr ?_
      rw [if_neg hk]
    · rw [State.discoveryCounted, s.modPort_modPort, s.modPort_port_self hp]
      exact hless

/-- What a LOOP close leaves of its port: the gap counter and the configuration. -/
theorem Port.loopClosed_gap (q : Port) (captured : Option Captured) :
    (q.loopClosed captured).gapCounter = q.gapCounter ∧ (q.loopClosed captured).config = q.config := by
  have hends : ∀ mean, (q.calibrationEnds mean).gapCounter = q.gapCounter ∧ (q.calibrationEnds mean).config = q.config := by
    rintro (_ | m) <;> exact ⟨rfl, rfl⟩
  unfold Port.loopClosed
  split
  · exact hends none
  · split
    · exact ⟨rfl, rfl⟩
    · exact hends _

/-- A frame start that closes a LOOP window does nothing after it: the gap counter is 0 (R64). -/
theorem State.arbiterFrame_loop {p n : Nat} {w : OpenWindow} (hp : p < 4) (hw : (s.port p).window = some w) (ha : 1 ≤ w.age)
    (hk : w.kind = .loop) (hs : (s.port p).state = .calibrating) (hgap : 1 ≤ (s.port p).config.gap) :
    s.arbiterFrame p n = (s.framed p n).windowStep p := by
  obtain ⟨q, hclosed, hzero, hconfig, hstate⟩ : ∃ q : Port,
      ((s.framed p n).windowStep p).port p = q.loopClosed w.captured
        ∧ q.gapCounter = 0 ∧ q.config = (s.port p).config ∧ q.state = (s.port p).state := by
    refine ⟨{ s.port p with frame := n, window := none, gapCounter := 0 }, ?_, rfl, rfl, rfl⟩
    rw [State.windowStep_closes _ ((s.framed_window p n).trans hw) ha, State.closedBy, hk, State.dropWindow, State.framed,
      s.modPort_modPort]
    dsimp only
    rw [State.loopClosedAt, s.modPort_modPort, s.modPort_port_self hp]
  obtain ⟨hkeptCounter, hkeptConfig⟩ := q.loopClosed_gap w.captured
  obtain ⟨-, -, -, -, hends⟩ := q.loopClosed_frame w.captured
  refine s.arbiterFrame_rest rfl ?_ (.inr (.inl ?_)) <;> rw [hclosed]
  · rcases hends with hends | hends <;> simp [hends, hstate, hs]
  · rw [hkeptCounter, hkeptConfig, hzero, hconfig]
    exact hgap

/-! ### The frame start as a whole -/

theorem State.frameStart_ne {p n : Nat} (hp : p ≠ 0) : s.frameStart p n = s.arbiterFrame p n := if_neg hp

theorem State.frameStart_zero (n : Nat) :
    s.frameStart (0 : Lane).val n = ((s.arbiterFrame (0 : Lane).val n).scrubCount).craftIdleCount := if_pos rfl

/-- Settles O44: the frame start is its steps, each read by what it finds, and each as its own row does it. -/
theorem frameStartsTimeTheWindow : Obligations.FrameStartsTimeTheWindow := by
  rintro p n s q hh rfl
  have hp := p.isLt
  have hframed : (s.framed p.val n.toNat).resetHeld = false := hh
  rw [exec_frameStart s p n hh]
  refine ⟨fun h0 hw hs => ?_, fun w h0 hw ha hs => ?_, fun w h0 hw ha hs hperiod hdue => ?_,
    fun w h0 hw ha hk hs hgap => ?_, ?_, ?_⟩
  · rw [s.frameStart_ne (Fin.val_ne_of_ne h0), s.arbiterFrame_quiet hp hw hs]
  · rw [s.frameStart_ne (Fin.val_ne_of_ne h0), s.arbiterFrame_waits hp hw ha hs]
  · rw [s.frameStart_ne (Fin.val_ne_of_ne h0), s.arbiterFrame_counts hp hw ha hs hperiod hdue]
    rfl
  · have hclose := State.windowStep_closeRow _ hframed ((s.framed_window _ _).trans hw) ha
    rw [hk] at hclose
    rw [s.frameStart_ne (Fin.val_ne_of_ne h0), s.arbiterFrame_loop hp hw ha hk hs hgap]
    exact hclose.symm
  · rintro rfl hw hs hidle
    have hquiet := s.arbiterFrame_quiet (n := n.toNat) hp hw hs
    rw [s.frameStart_zero, hquiet]
    refine ⟨fun hless => ?_, fun hends hv => ?_⟩
    · rw [s.laneCount_counts _ _ hless hidle]
      rfl
    · rw [s.laneCount_scrubs _ _ hends hv hidle]
      rfl
  · have h1 := (State.windowStep_evolves (s.framed p.val n.toNat) hp).resetHeld.trans hframed
    have h3 := (State.timerStep_steady ((s.framed p.val n.toNat).windowStep p.val) p.val (s.inviteOpen p.val)).resetHeld.trans h1
    have h4 := (s.arbiterFrame_evolves hp n.isLt).resetHeld.trans hh
    have h5 := (State.scrubCount_steady (s.arbiterFrame p.val n.toNat)).resetHeld.trans h4
    generalize hs1 : (s.framed p.val n.toNat).windowStep p.val = s1 at h1 h3
    refine ⟨s1, if (s1.port p.val).state = .run then s1.periodStep p.val else s1, s1.timerStep p.val (s.inviteOpen p.val),
      s.arbiterFrame p.val n.toNat, if p = 0 then (s.arbiterFrame p.val n.toNat).scrubCount else s.arbiterFrame p.val n.toNat,
      s.frameStart p.val n.toNat, fun hw => ?_, fun w hw ha => ?_, fun w hw ha => ?_, fun hs => ?_, fun hs => ?_, ?_,
      fun h0 => ?_, fun h0 => ?_, rfl⟩
    · rw [← hs1, s.framed_windowStep_none hw]
    · rw [← hs1, s.framed_windowStep_opens hw ha]
    · rw [← hs1]
      exact State.windowStep_closeRow _ hframed ((s.framed_window _ _).trans hw) ha
    · rw [if_neg hs, s1.timerStep_rest hs]
      exact ⟨rfl, rfl⟩
    · rw [if_pos hs]
      refine ⟨fun hless => s1.periodStep_counts hless, fun hends => ?_, fun hinvite => ?_, ?_⟩
      · rw [exec_upkeepPeriodEnd s1 h1 hs, s1.periodStep_ends hends]
      · rw [s.inviteOpen_iff.mpr hinvite, s1.timerStep_invite hs]
      · rintro counted hother rfl
        rw [s.inviteOpen_false hother, s1.timerStep_discovery hs]
        have hrun := (s1.periodStep_state p.val).trans hs
        have h2 := (s1.timerStep_steady p.val true).resetHeld.trans h1
        rw [s1.timerStep_invite hs] at h2
        refine ⟨fun hless => State.discoveryStep_counts _ hless, fun hends => ?_⟩
        rw [State.discoveryStep_due _ hends]
        exact exec_discoveryDue _ h2 ((State.discoveryCounted_state _ _).trans hrun)
    · rw [exec_windowGrant _ p h3, s.arbiterFrame_eq, hs1]
    · rw [if_neg h0, s.frameStart_ne (Fin.val_ne_of_ne h0)]
      exact ⟨rfl, rfl⟩
    · subst h0
      rw [if_pos rfl, s.frameStart_zero]
      refine ⟨fun hless => State.scrubCount_counts _ hless, fun hends => ?_, fun hnone => State.craftIdleCount_none _ hnone,
        fun hsome hless => State.craftIdleCount_counts _ hsome hless, fun hsome hends => ?_⟩
      · rw [exec_scrubVerify _ h4, State.scrubCount_scrubs _ hends]
      · rw [exec_craftIdleTimeout _ h5, State.craftIdleCount_ends _ hsome hends]

end Sys2Proof.Machine
end

section
/-! INVITE closes: what the spread adapts to, and close rows that find no window of their kind (R65, R85). -/

namespace Sys2Proof.Machine

variable (s : State)

/-- What an INVITE close does to its port: the spread grows, shrinks or stays by what the window heard (R85). -/
theorem Port.inviteClosed_spread (q : Port) (w : OpenWindow) :
    q.inviteClosed w =
      { q with
        discoveryTimer := 0
        spread :=
          if 0 < w.garbled ∨ w.overrun = true then min (q.spread + 1) 6
          else if w.clean = 0 ∧ q.lastEmpty = true then q.spread - 1
          else q.spread
        lastEmpty := decide (w.garbled = 0 ∧ w.overrun = false ∧ w.clean = 0) } := by
  by_cases hnoisy : 0 < w.garbled ∨ w.overrun = true
  · have hheard : ¬ (w.garbled = 0 ∧ w.overrun = false ∧ w.clean = 0) := by
      rintro ⟨hg, ho, -⟩
      rcases hnoisy with h | h
      · omega
      · simp [ho] at h
    simp only [Port.inviteClosed, if_pos hnoisy, hheard, decide_false, Config.spreadLimit]
  · obtain ⟨hg, ho⟩ : w.garbled = 0 ∧ w.overrun = false := by simpa using hnoisy
    by_cases hclean : w.clean = 0
    · cases hlast : q.lastEmpty <;> simp [Port.inviteClosed, hg, ho, hclean, hlast]
    · simp [Port.inviteClosed, hg, ho, hclean]

/-- The row INVITE_CLOSE with its window open. -/
theorem exec_inviteClose {p : Lane} {w : OpenWindow} (hh : s.resetHeld = false) (hw : (s.port p.val).window = some w)
    (hk : w.kind = .invite) :
    exec (.inviteClose p) s = .next ((s.dropWindow p.val).modPort p.val (fun q => q.inviteClosed w)).settle := by
  change execInviteClose p s = _
  rw [execInviteClose, hh, s.closeOf_open hw hk]
  rfl

/-- Settles O47: the arbiter's part and the port's are one change of the port. -/
theorem inviteCloseAdaptsTheSpread : Obligations.InviteCloseAdaptsTheSpread := by
  refine fun p s hh => ⟨fun w hw hk => ?_, fun kind hnone => ?_⟩
  · rw [exec_inviteClose s hh hw hk, State.dropWindow, s.modPort_modPort]
    simp only [Port.inviteClosed_spread]
  · rw [exec_closeRow, hh, s.closeOf_other hnone]
    rfl

end Sys2Proof.Machine
end

section
/-! Descriptors queued for a record that verifies, and the record changed and its port after them (R5, R77, R162). -/

namespace Sys2Proof.Machine

variable (s : State)

/-! ### A record stored afresh among other changes -/

theorem State.freshRecord_modPort (n p : Nat) (c : Record) (f : Port → Port) :
    (s.freshRecord n c).modPort p f = (s.modPort p f).freshRecord n c := rfl

theorem State.noteChanged_modPort (n p : Nat) (f : Port → Port) :
    (s.noteChanged n).modPort p f = (s.modPort p f).noteChanged n := rfl

theorem State.freshRecord_freshRecord (n : Nat) (c d : Record) :
    (s.freshRecord n c).freshRecord n d = s.freshRecord n d := s.store_store n _ _

/-- Of a record that verifies, its own content stored afresh is no change (R162). -/
theorem State.freshRecord_same {n : Nat} (hv : s.verifies n = true) : s.freshRecord n (s.record n) = s := by
  have hcheck : (s.stored n).rewrite (s.record n) = s.stored n := by
    simp [StoredRecord.rewrite, State.record]
  calc s.freshRecord n (s.record n)
      _ = s.modRecord n id := (s.modRecord_of_verifies hv id).symm
      _ = s := (congrArg (s.store n) hcheck).trans (s.store_self n)

theorem State.freshRecord_change {n : Nat} (hn : n < 480) (c : Record) (f : Record → Record) :
    (s.freshRecord n c).change n f = (s.freshRecord n (f c)).noteChanged n := by
  rw [State.change_of_verifies _ (s.freshRecord_verifies_self hn c), s.freshRecord_record_self hn,
    s.freshRecord_freshRecord]

/-! ### Descriptors queued (R77) -/

theorem Port.offered_room {q : Port} (h : q.outbound.length < 64) (d : Descriptor) :
    q.offered [d] = { q with outbound := q.outbound ++ [d] } := by
  obtain ⟨k, hk⟩ : ∃ k, 64 - q.outbound.length = k + 1 := ⟨63 - q.outbound.length, by omega⟩
  simp [Port.offered, Config.outboundLimit, hk]

theorem Port.offered_full {q : Port} (h : 64 ≤ q.outbound.length) (d : Descriptor) :
    q.offered [d] = { q with conditions := { q.conditions with outboundOverrun := true } } := by
  simp [Port.offered, Config.outboundLimit, Nat.sub_eq_zero_of_le h]

theorem Port.offered_outbound_length (q : Port) (ds : List Descriptor) :
    (q.offered ds).outbound.length = q.outbound.length + min (64 - q.outbound.length) ds.length := by
  simp [Port.offered, Config.outboundLimit]

/-- A descriptor offered to a port is counted in the record it names where it finds room (R4, R77). -/
theorem State.enqueue_of_verifies {p r : Nat} {d : Descriptor} (hd : d.names = some r) (hv : s.verifies r = true) :
    s.enqueue p d = (s.modPort p (fun q => q.offered [d])).freshRecord r
      { s.record r with outstanding := (s.record r).outstanding + min 1 (64 - (s.port p).outbound.length) } := by
  rcases s.enqueue_cases p d with ⟨hroom, he⟩ | ⟨hfull, he⟩ <;> rw [he]
  · have hcount : min 1 (64 - (s.port p).outbound.length) = 1 := by omega
    have hport : s.modPort p (fun q => q.offered [d]) = s.modPort p (fun q => { q with outbound := q.outbound ++ [d] }) :=
      s.modPort_congr (Port.offered_room hroom d)
    rw [s.push_names hd, State.modRecord_of_verifies _ (by exact hv), hcount, hport]
    rfl
  · have hcount : min 1 (64 - (s.port p).outbound.length) = 0 := by omega
    have hport : s.modPort p (fun q => q.offered [d]) = s.flag p (fun c => { c with outboundOverrun := true }) :=
      s.modPort_congr (Port.offered_full hfull d)
    rw [hcount, hport]
    exact (State.freshRecord_same (s.flag p _) hv).symm

/-- Descriptors offered one after another are counted in the record they all name, as many as find room (R4, R77). -/
theorem State.enqueues_of_verifies {p r : Nat} (hp : p < 4) (hr : r < 480) {ds : List Descriptor}
    (hd : ∀ d ∈ ds, d.names = some r) (hv : s.verifies r = true) :
    ds.foldl (fun t d => t.enqueue p d) s = (s.modPort p (fun q => q.offered ds)).freshRecord r
      { s.record r with outstanding := (s.record r).outstanding + min ds.length (64 - (s.port p).outbound.length) } := by
  induction ds generalizing s with
  | nil =>
    rw [s.modPort_id _ (Port.offered_nil _), List.length_nil, Nat.zero_min]
    exact (s.freshRecord_same hv).symm
  | cons d ds ih =>
    have hport := s.enqueue_port_self hp d
    have hcount : min 1 (64 - (s.port p).outbound.length)
        + min ds.length (64 - ((s.enqueue p d).port p).outbound.length)
        = min (d :: ds).length (64 - (s.port p).outbound.length) := by
      rw [hport, Port.offered_outbound_length, List.length_singleton, List.length_cons]
      omega
    rw [List.foldl_cons, ih _ (fun e he => hd e (List.mem_cons_of_mem _ he)) ((s.enqueue_verifies p r d).trans hv), ← hcount,
      ← Nat.add_assoc]
    generalize min ds.length (64 - ((s.enqueue p d).port p).outbound.length) = k
    rw [s.enqueue_of_verifies (hd d List.mem_cons_self) hv, State.freshRecord_record_self _ hr, State.freshRecord_modPort,
      State.freshRecord_freshRecord, s.modPort_modPort]
    simp only [Port.offered_offered, List.singleton_append]

/-- Descriptors queued, the record they name changed, then its port: one change of the port and one of the record (R5, R77). -/
theorem State.enqueues_change {p r : Nat} (hp : p < 4) (hr : r < 480) (hv : s.verifies r = true) {ds : List Descriptor}
    (hd : ∀ d ∈ ds, d.names = some r) (f : Record → Record) (g : Port → Port) :
    ((ds.foldl (fun t d => t.enqueue p d) s).change r f).modPort p g =
      ((s.modPort p (fun q => g (q.offered ds))).freshRecord r (f { s.record r with
        outstanding := (s.record r).outstanding + min ds.length (64 - (s.port p).outbound.length) })).noteChanged r := by
  rw [s.enqueues_of_verifies hp hr hd hv, State.freshRecord_change _ hr, State.noteChanged_modPort, State.freshRecord_modPort,
    s.modPort_modPort]

end Sys2Proof.Machine
end

section
/-! Reports in processing and the registry step of a HELLO (R86 to R96). -/

namespace Sys2Proof.Machine

variable (s : State)

/-! ### Reports in processing (R86, R87) -/

theorem exec_reportProcessingStart (p : Lane) (hh : s.resetHeld = false) :
    exec (.reportProcessingStart p) s = .next (s.modPort p.val Port.beginReport).settle := by
  change execReportProcessingStart p s = _
  simp [execReportProcessingStart, hh]

theorem exec_reportRegistryStep (p : Lane) (hh : s.resetHeld = false) :
    exec (.reportRegistryStep p) s = .next (s.registryStep p.val).settle := by
  change execReportRegistryStep p s = _
  simp [execReportRegistryStep, hh]

theorem Port.beginReport_head {q : Port} {x : QueuedReport} {xs : List QueuedReport} (hs : q.state = .run)
    (hidle : q.processing = none) (ha : q.arrivals = x :: xs) :
    q.beginReport = { q with arrivals := xs, processing := some x } := by
  simp [Port.beginReport, hs, hidle, ha]

theorem Port.beginReport_none {q : Port} (h : q.state ≠ .run ∨ q.processing ≠ none ∨ q.arrivals = []) : q.beginReport = q := by
  unfold Port.beginReport
  split
  · next ha hidle => exact if_neg fun hs => by simp [hs, hidle, ha] at h
  · rfl

theorem State.registryStep_idle {p : Nat} (h : (s.port p).processing = none) : s.registryStep p = s := by
  rw [State.registryStep, h]

/-- A GARBLED report is cleared and nothing more (R86). -/
theorem State.registryStep_garbled {p : Nat} {f : QueuedReport} (h : (s.port p).processing = some f) (hf : f.hello = none) :
    s.registryStep p = s.modPort p (fun q => { q with processing := none }) := by
  simp only [State.registryStep, h, hf]

/-- The port of a HELLO whose serial is new to the window: the report cleared, the serial in the heard list (R86, R87). -/
def Port.hearing (q : Port) (tag : Nat) (x : Serial) : Port :=
  { q with
    processing := none
    heard := if q.heardTag = some tag then (if q.heard.length < 16 then q.heard ++ [x] else q.heard) else [x]
    heardTag := some tag }

theorem Port.heardWindow_heard (q : Port) (tag : Nat) :
    (q.heardWindow tag).heard = if q.heardTag = some tag then q.heard else [] := by
  unfold Port.heardWindow
  split <;> rfl

theorem Port.hearing_eq (q : Port) (tag : Nat) (x : Serial) :
    (Port.heardWindow { q with processing := none } tag).recordHeard x = q.hearing tag x := by
  by_cases htag : q.heardTag = some tag
  · simp only [Port.heardWindow, Port.recordHeard, Port.hearing, Config.heardLimit, htag, if_true]
    split <;> rfl
  · simp [Port.heardWindow, Port.recordHeard, Port.hearing, Config.heardLimit, htag]

section
variable {s} {p : Nat} {f : QueuedReport} {x : Serial} {lev : Bool} (hp : p < 4) (h : (s.port p).processing = some f)
  (hf : f.hello = some (x, lev))
include hp h hf

/-- The heard list decides whether the serial is looked up (R87). -/
theorem State.registryStep_hello :
    s.registryStep p = if (s.port p).heardTag = some f.tag ∧ x ∈ (s.port p).heard
      then s.modPort p (fun q => Port.heardWindow { q with processing := none } f.tag)
      else (s.modPort p (fun q => q.hearing f.tag x)).helloLookup p x lev := by
  simp only [State.registryStep, h, hf, State.hello, s.modPort_modPort, s.modPort_port_self hp, Port.hearing_eq,
    Port.heardWindow_heard]
  by_cases htag : (s.port p).heardTag = some f.tag <;> simp [htag]

theorem State.registryStep_heard (htag : (s.port p).heardTag = some f.tag) (hx : x ∈ (s.port p).heard) :
    s.registryStep p = s.modPort p (fun q => { q with processing := none }) := by
  rw [State.registryStep_hello hp h hf, if_pos ⟨htag, hx⟩]
  exact s.modPort_congr (if_pos htag)

theorem State.registryStep_new (hnew : (s.port p).heardTag ≠ some f.tag ∨ x ∉ (s.port p).heard) :
    s.registryStep p = (s.modPort p (fun q => q.hearing f.tag x)).helloLookup p x lev := by
  rw [State.registryStep_hello hp h hf, if_neg fun ⟨htag, hx⟩ => hnew.elim (· htag) (· hx)]
end

/-! ### The lookup (R88) and strangers (R96) -/

section
variable {s} {p r : Nat} {x : Serial} (lev : Bool)

theorem State.helloLookup_stranger (h : mapGet s.serialIndex x.toNat = none) :
    s.helloLookup p x lev = s.helloStranger p x lev := by
  rw [State.helloLookup, h]

theorem State.helloLookup_damaged (h : mapGet s.serialIndex x.toNat = some r) (hv : s.verifies r = false) :
    s.helloLookup p x lev = s.damage r := by
  simp [State.helloLookup, h, hv]

theorem State.helloLookup_own (h : mapGet s.serialIndex x.toNat = some r) (hv : s.verifies r = true)
    (hp : (s.record r).port = p) : s.helloLookup p x lev = s.helloOwnPort p r lev := by
  simp [State.helloLookup, h, hv, hp]

theorem State.helloLookup_other (h : mapGet s.serialIndex x.toNat = some r) (hv : s.verifies r = true)
    (hp : (s.record r).port ≠ p) : s.helloLookup p x lev = s.helloOtherPort p r lev := by
  simp [State.helloLookup, h, hv, hp]

theorem State.helloStranger_new (h : s.stranger x = none) :
    s.helloStranger p x lev = { s with
      strangers := (if s.strangers.length < 16 then s.strangers else s.strangers.drop 1) ++
        [{ serial := x, port := p, levelable := lev, sightings := 1, lastFrame := (s.port p).frame }]
      newStranger := true } := by
  rw [State.helloStranger, h]
  rfl

theorem State.helloStranger_again {e : Stranger} (h : s.stranger x = some e) :
    s.helloStranger p x lev = { s with
      strangers := s.strangers.map (fun e => if e.serial = x then e.sighted p lev (s.port p).frame else e) } := by
  rw [State.helloStranger, h]

/-! ### A serial of the port's own records (R89 to R93) -/

theorem State.helloOwnPort_activating (h : (s.record r).state.activating = true) :
    s.helloOwnPort p r lev = s.helloActivating p r lev := by
  unfold State.helloOwnPort
  cases hs : (s.record r).state <;> simp [hs, RecState.activating] at h ⊢

theorem State.helloOwnPort_ranged (h : (s.record r).state.ranged = true) :
    s.helloOwnPort p r lev = s.helloRanged p r lev := by
  unfold State.helloOwnPort
  cases hs : (s.record r).state <;> simp [hs, RecState.ranged] at h ⊢

/-- The attempt that a restart counts decides between a restart and a failed activation (R90). -/
theorem State.helloActivating_eq (hr : r < 480) (hv : s.verifies r = true) :
    s.helloActivating p r lev =
      if (s.record r).attempts + 1 < 3
      then (s.freshRecord r { s.record r with attempts := (s.record r).attempts + 1 }).restart p r (some lev)
      else (s.freshRecord r { s.record r with attempts := (s.record r).attempts + 1 }).failActivation p r .failedNoEcho := by
  simp only [State.helloActivating, s.modRecord_of_verifies hv, s.freshRecord_record_self hr]

/-- A record under activation is named again in its place (R90). -/
theorem State.restart_of_verifies (hp : p < 4) (hr : r < 480) (hv : s.verifies r = true) :
    s.restart p r (some lev) =
      ((s.modPort p (fun q => { q.offered [.name r] with
        activation := q.activation.map (fun e => if e.record = r then { e with phase := .awaitEcho } else e) })).freshRecord r
        { (s.record r).withoutRanging with
          state := .named
          cause := .restarted
          levelable := some lev
          lastHeard := none
          outstanding := (s.record r).outstanding + min 1 (64 - (s.port p).outbound.length) }).noteChanged r := by
  have hnames : ∀ d ∈ [Descriptor.name r], d.names = some r := by simp [Descriptor.names]
  rw [State.restart]
  exact s.enqueues_change hp hr hv hnames _ _

/-- A record in service goes back to its first window: SHUT where it was ACTIVE, NAME, an entry at the tail (R92). -/
theorem State.reenter_of_verifies (hp : p < 4) (hr : r < 480) (hv : s.verifies r = true) {named : List Descriptor}
    (hnamed : named = (if (s.record r).state = .active then [.shut r] else []) ++ [.name r]) (cause : Cause) :
    s.reenter p r cause (some lev) =
      ((s.modPort p (fun q => { q.offered named with
        activation := q.activation ++ [{ record := r, phase := .awaitEcho }] })).freshRecord r
        { (s.record r).withoutRanging with
          state := .named
          cause := cause
          attempts := 0
          rounds := 0
          misses := 0
          levelable := some lev
          lastHeard := none
          outstanding := (s.record r).outstanding + min named.length (64 - (s.port p).outbound.length) }).noteChanged r := by
  have hnames : ∀ d ∈ named, d.names = some r := by
    subst hnamed
    split <;> simp [Descriptor.names]
  have hqueued : named.foldl (fun t d => t.enqueue p d) s =
      (if (s.record r).state = .active then s.enqueue p (.shut r) else s).enqueue p (.name r) := by
    subst hnamed
    split <;> rfl
  rw [State.reenter, ← hqueued]
  exact s.enqueues_change hp hr hv hnames _ _

/-- A record in service whose port has no room to name it again gives up its drop id and waits as EXPECTED (R92). -/
theorem State.helloUnranged_of_verifies (hv : s.verifies r = true) :
    s.helloUnranged p r =
      ((s.modPort p (fun q => { q with
        dropMap := mapErase q.dropMap (s.record r).dropId
        conditions := { q.conditions with deferred := true } })).freshRecord r
        { (s.record r).withoutRanging with
          state := .expected
          cause := .restarted
          dropId := 0
          misses := 0 }).noteChanged r := by
  rw [State.helloUnranged, State.change_of_verifies _ (by exact hv), State.flag, State.noteChanged_modPort,
    State.freshRecord_modPort, State.freeDrop, s.modPort_modPort]
  rfl

theorem State.helloRanged_room (h : (s.port p).activation.length < 8) :
    s.helloRanged p r lev = s.reenter p r .restarted (some lev) := if_pos (decide_eq_true h)

theorem State.helloRanged_full (h : 8 ≤ (s.port p).activation.length) : s.helloRanged p r lev = s.helloUnranged p r := by
  have hfull : s.activationRoom p = false := decide_eq_false (Nat.not_lt.mpr h)
  simp [State.helloRanged, hfull]

/-! ### A serial of another port's records (R94, R95) -/

theorem State.helloOtherPort_moves (hv : s.verifies r = true) (hb : s.phase = .build) (hs : (s.record r).state = .expected)
    (hpin : (s.record r).pinned = false) :
    s.helloOtherPort p r lev =
      ((s.freshRecord r { s.record r with port := p, lastHeard := none, cause := .moved }).noteChanged r).nameExpected p r
        .moved (some lev) := by
  rw [State.helloOtherPort, if_pos ⟨hb, hs, by simp [hpin]⟩, State.helloMove, s.change_of_verifies hv]

theorem wrongPortCause_eq (st : RecState) :
    wrongPortCause st = if st = .expected ∨ st = .barred then .wrongTree else .serialConflict := by
  cases st <;> simp [wrongPortCause]

theorem State.helloOtherPort_stays (hv : s.verifies r = true)
    (h : s.phase = .service ∨ (s.record r).state ≠ .expected ∨ (s.record r).pinned = true) :
    s.helloOtherPort p r lev =
      (s.freshRecord r { s.record r with
        lastHeard := some p
        cause := if (s.record r).state = .expected ∨ (s.record r).state = .barred then .wrongTree
          else .serialConflict }).noteChanged r := by
  have hnot : ¬ (s.phase = .build ∧ (s.record r).state = .expected ∧ (!(s.record r).pinned) = true) := by
    rintro ⟨hb, hs, hpin⟩
    rcases h with h | h | h
    · rw [hb] at h
      cases h
    · exact h hs
    · simp [h] at hpin
  rw [State.helloOtherPort, if_neg hnot, s.change_of_verifies hv, wrongPortCause_eq]
end

/-- Settles O55: the two rows by what is in processing, then a HELLO new to its window by what the lookup of its serial finds. -/
theorem hellosTakeTheirRegistryStep : Obligations.HellosTakeTheirRegistryStep := by
  rintro p s q hh rfl
  have hp := p.isLt
  rw [exec_reportProcessingStart s p hh, exec_reportRegistryStep s p hh]
  refine ⟨fun x xs hs hidle ha => ?_, fun hnone => ?_, fun hidle => ?_, fun f h hf => ?_, fun f x lev h hf htag hx => ?_,
    fun f x lev base h hf hnew hbase => ?_⟩
  · rw [s.modPort_congr (g := fun q => { q with arrivals := xs, processing := some x }) (Port.beginReport_head hs hidle ha)]
  · rw [s.modPort_id _ (Port.beginReport_none hnone)]
  · rw [s.registryStep_idle hidle]
  · rw [s.registryStep_garbled h hf]
  · rw [State.registryStep_heard hp h hf htag hx]
  · have hstep : s.registryStep p.val = base.helloLookup p.val x lev :=
      (State.registryStep_new hp h hf hnew).trans (by rw [hbase]; rfl)
    have hport : base.port p.val = (s.port p.val).hearing f.tag x := by
      rw [hbase, s.modPort_port_self hp]
      rfl
    have hframe : (base.port p.val).frame = (s.port p.val).frame := by rw [hport]; rfl
    have houtbound : (base.port p.val).outbound = (s.port p.val).outbound := by rw [hport]; rfl
    have hentries : (base.port p.val).activation = (s.port p.val).activation := by rw [hport]; rfl
    have hstrangers : base.strangers = s.strangers := by rw [hbase]; rfl
    have hstranger : base.stranger x = s.stranger x := by rw [hbase]; rfl
    have hphase : base.phase = s.phase := by rw [hbase]; rfl
    have hrecord : ∀ r, base.record r = s.record r := fun r => by rw [hbase]; rfl
    have hverifies : ∀ r, base.verifies r = s.verifies r := fun r => by rw [hbase]; rfl
    have hindex : base.serialIndex = s.serialIndex := by rw [hbase]; rfl
    clear hbase hport
    rw [hstep, ← hframe, ← houtbound, ← hentries, ← hstrangers, ← hstranger, ← hphase, ← hindex]
    simp only [← hrecord, ← hverifies]
    refine ⟨fun hx hs => ?_, fun e hx hs => ?_, fun r hx hv => ?_, fun r c hx hv hc => ?_⟩
    · rw [State.helloLookup_stranger lev hx, State.helloStranger_new lev hs]
    · rw [State.helloLookup_stranger lev hx, State.helloStranger_again lev hs]
      rfl
    · rw [State.helloLookup_damaged lev hx hv]
    · subst hc
      have hlookup := State.helloLookup_own (p := p.val) lev hx hv
      refine ⟨fun hown hs => ?_, fun hown hs => ?_, fun hown hs hr hthird => ?_, fun hown hs hr hless => ?_,
        fun named hown hs hr hroom hnamed => ?_, fun hown hs hfull => ?_, fun hother hb hs hpin => ?_, fun hother hstays => ?_⟩
      · rw [hlookup hown, State.helloOwnPort, hs]
      · rw [hlookup hown, State.helloOwnPort, hs]
      · rw [hlookup hown, State.helloOwnPort_activating lev hs, State.helloActivating_eq lev hr hv,
          if_neg (Nat.not_lt.mpr hthird)]
      · rw [hlookup hown, State.helloOwnPort_activating lev hs, State.helloActivating_eq lev hr hv,
          if_pos hless, State.restart_of_verifies lev hp hr (State.freshRecord_verifies_self _ hr _),
          State.freshRecord_record_self _ hr, State.freshRecord_modPort, State.freshRecord_freshRecord]
        rfl
      · rw [hlookup hown, State.helloOwnPort_ranged lev hs, State.helloRanged_room lev hroom,
          State.reenter_of_verifies lev hp hr hv hnamed]
        rfl
      · rw [hlookup hown, State.helloOwnPort_ranged lev hs, State.helloRanged_full lev hfull,
          State.helloUnranged_of_verifies hv]
        rfl
      · rw [State.helloLookup_other lev hx hv hother, State.helloOtherPort_moves lev hv hb hs hpin]
      · rw [State.helloLookup_other lev hx hv hother, State.helloOtherPort_stays lev hv hstays]

end Sys2Proof.Machine
end

section
/-! Failures of an activation and of an attempt (R124, R126). -/

namespace Sys2Proof.Machine

variable (s : State)

/-! ### Activation failure (R126) -/

/-- What an activation failure leaves in a record: no drop id and no round trip, one failure more, BARRED at the third (R126). -/
def Record.activationFailed (c : Record) (cause : Cause) : Record :=
  { c with
    state := if c.failures + 1 = 3 then .barred else .expected
    cause := if c.failures + 1 = 3 then .barred else cause
    failures := c.failures + 1
    dropId := 0
    ranging := none
    delaySync := c.delaySync.eqdAbsent }

theorem State.failActivation_eq (p r : Nat) (cause : Cause) :
    s.failActivation p r cause = ((s.releaseHeld r).removeEntry p r).change r (fun c => c.activationFailed cause) := by
  refine congrArg (State.change _ r) (funext fun c => ?_)
  by_cases h : c.failures + 1 = 3 <;> simp [Record.activationFailed, Record.withoutRanging, h]

/-- Giving up the drop id and the entry leaves every record as it is (R30, R117). -/
theorem State.releaseHeld_removeEntry_stored (p r n : Nat) : ((s.releaseHeld r).removeEntry p r).stored n = s.stored n :=
  State.stored_congr (s.releaseHeld_records r) n

/-- Settles O20: the drop id and the entry leave the port, and the record alone is changed. -/
theorem activationFailureReleasesTheDrop : Obligations.ActivationFailureReleasesTheDrop := by
  rintro s t p r cause hp hr hport hd rfl
  have hstored := s.releaseHeld_removeEntry_stored p r
  have hreleased := s.releaseHeld_port (r := r) hp
  have hsame : s.sameOutside (s.failActivation p r cause) :=
    (s.releaseHeld_sameOutside r).trans ((State.modPort_sameOutside _ p _).trans (State.change_sameOutside _ r _))
  rw [if_pos ⟨hport.symm, hd⟩, if_pos ⟨hport.symm, hd⟩] at hreleased
  rw [s.failActivation_eq] at hsame ⊢
  refine ⟨?_, ?_, ?_, fun n hn => ?_, fun q hq => ?_, hsame.eq_of_changed ?_⟩
  · rw [State.change_record_self _ hr, State.record, hstored]
    rfl
  · rw [State.change_verifies, State.verifies, hstored, State.verifies]
  · rw [State.change_port, State.removeEntry, State.modPort_port_self _ hp, hreleased]
    rfl
  · rw [State.change_stored_ne _ (by simpa using hn), hstored]
  · have hq' : q ≠ p := by simpa using hq
    rw [State.change_port, State.removeEntry, State.modPort_port_ne _ hq', s.releaseHeld_some hd, hport, State.freeDrop,
      State.modPort_port_ne _ hq', s.enqueue_port_ne hq']
  · rw [State.change_changed, State.removeEntry, State.modPort_changed, s.releaseHeld_changed]

/-! ### Attempt failure (R124) -/

/-- An attempt that fails short of the third: a NAME, the record NAMED without its round trip, its entry at the tail (R124). -/
theorem State.attemptFailure_again {p r : Nat} (hr : r < 480) (h : (s.record r).attempts + 1 < 3) (cause : Cause) :
    s.attemptFailure p r cause =
      ((((s.modRecord r (fun c => { c with attempts := c.attempts + 1 })).enqueue p (.name r)).change r
        (fun c => { c.withoutRanging with state := .named })).entryToTail p r) := by
  rw [State.attemptFailure, s.modRecord_record_self hr]
  exact if_pos h

theorem State.attemptFailure_third {p r : Nat} (hr : r < 480) (h : 3 ≤ (s.record r).attempts + 1) (cause : Cause) :
    s.attemptFailure p r cause =
      (s.modRecord r (fun c => { c with attempts := c.attempts + 1 })).failActivation p r cause := by
  rw [State.attemptFailure, s.modRecord_record_self hr]
  exact if_neg (Nat.not_lt.mpr h)

/-- To the tail: the entry removed and one in AWAIT_ECHO appended, on its port alone (R116). -/
theorem State.entryToTail_eq (p r : Nat) :
    s.entryToTail p r = s.modPort p (fun q => { q with
      activation := q.activation.filter (fun e => e.record ≠ r) ++ [{ record := r, phase := .awaitEcho }] }) := by
  rw [State.entryToTail, State.appendEntry, State.removeEntry, s.modPort_modPort]

/-- Settles O21: short of the third, what each update does to the record, the port and the rest. -/
theorem attemptFailureNamesAgain : Obligations.AttemptFailureNamesAgain := by
  rintro s t p r cause hp hr rfl
  refine ⟨fun hless => ?_, fun hthird => s.attemptFailure_third hr hthird cause⟩
  rw [s.attemptFailure_again hr hless, State.entryToTail_eq]
  refine ⟨?_, ?_, ?_, fun n hn => ?_, fun q hq => ?_, ?_⟩
  · rw [State.modPort_record, State.change_record_self _ hr, State.enqueue_record_named _ rfl hr, s.modRecord_record_self hr]
    rfl
  · rw [State.modPort_verifies, State.change_verifies, State.enqueue_verifies, s.modRecord_verifies]
  · rw [State.modPort_port_self _ hp, State.change_port, State.enqueue_port_self _ hp]
    rfl
  · have hn' : n ≠ r := by simpa using hn
    rw [State.modPort_stored, State.change_stored_ne _ hn',
      State.enqueue_stored_other _ (by simpa [Descriptor.names] using hn'.symm), s.modRecord_stored_ne hn']
  · have hq' : q ≠ p := by simpa using hq
    rw [State.modPort_port_ne _ hq', State.change_port, State.enqueue_port_ne _ hq']
    rfl
  · have hsame : s.sameOutside ((((s.modRecord r (fun c => { c with attempts := c.attempts + 1 })).enqueue p (.name r)).change r
        (fun c => { c.withoutRanging with state := .named }))) :=
      (s.modRecord_sameOutside r _).trans ((State.enqueue_sameOutside _ p _).trans (State.change_sameOutside _ r _))
    refine (hsame.trans (State.modPort_sameOutside _ p _)).eq_of_changed ?_
    rw [State.modPort_changed, State.change_changed, State.enqueue_changed, s.modRecord_changed]

end Sys2Proof.Machine
end

section
/-! REDISCOVER (R129). -/

namespace Sys2Proof.Machine

variable (s : State)

/-- What re-entry leaves in a record: NAMED without its round trip, its attempts, rounds and misses gone (R92, R129). -/
def Record.reentered (c : Record) (cause : Cause) (heard : Option Bool) : Record :=
  { c.withoutRanging with
    attempts := 0
    rounds := 0
    misses := 0
    levelable := if heard.isSome then heard else c.levelable
    lastHeard := if heard.isSome then none else c.lastHeard
    state := .named
    cause := cause }

/-- Re-entry with or without a HELLO: SHUT where the record was ACTIVE, NAME, an entry at the tail, and the record named (R92, R129). -/
theorem State.reenter_eq {p r : Nat} (hp : p < 4) (hr : r < 480) (hv : s.verifies r = true) {named : List Descriptor}
    (hnamed : named = (if (s.record r).state = .active then [.shut r] else []) ++ [.name r]) (cause : Cause)
    (heard : Option Bool) :
    s.reenter p r cause heard =
      ((s.modPort p (fun q => { q.offered named with
        activation := q.activation ++ [{ record := r, phase := .awaitEcho }] })).freshRecord r
        (Record.reentered { s.record r with
          outstanding := (s.record r).outstanding + min named.length (64 - (s.port p).outbound.length) } cause
          heard)).noteChanged r := by
  have hnames : ∀ d ∈ named, d.names = some r := by
    subst hnamed
    split <;> simp [Descriptor.names]
  have hqueued : named.foldl (fun t d => t.enqueue p d) s =
      (if (s.record r).state = .active then s.enqueue p (.shut r) else s).enqueue p (.name r) := by
    subst hnamed
    split <;> rfl
  rw [State.reenter, ← hqueued]
  exact s.enqueues_change hp hr hv hnames _ _

/-- Checks 5 to 8 of REDISCOVER on a ranged record that the link may act on: BUSY or none (R129, R172). -/
theorem rediscoverCheck_ranged {l : Link} {n p : Nat} {c : Record} (hport : p = c.port) (hranged : c.state.ranged = true)
    (hpin : l = .host ∨ c.pinned = false) :
    rediscoverCheck l n s c =
      if (s.port p).activation.length < 8 ∧ (s.port p).changeover.reference ≠ some n then none else some .busy := by
  have hcraft : craftPinned l c = false := by
    rw [← Bool.not_eq_true, craftPinned_iff]
    rcases hpin with rfl | hpin <;> simp [*]
  subst hport
  by_cases hroom : (s.port c.port).activation.length < 8 <;>
    simp [rediscoverCheck, hranged, hcraft, State.activationRoom, Config.activationLimit, State.isReference, hroom]

/-- Settles O30: the record, the port and the frame of the re-entry, and the two answers. -/
theorem rediscoverStartsAgain : Obligations.RediscoverStartsAgain := by
  rintro l tag r s n p c named hr hperm ⟨hn, hv⟩ rfl rfl hport hp hranged hpin hnamed
  have hcheck := rediscoverCheck_ranged s (n := r.toNat) hport hranged hpin
  refine ⟨fun hfree => ?_, fun hbusy => ?_⟩
  · have ht := s.reenter_eq hp hn hv hnamed .restarted none
    have hexec := exec_accepted s (tag := tag) (c := .rediscover r) (fun _ => rfl) hr hperm hn hv rfl
      (hcheck.trans (if_pos hfree)) ((congrArg (s.reenter · r.toNat .restarted none) hport.symm).trans ht)
    rw [State.noteChanged_record, State.freshRecord_record_self _ hn] at hexec
    refine ⟨_, hexec, ?_, ?_, ?_, fun m hm => ?_, fun q hq => ?_, ?_, ?_⟩
    · rw [State.replied_record, State.noteChanged_record, State.freshRecord_record_self _ hn]
      rfl
    · rw [State.replied_verifies, State.noteChanged_verifies, State.freshRecord_verifies_self _ hn]
    · rw [State.replied_port, State.noteChanged_port, State.freshRecord_port, s.modPort_port_self hp]
    · rw [State.replied_stored, State.noteChanged_stored, State.freshRecord_stored_ne _ (by simpa using hm), s.modPort_stored]
    · rw [State.replied_port, State.noteChanged_port, State.freshRecord_port, s.modPort_port_ne (by simpa using hq)]
    · rw [State.replied_replies, State.noteChanged_link, State.freshRecord_link, s.modPort_link]
      rfl
    · cases l <;> rfl
  · exact exec_refused s (c := .rediscover r) (fun _ => rfl) hr hperm hn hv rfl
      (hcheck.trans (if_neg fun ⟨hroom, href⟩ => hbusy.elim (Nat.not_le.mpr hroom) href))

end Sys2Proof.Machine
end

section
/-! The level that a close evaluates (R107, R110, R111, R121, R123, R125, R127), and the round trip it records (R79, R102). -/

namespace Sys2Proof.Machine

variable (s : State)

/-! ### The calculator: correction and finish (R107, R110) -/

/-- No levelling round can follow a code: the terminal cannot be levelled, has had its two rounds, or stands at the end of its indexes
(R107, R121). -/
def Record.stuckAt (c : Record) (cfg : PortConfig) (code : Nat) : Prop :=
  c.levelable ≠ some true ∨ 2 ≤ c.rounds ∨ (code < cfg.lo ∧ 7 ≤ c.levelIndex) ∨ (cfg.lo ≤ code ∧ c.levelIndex = 0)

/-- The index after a correction that changes it: up from below the window, down from above it (R107). -/
def correctedTo (cfg : PortConfig) (code old index : Nat) : Prop :=
  (code < cfg.lo ∧ old < 7 ∧ index = old + min ((cfg.lo - code + 7) / 8) (7 - old))
    ∨ (cfg.lo ≤ code ∧ cfg.hi < code ∧ 0 < old ∧ index = old - min ((code - cfg.hi + 7) / 8) old)

theorem Record.isLevelable_iff {c : Record} : c.isLevelable = true ↔ c.levelable = some true := by
  cases h : c.levelable <;> simp [Record.isLevelable, h]

section
variable {cfg : PortConfig} {code : Nat}

theorem levelCorrection_inside {index : Nat} {levelable : Bool} (h : code = 0 ∨ (cfg.lo ≤ code ∧ code ≤ cfg.hi)) :
    (levelCorrection cfg code index levelable).needed = false := by
  unfold levelCorrection
  rcases h with h | ⟨hlo, hhi⟩
  · simp [h]
  · by_cases h0 : code = 0 <;> simp [h0, Nat.not_lt.mpr hlo, hhi]

theorem levelCorrection_below (hpos : 0 < code) (hlo : code < cfg.lo) (index : Nat) (levelable : Bool) :
    levelCorrection cfg code index levelable =
      { needed := true
        applied := if levelable then min ((cfg.lo - code + 7) / 8) (7 - index) else 0
        index := index + if levelable then min ((cfg.lo - code + 7) / 8) (7 - index) else 0 } := by
  simp [levelCorrection, ceilDiv, Nat.ne_of_gt hpos, hlo]

theorem levelCorrection_above (hpos : 0 < code) (hlo : cfg.lo ≤ code) (hhi : cfg.hi < code) (index : Nat) (levelable : Bool) :
    levelCorrection cfg code index levelable =
      { needed := true
        applied := if levelable then min ((code - cfg.hi + 7) / 8) index else 0
        index := index - if levelable then min ((code - cfg.hi + 7) / 8) index else 0 } := by
  simp [levelCorrection, ceilDiv, Nat.ne_of_gt hpos, Nat.not_lt.mpr hlo, Nat.not_le.mpr hhi]

/-- Of the code 0, a code inside the window and a record that is stuck no round follows (R107, R121). -/
theorem levelCorrection_no_round {c : Record} (h : code = 0 ∨ (cfg.lo ≤ code ∧ code ≤ cfg.hi) ∨ c.stuckAt cfg code) :
    ¬ ((levelCorrection cfg code c.levelIndex c.isLevelable).needed
      ∧ 0 < (levelCorrection cfg code c.levelIndex c.isLevelable).applied ∧ c.rounds < 2) := by
  rintro ⟨hneeded, happlied, hrounds⟩
  have houtside : ¬ (code = 0 ∨ (cfg.lo ≤ code ∧ code ≤ cfg.hi)) := fun hin => by
    rw [levelCorrection_inside hin] at hneeded
    cases hneeded
  have hstuck : c.stuckAt cfg code := (or_assoc.mpr h).resolve_left houtside
  have hlevelable : c.levelable ≠ some true → c.isLevelable = false := fun hl => by
    rwa [← Bool.not_eq_true, Record.isLevelable_iff]
  have hpos : 0 < code := by omega
  by_cases hlo : code < cfg.lo
  · rw [levelCorrection_below hpos hlo] at happlied
    rcases hstuck with h | h | ⟨-, h⟩ | ⟨h, -⟩
    · simp [hlevelable h] at happlied
    · omega
    · simp [Nat.sub_eq_zero_of_le h] at happlied
    · omega
  · rw [levelCorrection_above hpos (by omega) (by omega)] at happlied
    rcases hstuck with h | h | ⟨h, -⟩ | ⟨-, h⟩
    · simp [hlevelable h] at happlied
    · omega
    · omega
    · simp [h] at happlied

theorem levelCorrection_corrects {old index : Nat} (hpos : 0 < code) (h : correctedTo cfg code old index) :
    ∃ n, 0 < n ∧ levelCorrection cfg code old true = { needed := true, applied := n, index := index } := by
  rcases h with ⟨hlo, hold, rfl⟩ | ⟨hlo, hhi, hold, rfl⟩
  · exact ⟨min ((cfg.lo - code + 7) / 8) (7 - old), by omega, levelCorrection_below hpos hlo old true⟩
  · exact ⟨min ((code - cfg.hi + 7) / 8) old, by omega, levelCorrection_above hpos hlo hhi old true⟩

/-- A level inside the window, or outside it and still serviceable, finishes with the condition of its side (R110). -/
theorem finishCondition_served (hpos : 0 < code)
    (h : (cfg.lo ≤ code ∧ code ≤ cfg.hi) ∨ (cfg.floor ≤ code ∧ code ≤ cfg.ceiling)) :
    finishCondition cfg code = some (if code < cfg.lo then .weak else if code ≤ cfg.hi then .normal else .hot) := by
  have h0 : code ≠ 0 := by omega
  unfold finishCondition
  by_cases hlo : code < cfg.lo
  · have hfloor : cfg.floor ≤ code := by omega
    simp [h0, hlo, Nat.not_le.mpr hlo, hfloor]
  · by_cases hhi : code ≤ cfg.hi
    · simp [h0, hlo, Nat.le_of_not_lt hlo, hhi]
    · have hceiling : code ≤ cfg.ceiling := by omega
      simp [h0, hlo, hhi, Nat.lt_of_not_le hhi, hceiling]

/-- A level code of 0, below the floor or above the ceiling is UNUSABLE (R110). -/
theorem finishCondition_unusable
    (h : code = 0 ∨ (code < cfg.lo ∧ code < cfg.floor ∧ code ≤ cfg.hi) ∨ (cfg.lo ≤ code ∧ cfg.hi < code ∧ cfg.ceiling < code)) :
    finishCondition cfg code = none := by
  unfold finishCondition
  rcases h with h | ⟨hlo, hfloor, hhi⟩ | ⟨hlo, hhi, hceiling⟩
  · simp [h]
  · simp [Nat.not_le.mpr hlo, Nat.not_le.mpr hfloor, Nat.not_lt.mpr hhi]
  · simp [Nat.not_le.mpr hhi, Nat.not_lt.mpr hlo, Nat.not_le.mpr hceiling]
end

/-! ### A record stored afresh, then changed and named by descriptors (R77, R162) -/

theorem State.freshRecord_modRecord {n : Nat} (hn : n < 480) (c : Record) (f : Record → Record) :
    (s.freshRecord n c).modRecord n f = s.freshRecord n (f c) := by
  rw [State.modRecord_of_verifies _ (s.freshRecord_verifies_self hn c), s.freshRecord_record_self hn,
    s.freshRecord_freshRecord]

/-- Record `n` enters the changed set, if `note` says so (R5). -/
def State.noted (s : State) (n : Nat) (note : Bool) : State := if note then s.noteChanged n else s

theorem State.noted_modPort (n p : Nat) (note : Bool) (f : Port → Port) :
    (s.noted n note).modPort p f = (s.modPort p f).noted n note := by
  cases note <;> rfl

theorem State.noted_freshRecord (n m : Nat) (note : Bool) (c : Record) :
    (s.noted n note).freshRecord m c = (s.freshRecord m c).noted n note := by
  cases note <;> rfl

theorem State.noted_port (n p : Nat) (note : Bool) : (s.noted n note).port p = s.port p := by
  cases note <;> rfl

/-- Descriptors offered after their record was stored afresh: one change of the port and one of the record (R4, R77). -/
theorem State.freshRecord_enqueues {p r : Nat} (hp : p < 4) (hr : r < 480) {ds : List Descriptor}
    (hd : ∀ d ∈ ds, d.names = some r) (c : Record) (note : Bool) :
    ds.foldl (fun t d => t.enqueue p d) ((s.freshRecord r c).noted r note) =
      ((s.modPort p (fun q => q.offered ds)).freshRecord r
        { c with outstanding := c.outstanding + min ds.length (64 - (s.port p).outbound.length) }).noted r note := by
  have hrecord : ((s.freshRecord r c).noted r note).record r = c := by
    cases note <;> exact s.freshRecord_record_self hr c
  have hv : ((s.freshRecord r c).noted r note).verifies r = true := by
    cases note <;> exact s.freshRecord_verifies_self hr c
  rw [State.enqueues_of_verifies _ hp hr hd hv, hrecord, State.noted_modPort, State.noted_freshRecord, State.noted_port,
    State.freshRecord_modPort, State.freshRecord_freshRecord]
  rfl

/-! ### The round trip recorded (R79, R102) -/

/-- Record `r` of port `p` takes the content `c` with the SET DELAY of R79, where it is sent, in its count. -/
def State.withSent (s : State) (p r : Nat) (sent : List Descriptor) (c : Record) : State :=
  (s.modPort p (fun q => q.offered sent)).freshRecord r { c with outstanding := c.outstanding + sent.length }

theorem State.withSent_nil (p r : Nat) (c : Record) : s.withSent p r [] c = s.freshRecord r c := by
  rw [State.withSent, s.modPort_id _ (Port.offered_nil _)]
  rfl

/-- Nothing is queued on a port whose queue is full (R79). -/
theorem State.fillSetDelay_full {p : Nat} (h : 64 ≤ (s.port p).outbound.length) : s.fillSetDelay p = s :=
  eachNumber_same s fun _ _ => s.queueSetDelay_none (.inl h)

/-- The one WAITING record of a port takes the place its queue has (R79). -/
theorem State.fillSetDelay_one {p r : Nat} (hone : ∀ n, n ∈ s.waiting p ↔ n = r)
    (hroom : (s.port p).outbound.length < 64) (hfree : s.setDelayQueued allPorts r = false) :
    s.fillSetDelay p = s.serve p r := by
  have hlist : s.waiting p = [r] := List.perm_singleton.mp
    ((List.perm_ext_iff_of_nodup (s.waiting_nodup p) (List.nodup_singleton r)).mpr (by simpa using hone))
  rw [State.fillSetDelay, hlist, eachNumber_cons, eachNumber_nil, s.queueSetDelay_room hroom hfree]
  rfl

theorem State.serve_freshRecord {p r : Nat} (hr : r < 480) (hroom : (s.port p).outbound.length < 64) (c : Record) :
    (s.freshRecord r c).serve p r = s.withSent p r [.setDelay r] { c with delaySync := .queued } := by
  have hport : s.modPort p (fun q => q.offered [.setDelay r])
      = s.modPort p (fun q => { q with outbound := q.outbound ++ [.setDelay r] }) :=
    s.modPort_congr (Port.offered_room hroom _)
  rw [State.serve, State.push_names _ rfl, State.freshRecord_modPort, State.freshRecord_modRecord _ hr,
    State.freshRecord_modRecord _ hr, State.withSent, hport]
  rfl

/-- A SET DELAY that is sent has its place in the queue (R79). -/
theorem setDelay_length_le {n r : Nat} {sent : List Descriptor} (h : sent = if n < 64 then [.setDelay r] else []) :
    sent.length ≤ 64 - n := by
  subst h
  split
  · rw [List.length_singleton]
    omega
  · exact Nat.zero_le _

/-- A new EqD of a record without a SET DELAY: it is sent where the queue has room, and the record waits where it has none (R79). -/
theorem State.recordRanging_synced {p r : Nat} (hr : r < 480) {c : Record} (hsync : c.delaySync = .synced)
    (hport : c.port = p) (hfree : s.setDelayQueued allPorts r = false)
    (halone : 64 ≤ (s.port p).outbound.length
      ∨ ∀ n, n < 480 → (s.record n).port = p → (s.record n).delaySync ≠ .waiting)
    {sent : List Descriptor} (hsent : sent = if (s.port p).outbound.length < 64 then [.setDelay r] else []) (g : Ranging) :
    (s.freshRecord r c).recordRanging p r g = s.withSent p r sent { c with
      ranging := some g
      delaySync := if (s.port p).outbound.length < 64 then .queued else .waiting } := by
  have hwaits : c.withRanging g = { c with ranging := some g, delaySync := .waiting } := by
    rw [Record.withRanging, hsync]
    rfl
  rw [State.recordRanging, s.freshRecord_modRecord hr, hwaits]
  by_cases hroom : (s.port p).outbound.length < 64
  · have hone : ∀ n, n ∈ (s.freshRecord r { c with ranging := some g, delaySync := .waiting }).waiting p ↔ n = r := by
      intro n
      rw [State.mem_waiting]
      by_cases hn : n = r
      · subst hn
        simp [s.freshRecord_record_self hr, hr, hport]
      · rw [State.record, s.freshRecord_stored_ne hn]
        exact iff_of_false (fun ⟨hlt, hp, hw⟩ => halone.elim (Nat.not_le.mpr hroom) fun h => h n hlt hp hw) hn
    rw [State.fillSetDelay_one _ hone hroom hfree, s.serve_freshRecord hr hroom, hsent, if_pos hroom, if_pos hroom]
  · rw [State.fillSetDelay_full (s.freshRecord r _) (Nat.le_of_not_lt hroom), hsent, if_neg hroom, if_neg hroom, s.withSent_nil]

/-! ### Finish and levelling round (R121, R123, R125, R127) -/

/-- What a levelling round leaves in a record: LEVELLING at its new index, one round more (R121). -/
def Record.levelled (c : Record) (cfg : PortConfig) (code index : Nat) : Record :=
  { c with
    state := .levelling
    levelIndex := index
    rounds := c.rounds + 1
    levelCondition := serviceCondition cfg code }

section
variable {s} {p r : Nat} {cfg : PortConfig} {c : Record} {code : Nat} (hp : p < 4) (hr : r < 480)
  (hcfg : (s.port p).config = cfg)
include hr hcfg

/-- A finish on a level that is UNUSABLE fails the activation (R110, R125). -/
theorem State.finish_unusable (hcond : finishCondition cfg code = none) :
    (s.freshRecord r c).finish p r code =
      (s.freshRecord r { c with levelCondition := serviceCondition cfg code }).failActivation p r .failedLevel := by
  rw [State.finish, State.freshRecord_port, hcfg, hcond]
  simp only [State.setCondition, s.freshRecord_modRecord hr, State.freshRecord_port, hcfg]

include hp

/-- A finish that serves: the entry removed, the record QUERY, ACTIVE with an OPEN, or READY (R125, R127). -/
theorem State.finish_served {cond : LevelCondition} (hcond : finishCondition cfg code = some cond) {st : RecState}
    {opens : List Descriptor}
    (hst : st = if insideBand c.band c.dropLength = false then .query else if c.autoAdmit then .active else .ready)
    (hopens : opens = if st = .active then [.openDrop r] else []) :
    (s.freshRecord r c).finish p r code =
      ((s.modPort p (fun q => { q.offered opens with
        activation := q.activation.filter (fun e => e.record ≠ r) })).freshRecord r
        { c with
          state := st
          cause := if st = .query then .queried else .activated
          levelCondition := cond
          failures := 0
          misses := 0
          outstanding := c.outstanding + min opens.length (64 - (s.port p).outbound.length) }).noteChanged r := by
  have hnames : ∀ d ∈ opens, d.names = some r := by
    subst hopens
    split <;> simp [Descriptor.names]
  have hended : (s.freshRecord r c).finish p r code =
      opens.foldl (fun t d => t.enqueue p d) (((s.removeEntry p r).freshRecord r
        { c with
          state := st
          cause := if st = .query then .queried else .activated
          levelCondition := cond
          failures := 0
          misses := 0 }).noted r true) := by
    rw [State.finish, State.freshRecord_port, hcfg, hcond]
    simp only [s.freshRecord_record_self hr, State.removeEntry, State.freshRecord_modPort, State.freshRecord_change _ hr]
    cases hin : insideBand c.band c.dropLength
    · simp [hst, hopens, hin, State.noted]
    · cases hauto : c.autoAdmit <;> simp [hst, hopens, hin, hauto, State.noted]
  rw [hended, State.freshRecord_enqueues _ hp hr hnames, State.removeEntry, s.modPort_port_self hp, s.modPort_modPort]
  rfl

/-- A levelling round: LEVEL, the record LEVELLING at its new index, its entry in AWAIT_VERIFY; an ECHO close notes the change (R121,
R123; log entry 24). -/
theorem State.levellingRound_eq (index : Nat) (first : Bool) :
    (s.freshRecord r c).levellingRound p r code index first =
      ((s.modPort p (fun q => { q.offered [.level r] with
        activation := q.activation.map (fun e => if e.record = r then { e with phase := .awaitVerify } else e) })).freshRecord r
        { c.levelled cfg code index with
          outstanding := c.outstanding + min 1 (64 - (s.port p).outbound.length) }).noted r first := by
  have hnames : ∀ d ∈ [Descriptor.level r], d.names = some r := by simp [Descriptor.names]
  have hqueued := s.freshRecord_enqueues hp hr hnames (c.levelled cfg code index) first
  rw [List.foldl_cons, List.foldl_nil] at hqueued
  have hupdated : (s.freshRecord r c).levellingRound p r code index first =
      (((s.freshRecord r (c.levelled cfg code index)).noted r first).enqueue p (.level r)).setPhase p r .awaitVerify := by
    simp only [State.levellingRound, State.freshRecord_port, hcfg, s.freshRecord_change hr, s.freshRecord_modRecord hr]
    cases first <;> rfl
  rw [hupdated, hqueued, State.setPhase, State.noted_modPort, State.freshRecord_modPort, s.modPort_modPort]
  rfl
end

/-! ### The level evaluated behind a round trip (R121, R123) -/

section
variable {s} {p r : Nat} {cfg : PortConfig} {c : Record} {sent : List Descriptor} {code : Nat} {first : Bool} (hp : p < 4)
  (hr : r < 480) (hcfg : (s.port p).config = cfg)
include hp

/-- Descriptors offered behind the SET DELAY are counted with it (R4, R77). -/
theorem State.sent_count (hsent : sent.length ≤ 64 - (s.port p).outbound.length) (k : Nat) (ds : List Descriptor) :
    k + sent.length + min ds.length (64 - ((s.modPort p (fun q => q.offered sent)).port p).outbound.length)
      = k + min (sent ++ ds).length (64 - (s.port p).outbound.length) := by
  rw [s.modPort_port_self hp, Port.offered_outbound_length, List.length_append]
  omega

include hcfg

theorem State.sent_config : ((s.modPort p (fun q => q.offered sent)).port p).config = cfg := by
  rw [s.modPort_port_self hp]
  exact hcfg

include hr

theorem State.evaluateLevel_finishes (h : code = 0 ∨ (cfg.lo ≤ code ∧ code ≤ cfg.hi) ∨ c.stuckAt cfg code) :
    (s.withSent p r sent c).evaluateLevel p r code first = (s.withSent p r sent c).finish p r code := by
  rw [State.evaluateLevel, State.withSent, State.freshRecord_record_self _ hr, State.freshRecord_port,
    State.sent_config hp hcfg]
  exact if_neg (levelCorrection_no_round (c := c) h)

theorem State.evaluateLevel_rounds {index : Nat} (hpos : 0 < code) (hlevelable : c.levelable = some true)
    (hrounds : c.rounds < 2) (hindex : correctedTo cfg code c.levelIndex index) :
    (s.withSent p r sent c).evaluateLevel p r code first = (s.withSent p r sent c).levellingRound p r code index first := by
  obtain ⟨n, hn, hcorrection⟩ := levelCorrection_corrects hpos hindex
  rw [State.evaluateLevel, State.withSent, State.freshRecord_record_self _ hr, State.freshRecord_port,
    State.sent_config hp hcfg]
  have hl : ({ c with outstanding := c.outstanding + sent.length } : Record).isLevelable = true :=
    Record.isLevelable_iff.mpr hlevelable
  simp only [hl, hcorrection]
  exact if_pos ⟨trivial, hn, hrounds⟩

/-- A level that serves finishes the activation, with its SET DELAY and its OPEN offered one after the other (R77, R125, R127). -/
theorem State.withSent_served (hsent : sent.length ≤ 64 - (s.port p).outbound.length) (hpos : 0 < code)
    (h : (cfg.lo ≤ code ∧ code ≤ cfg.hi) ∨ (c.stuckAt cfg code ∧ cfg.floor ≤ code ∧ code ≤ cfg.ceiling)) {now : Ranging}
    (hnow : c.ranging = some now) {st : RecState} {opens : List Descriptor}
    (hst : st = if insideBand c.band now.length = false then .query else if c.autoAdmit then .active else .ready)
    (hopens : opens = if st = .active then [.openDrop r] else []) :
    (s.withSent p r sent c).evaluateLevel p r code first =
      ((s.modPort p (fun q => { q.offered (sent ++ opens) with
        activation := q.activation.filter (fun e => e.record ≠ r) })).freshRecord r
        { c with
          state := st
          cause := if st = .query then .queried else .activated
          levelCondition := if code < cfg.lo then .weak else if code ≤ cfg.hi then .normal else .hot
          failures := 0
          misses := 0
          outstanding := c.outstanding + min (sent ++ opens).length (64 - (s.port p).outbound.length) }).noteChanged r := by
  have hcond := finishCondition_served hpos (h.imp id And.right)
  have hlength : c.dropLength = now.length := by rw [Record.dropLength, hnow]; rfl
  rw [← hlength] at hst
  rw [State.evaluateLevel_finishes hp hr hcfg (.inr (h.imp id And.left)), State.withSent,
    State.finish_served hp hr (State.sent_config hp hcfg) hcond (by exact hst) hopens, s.modPort_modPort]
  simp only [State.sent_count hp hsent]
  simp only [← Port.offered_offered]
  rfl

/-- A level that can be corrected begins a levelling round, with its SET DELAY and its LEVEL offered one after the other (R77, R121,
R123). -/
theorem State.withSent_levelled (hsent : sent.length ≤ 64 - (s.port p).outbound.length) {index : Nat} (hpos : 0 < code)
    (hlevelable : c.levelable = some true) (hrounds : c.rounds < 2) (hindex : correctedTo cfg code c.levelIndex index) :
    (s.withSent p r sent c).evaluateLevel p r code first =
      ((s.modPort p (fun q => { q.offered (sent ++ [.level r]) with
        activation := q.activation.map (fun e => if e.record = r then { e with phase := .awaitVerify } else e) })).freshRecord r
        { c.levelled cfg code index with
          outstanding := c.outstanding + min (sent.length + 1) (64 - (s.port p).outbound.length) }).noted r first := by
  have hcount := State.sent_count hp hsent c.outstanding [.level r]
  rw [List.length_append, List.length_singleton] at hcount
  rw [State.evaluateLevel_rounds hp hr hcfg hpos hlevelable hrounds hindex, State.withSent,
    State.levellingRound_eq hp hr (State.sent_config hp hcfg), s.modPort_modPort]
  simp only [hcount]
  simp only [← Port.offered_offered]
  rfl

/-- A level that is UNUSABLE fails the activation behind the SET DELAY (R110, R126). -/
theorem State.withSent_unusable
    (h : code = 0 ∨ (c.stuckAt cfg code ∧ ((code < cfg.lo ∧ code < cfg.floor ∧ code ≤ cfg.hi)
      ∨ (cfg.lo ≤ code ∧ cfg.hi < code ∧ cfg.ceiling < code)))) :
    (s.withSent p r sent c).evaluateLevel p r code first =
      (s.withSent p r sent { c with levelCondition := serviceCondition cfg code }).failActivation p r .failedLevel := by
  have hcond := finishCondition_unusable (h.imp id And.right)
  rw [State.evaluateLevel_finishes hp hr hcfg (h.imp id fun hs => .inr hs.1), State.withSent,
    State.finish_unusable hr (State.sent_config hp hcfg) hcond]
  rfl
end

end Sys2Proof.Machine
end

section
/-! ECHO and VERIFY closes (R101, R104, R105, R118 to R123). -/

namespace Sys2Proof.Machine

variable (s : State)

/-! ### What is left of the part when a window is removed (R65) -/

/-- `base` reads as `s` does wherever a close reads it: the window and the gap counter of port `p` may differ. -/
structure State.Unwindowed (s : State) (p : Nat) (base : State) : Prop where
  config : (base.port p).config = (s.port p).config
  loopOffset : (base.port p).loopOffset = (s.port p).loopOffset
  outbound : (base.port p).outbound = (s.port p).outbound
  phaseOf : ∀ r, base.phaseOf p r = s.phaseOf p r
  record : ∀ r, base.record r = s.record r
  verifies : ∀ r, base.verifies r = s.verifies r
  setDelayQueued : ∀ r, base.setDelayQueued allPorts r = s.setDelayQueued allPorts r

theorem State.dropWindow_unwindowed {p : Nat} (hp : p < 4) : s.Unwindowed p (s.dropWindow p) := by
  have hport := s.modPort_port_self hp (fun q => { q with window := none, gapCounter := 0 })
  refine ⟨?_, ?_, ?_, s.dropWindow_phaseOf hp, fun _ => rfl, fun _ => rfl, State.setDelayQueued_congr fun q _ => ?_⟩
  · rw [State.dropWindow, hport]
  · rw [State.dropWindow, hport]
  · rw [State.dropWindow, hport]
  · by_cases hq : q = p
    · subst hq
      rw [State.dropWindow, hport]
    · rw [State.dropWindow, s.modPort_port_ne hq]

theorem exec_echoClose {p : Lane} {w : OpenWindow} (hh : s.resetHeld = false) (hw : (s.port p.val).window = some w)
    (hk : w.kind = .echo) : exec (.echoClose p) s = .next (State.echoClosed p.val (s.dropWindow p.val) w).settle := by
  change execEchoClose p s = _
  rw [execEchoClose, hh, s.closeOf_open hw hk]
  rfl

theorem exec_verifyClose {p : Lane} {w : OpenWindow} (hh : s.resetHeld = false) (hw : (s.port p.val).window = some w)
    (hk : w.kind = .verify) : exec (.verifyClose p) s = .next (State.verifyClosed p.val (s.dropWindow p.val) w).settle := by
  change execVerifyClose p s = _
  rw [execVerifyClose, hh, s.closeOf_open hw hk]
  rfl

/-! ### The checks of a close (R118) -/

section
variable {s} {p r : Nat} {w : OpenWindow} {phase : Phase} {st : RecState} {captured : Nat → Captured → State}

theorem State.takeActivationClose_cleared (ht : w.target = none) : s.takeActivationClose p w phase st captured = s := by
  rw [State.takeActivationClose, ht]

theorem State.takeActivationClose_damaged (ht : w.target = some r) (hv : s.verifies r = false) :
    s.takeActivationClose p w phase st captured = s.damage r := by
  simp [State.takeActivationClose, ht, hv]

theorem State.takeActivationClose_discarded (ht : w.target = some r) (hv : s.verifies r = true)
    (h : s.phaseOf p r ≠ some phase ∨ (s.record r).state ≠ st) : s.takeActivationClose p w phase st captured = s := by
  have hnot : ¬ (s.phaseOf p r = some phase ∧ (s.record r).state = st) := fun ⟨hphase, hst⟩ => h.elim (· hphase) (· hst)
  simp [State.takeActivationClose, ht, hv, hnot]

theorem State.takeActivationClose_unanswered (ht : w.target = some r) (hv : s.verifies r = true)
    (hphase : s.phaseOf p r = some phase) (hst : (s.record r).state = st) (hc : w.captured = none) :
    s.takeActivationClose p w phase st captured = s.attemptFailure p r .failedNoEcho := by
  simp [State.takeActivationClose, ht, hv, hphase, hst, hc]

theorem State.takeActivationClose_captured {e : Captured} (ht : w.target = some r) (hv : s.verifies r = true)
    (hphase : s.phaseOf p r = some phase) (hst : (s.record r).state = st) (hc : w.captured = some e) :
    s.takeActivationClose p w phase st captured = captured r e := by
  simp [State.takeActivationClose, ht, hv, hphase, hst, hc]
end

/-! ### The calculator: round trips and drifts (R101, R104) -/

theorem reachOf_early {teq : Nat} {rtt : Int} (h : rtt < 0) : reachOf teq rtt = .early := if_pos h

theorem reachOf_inReach {teq x : Nat} (h : x ≤ teq) : reachOf teq x = .inReach (rangingOf teq x) := by
  simp [reachOf, h]

theorem reachOf_beyond {teq : Nat} {rtt : Int} (h : (teq : Int) < rtt) : reachOf teq rtt = .beyond := by
  have hlate : ¬ rtt < 0 := by omega
  rw [reachOf, if_neg hlate, if_neg (Int.not_le.mpr h)]

theorem classOf_hold {cfg : PortConfig} {drift : Int} (h : drift.natAbs ≤ cfg.hold) : classOf cfg drift = .hold := if_pos h

theorem classOf_correct {cfg : PortConfig} {drift : Int} (h : cfg.hold < drift.natAbs) (hlimit : drift.natAbs ≤ cfg.limit) :
    classOf cfg drift = .correct := by
  rw [classOf, if_neg (Nat.not_le.mpr h), if_pos hlimit]

theorem classOf_excess {cfg : PortConfig} {drift : Int} (h : cfg.hold < drift.natAbs) (hlimit : cfg.limit < drift.natAbs) :
    classOf cfg drift = .excess := by
  rw [classOf, if_neg (Nat.not_le.mpr h), if_neg (Nat.not_le.mpr hlimit)]

/-! ### A captured result, by what the calculator says of it (R120, R122) -/

/-- The record with the last level code and the level condition of a captured code (R111, R120). -/
def State.weighed (s : State) (p r code : Nat) : State :=
  s.freshRecord r { s.record r with
    lastLevel := code
    levelCondition := serviceCondition (s.port p).config code }

section
variable {s} {p r : Nat} {e : Captured} (hr : r < 480) (hv : s.verifies r = true)
include hv

theorem State.setLastLevel_of_verifies (code : Nat) :
    s.setLastLevel r code = s.freshRecord r { s.record r with lastLevel := code } := s.modRecord_of_verifies hv _

include hr

theorem State.setCondition_setLastLevel (code : Nat) : (s.setLastLevel r code).setCondition p r code = s.weighed p r code := by
  rw [State.setLastLevel_of_verifies hv, State.setCondition, s.freshRecord_modRecord hr]
  rfl

theorem State.echoCaptured_early (h : roundTrip (s.port p) e.offset 0 < 0) :
    s.echoCaptured p r e = (s.weighed p r e.level).attemptFailure p r .failedEarly := by
  rw [← State.setCondition_setLastLevel hr hv, State.echoCaptured]
  simp only [State.setLastLevel, State.modRecord_port, reachOf_early h]

theorem State.echoCaptured_beyond (h : ((s.port p).config.teq : Int) < roundTrip (s.port p) e.offset 0) :
    s.echoCaptured p r e = (s.weighed p r e.level).failActivation p r .failedReach := by
  rw [← State.setCondition_setLastLevel hr hv, State.echoCaptured]
  simp only [State.setLastLevel, State.modRecord_port, reachOf_beyond h]

omit hr in
theorem State.echoCaptured_inReach {x : Nat} (hx : roundTrip (s.port p) e.offset 0 = x) (h : x ≤ (s.port p).config.teq) :
    s.echoCaptured p r e =
      ((s.freshRecord r { s.record r with lastLevel := e.level }).recordRanging p r
        (rangingOf (s.port p).config.teq x)).evaluateLevel p r e.level true := by
  rw [← State.setLastLevel_of_verifies hv, State.echoCaptured]
  simp only [State.setLastLevel, State.modRecord_port, hx, reachOf_inReach h]

section
variable {g : Ranging} {drift : Int} (hg : (s.record r).ranging = some g) (hdrift : driftOf (s.port p) e.offset g = drift)
include hg

omit hv in
theorem State.setLastLevel_ranging (code : Nat) : ((s.setLastLevel r code).record r).ranging = some g := by
  rw [State.setLastLevel, s.modRecord_record_self hr]
  exact hg

include hdrift

theorem State.verifyCaptured_hold (hclass : classOf (s.port p).config drift = .hold) :
    s.verifyCaptured p r e =
      (s.freshRecord r { s.record r with lastLevel := e.level }).evaluateLevel p r e.level false := by
  rw [← State.setLastLevel_of_verifies hv, State.verifyCaptured]
  simp only [State.setLastLevel_ranging hr hg]
  simp only [State.setLastLevel, State.modRecord_port, hdrift, hclass]

theorem State.verifyCaptured_excess (hclass : classOf (s.port p).config drift = .excess) :
    s.verifyCaptured p r e = (s.weighed p r e.level).attemptFailure p r .failedDrift := by
  rw [← State.setCondition_setLastLevel hr hv, State.verifyCaptured]
  simp only [State.setLastLevel_ranging hr hg]
  simp only [State.setLastLevel, State.modRecord_port, hdrift, hclass]

variable (hclass : classOf (s.port p).config drift = .correct)
include hclass

theorem State.verifyCaptured_beyond (h : ((s.port p).config.teq : Int) < g.roundTrip + drift) :
    s.verifyCaptured p r e = (s.weighed p r e.level).failActivation p r .failedReach := by
  rw [← State.setCondition_setLastLevel hr hv, State.verifyCaptured]
  simp only [State.setLastLevel_ranging hr hg]
  simp only [State.setLastLevel, State.modRecord_port, hdrift, hclass, shifted, reachOf_beyond h]

theorem State.verifyCaptured_early (h : (g.roundTrip : Int) + drift < 0) :
    s.verifyCaptured p r e = (s.weighed p r e.level).attemptFailure p r .failedEarly := by
  rw [← State.setCondition_setLastLevel hr hv, State.verifyCaptured]
  simp only [State.setLastLevel_ranging hr hg]
  simp only [State.setLastLevel, State.modRecord_port, hdrift, hclass, shifted, reachOf_early h]

theorem State.verifyCaptured_corrected {x : Nat} (hx : (x : Int) = g.roundTrip + drift) (h : x ≤ (s.port p).config.teq) :
    s.verifyCaptured p r e =
      ((s.freshRecord r { s.record r with lastLevel := e.level }).recordRanging p r
        (rangingOf (s.port p).config.teq x)).evaluateLevel p r e.level false := by
  rw [← State.setLastLevel_of_verifies hv, State.verifyCaptured]
  simp only [State.setLastLevel_ranging hr hg]
  simp only [State.setLastLevel, State.modRecord_port, hdrift, hclass, shifted, ← hx, reachOf_inReach h]
end
end

/-! ### ECHO closes (R118 to R121) -/

/-- Settles O48: the target's checks, then the captured round trip, and of one in reach the level behind it. -/
theorem echoCloseRangesTheTerminal : Obligations.EchoCloseRangesTheTerminal := by
  rintro p s base w q service hh rfl hw hk hbase rfl
  have hp := p.isLt
  have hreads : s.Unwindowed p.val base := hbase ▸ s.dropWindow_unwindowed hp
  have hexec : exec (.echoClose p) s = .next (State.echoClosed p.val base w).settle := hbase ▸ exec_echoClose s hh hw hk
  clear hbase
  simp only [hexec, ← hreads.config, ← hreads.loopOffset, ← hreads.outbound, ← hreads.phaseOf, ← hreads.record,
    ← hreads.verifies, ← hreads.setDelayQueued]
  refine ⟨fun ht => ?_, ?_⟩
  · rw [State.echoClosed, State.takeActivationClose_cleared ht]
  rintro r c ht hr rfl
  refine ⟨fun hv => ?_, fun hv hout => ?_, fun hv hphase hstate => ⟨fun hnone => ?_, fun e rtt hcaptured hrtt => ?_⟩⟩
  · rw [State.echoClosed, State.takeActivationClose_damaged ht hv]
  · rw [State.echoClosed, State.takeActivationClose_discarded ht hv hout]
  · rw [State.echoClosed, State.takeActivationClose_unanswered ht hv hphase hstate hnone]
  have htrip : roundTrip (base.port p.val) e.offset 0 = rtt := by simp [roundTrip, hrtt]
  have hclosed : State.echoClosed p.val base w = base.echoCaptured p.val r e :=
    State.takeActivationClose_captured ht hv hphase hstate hcaptured
  rw [hclosed]
  refine ⟨fun hearly => ?_, fun hbeyond => ?_,
    fun x g sent heardAt inside stuck hx hreach hg hsync hport hfree halone hsent hheard hinside hstuck => ?_⟩
  · rw [State.echoCaptured_early hr hv (htrip ▸ hearly)]
    rfl
  · rw [State.echoCaptured_beyond hr hv (htrip ▸ hbeyond)]
    rfl
  have hevaluated : base.echoCaptured p.val r e = (base.withSent p.val r sent heardAt).evaluateLevel p.val r e.level true := by
    rw [State.echoCaptured_inReach hv (htrip.trans hx) hreach,
      base.recordRanging_synced hr (by exact hsync) (by exact hport) hfree halone hsent, hheard, hg]
    rfl
  have hroom := setDelay_length_le hsent
  subst hheard hinside hstuck
  rw [hevaluated]
  refine ⟨fun st opens hpos hserves hst hopens => ?_, fun index hpos hlevelable hrounds hindex => ?_, fun hunusable => ?_⟩
    <;> refine congrArg (fun t : State => Host.Outcome.next t.settle) ?_
  · exact State.withSent_served hp hr rfl hroom hpos (by exact hserves) (by rfl) (by exact hst) hopens
  · exact State.withSent_levelled hp hr rfl hroom hpos (by exact hlevelable) (by exact hrounds) (by exact hindex)
  · exact State.withSent_unusable hp hr rfl (by exact hunusable)

/-! ### VERIFY closes (R118, R122, R123) -/

/-- A drift that is held or corrected: the level is evaluated behind the round trip the record then holds (R105, R123). -/
theorem State.verifyCaptured_evaluates {p r : Nat} (hr : r < 480) (hv : s.verifies r = true) {e : Captured}
    {g now : Ranging} {drift : Int} (hg : (s.record r).ranging = some g)
    (hdrift : driftOf (s.port p) e.offset g = drift) {sent : List Descriptor} {heardAt : Record}
    (h : (drift.natAbs ≤ (s.port p).config.hold ∧ now = g ∧ sent = [] ∧ heardAt = { s.record r with lastLevel := e.level })
      ∨ ((s.port p).config.hold < drift.natAbs ∧ drift.natAbs ≤ (s.port p).config.limit
        ∧ now.roundTrip ≤ (s.port p).config.teq ∧ (now.roundTrip : Int) = g.roundTrip + drift
        ∧ now.eqd = (s.port p).config.teq - now.roundTrip ∧ now.length = (now.roundTrip * 817 + 5000) / 10000
        ∧ sent = (if (s.port p).outbound.length < 64 then [.setDelay r] else [])
        ∧ (s.record r).delaySync = .synced ∧ (s.record r).port = p ∧ s.setDelayQueued allPorts r = false
        ∧ (64 ≤ (s.port p).outbound.length ∨ ∀ n, n < 480 → (s.record n).port = p → (s.record n).delaySync ≠ .waiting)
        ∧ heardAt = { s.record r with
            lastLevel := e.level
            ranging := some now
            delaySync := if (s.port p).outbound.length < 64 then .queued else .waiting })) :
    s.verifyCaptured p r e = (s.withSent p r sent heardAt).evaluateLevel p r e.level false
      ∧ sent.length ≤ 64 - (s.port p).outbound.length
      ∧ ∃ sync, heardAt = { s.record r with lastLevel := e.level, ranging := some now, delaySync := sync } := by
  rcases h with ⟨hhold, rfl, rfl, rfl⟩
    | ⟨hbeyond, hlimit, hreach, hnow, heqd, hlength, hsent, hsync, hport, hfree, halone, rfl⟩
  · rw [s.withSent_nil]
    exact ⟨State.verifyCaptured_hold hr hv hg hdrift (classOf_hold hhold), Nat.zero_le _, _, by rw [← hg]⟩
  · have hranging : rangingOf (s.port p).config.teq now.roundTrip = now := by
      rw [rangingOf, ← heqd, ← hlength]
    refine ⟨?_, setDelay_length_le hsent, _, rfl⟩
    rw [State.verifyCaptured_corrected hr hv hg hdrift (classOf_correct hbeyond hlimit) hnow hreach, hranging,
      s.recordRanging_synced hr (by exact hsync) (by exact hport) hfree halone hsent]

/-- Settles O49: the target's checks, then the class of the drift, and of one held or corrected the level behind it. -/
theorem verifyCloseChecksTheDrift : Obligations.VerifyCloseChecksTheDrift := by
  rintro p s base w q service hh rfl hw hk hbase rfl
  have hp := p.isLt
  have hreads : s.Unwindowed p.val base := hbase ▸ s.dropWindow_unwindowed hp
  have hexec : exec (.verifyClose p) s = .next (State.verifyClosed p.val base w).settle := hbase ▸ exec_verifyClose s hh hw hk
  clear hbase
  simp only [hexec, ← hreads.config, ← hreads.loopOffset, ← hreads.outbound, ← hreads.phaseOf, ← hreads.record,
    ← hreads.verifies, ← hreads.setDelayQueued]
  refine ⟨fun ht => ?_, ?_⟩
  · rw [State.verifyClosed, State.takeActivationClose_cleared ht]
  rintro r c ht hr rfl
  refine ⟨fun hv => ?_, fun hv hout => ?_, fun hv hphase hstate => ⟨fun hnone => ?_, fun e g drift hcaptured hg hdrift => ?_⟩⟩
  · rw [State.verifyClosed, State.takeActivationClose_damaged ht hv]
  · rw [State.verifyClosed, State.takeActivationClose_discarded ht hv hout]
  · rw [State.verifyClosed, State.takeActivationClose_unanswered ht hv hphase hstate hnone]
  have hdrift' : driftOf (base.port p.val) e.offset g = drift := hdrift.symm
  have hclosed : State.verifyClosed p.val base w = base.verifyCaptured p.val r e :=
    State.takeActivationClose_captured ht hv hphase hstate hcaptured
  rw [hclosed]
  refine ⟨fun hhold hlimit => ?_, fun hhold hlimit hreach => ?_, fun hhold hlimit hreach => ?_,
    fun now sent heardAt inside stuck hkept hinside hstuck => ?_⟩
  · rw [State.verifyCaptured_excess hr hv hg hdrift' (classOf_excess hhold hlimit)]
    rfl
  · rw [State.verifyCaptured_beyond hr hv hg hdrift' (classOf_correct hhold hlimit) hreach]
    rfl
  · rw [State.verifyCaptured_early hr hv hg hdrift' (classOf_correct hhold hlimit) hreach]
    rfl
  obtain ⟨hevaluated, hroom, sync, hheard⟩ := base.verifyCaptured_evaluates hr hv hg hdrift' hkept
  clear hkept
  subst hheard hinside hstuck
  rw [hevaluated]
  refine ⟨fun st opens hpos hserves hst hopens => ?_, fun index hpos hlevelable hrounds hindex => ?_, fun hunusable => ?_⟩
    <;> refine congrArg (fun t : State => Host.Outcome.next t.settle) ?_
  · exact State.withSent_served hp hr rfl hroom hpos (by exact hserves) (by rfl) (by exact hst) hopens
  · refine (State.withSent_levelled hp hr rfl hroom hpos (by exact hlevelable) (by exact hrounds) (by exact hindex)).trans ?_
    rw [Record.levelled, ← hstate]
    rfl
  · exact State.withSent_unusable hp hr rfl (by exact hunusable)

end Sys2Proof.Machine
end

section
/-! UPKEEP closes (R140 to R146). -/

namespace Sys2Proof.Machine

variable (s : State)

/-! ### Losses and reranges (R144, R146) -/

/-- What a loss leaves in a record: EXPECTED without its drop id, its misses and its round trip (R146). -/
def Record.lostWith (c : Record) (cause : Cause) : Record :=
  { c with
    state := .expected
    cause := cause
    dropId := 0
    misses := 0
    ranging := none
    delaySync := c.delaySync.eqdAbsent }

/-- The part with record `r` of port `p`, then of content `c`, lost: a RELEASE offered, its drop id free, the record EXPECTED (R30,
R146). -/
def State.lostAs (s : State) (p r : Nat) (c : Record) (cause : Cause) : State :=
  ((s.modPort p (fun q =>
    { q.offered [.release p c.dropId] with dropMap := mapErase q.dropMap c.dropId })).freshRecord r
    (c.lostWith cause)).noteChanged r

section
variable {s} {p r : Nat}

theorem State.lose_of_verifies (hv : s.verifies r = true) (hport : (s.record r).port = p) (hd : (s.record r).dropId ≠ 0)
    (cause : Cause) : s.lose r cause = s.lostAs p r (s.record r) cause := by
  have hreleased : s.releaseHeld r = s.modPort p (fun q =>
      { q.offered [.release p (s.record r).dropId] with dropMap := mapErase q.dropMap (s.record r).dropId }) := by
    rw [s.releaseHeld_some hd, hport, State.freeDrop, s.enqueue_release_eq, s.modPort_modPort]
    rfl
  rw [State.lose, hreleased, State.change_of_verifies _ (by exact hv)]
  rfl

variable {c : Record} (hr : r < 480)
include hr

theorem State.lose_freshRecord (hport : c.port = p) (hd : c.dropId ≠ 0) (cause : Cause) :
    (s.freshRecord r c).lose r cause = s.lostAs p r c cause := by
  have hrecord := s.freshRecord_record_self hr c
  rw [State.lose_of_verifies (s.freshRecord_verifies_self hr c) (by rw [hrecord, hport]) (by rwa [hrecord]), hrecord,
    State.lostAs, State.freshRecord_modPort, State.freshRecord_freshRecord, State.lostAs]

/-- A rerange without room in the activation queue is a loss (R144). -/
theorem State.rerange_full (hfull : 8 ≤ (s.port p).activation.length) (hport : c.port = p) (hd : c.dropId ≠ 0) :
    (s.freshRecord r c).rerange p r = s.lostAs p r c .lostReach := by
  have hroom : (s.freshRecord r c).activationRoom p = false := decide_eq_false (Nat.not_lt.mpr hfull)
  rw [State.rerange, hroom, if_neg Bool.false_ne_true, State.lose_freshRecord hr hport hd]

/-- A rerange with room in the activation queue: SHUT where the record was ACTIVE, NAME, an entry at the tail, and the record named
(R144). -/
theorem State.rerange_room (hp : p < 4) (hroom : (s.port p).activation.length < 8) {named : List Descriptor}
    (hnamed : named = (if c.state = .active then [.shut r] else []) ++ [.name r]) :
    (s.freshRecord r c).rerange p r =
      ((s.modPort p (fun q => { q.offered named with
        activation := q.activation ++ [{ record := r, phase := .awaitEcho }] })).freshRecord r
        (Record.reentered { c with outstanding := c.outstanding + min named.length (64 - (s.port p).outbound.length) }
          .reranged none)).noteChanged r := by
  have hroom' : (s.freshRecord r c).activationRoom p = true := decide_eq_true hroom
  have hrecord := s.freshRecord_record_self hr c
  rw [State.rerange, hroom', if_pos rfl,
    State.reenter_eq _ hp hr (s.freshRecord_verifies_self hr c) (hrecord.symm ▸ hnamed), hrecord,
    State.freshRecord_modPort, State.freshRecord_freshRecord, State.freshRecord_port]
end

/-! ### The service level step (R109, R145) -/

section
variable {cfg : PortConfig} {code index : Nat}

/-- No step is made within 8 of the window, for the code 0, for a terminal that is not levelable, or past the last index (R109). -/
theorem serviceStep_stays {levelable : Bool}
    (h : (cfg.lo ≤ code + 8 ∧ code ≤ cfg.hi + 8) ∨ code = 0 ∨ levelable = false
      ∨ (code + 8 < cfg.lo ∧ code ≤ cfg.hi + 8 ∧ 7 ≤ index) ∨ (cfg.lo ≤ code + 8 ∧ cfg.hi + 8 < code ∧ index = 0)) :
    serviceStep cfg code index levelable = none := by
  have hup : ¬ (0 < code ∧ code + 8 < cfg.lo ∧ levelable = true ∧ index < 7) := by
    rintro ⟨hpos, hlo, rfl, hindex⟩
    simp only [Bool.true_eq_false, false_or] at h
    omega
  have hdown : ¬ (cfg.hi + 8 < code ∧ levelable = true ∧ 0 < index) := by
    rintro ⟨hhi, rfl, hindex⟩
    simp only [Bool.true_eq_false, false_or] at h
    omega
  rw [serviceStep, if_neg hup, if_neg hdown]

theorem serviceStep_up (hpos : 0 < code) (hlo : code + 8 < cfg.lo) (hindex : index < 7) :
    serviceStep cfg code index true = some (index + 1) := if_pos ⟨hpos, hlo, rfl, hindex⟩

theorem serviceStep_down (hlo : cfg.lo ≤ code + 8) (hhi : cfg.hi + 8 < code) (hindex : 0 < index) :
    serviceStep cfg code index true = some (index - 1) := by
  rw [serviceStep, if_neg fun ⟨_, h, _⟩ => Nat.not_lt.mpr hlo h, if_pos ⟨hhi, rfl, hindex⟩]
end

/-- The part with record `r` of port `p` at a new level index and a LEVEL offered, where there is a step (R109). -/
def State.levelStepped (s : State) (p r : Nat) : Option Nat → State
  | none => s
  | some index => (s.modRecord r (fun c => { c with levelIndex := index })).enqueue p (.level r)

theorem State.serveLevel_eq (p r code : Nat) :
    s.serveLevel p r code =
      s.levelStepped p r (serviceStep (s.port p).config code (s.record r).levelIndex (s.record r).isLevelable) := by
  rw [State.serveLevel]
  cases serviceStep (s.port p).config code (s.record r).levelIndex (s.record r).isLevelable <;> rfl

/-- A step from the index that the record stands at. -/
theorem State.levelStepped_of_index {p r index : Nat} (h : (s.record r).levelIndex = index) (f : Nat → Nat) :
    s.levelStepped p r (some (f index)) =
      (s.modRecord r (fun c => { c with levelIndex := f c.levelIndex })).enqueue p (.level r) := by
  subst h
  rfl

/-! ### Misses (R141) -/

section
variable {s} {r : Nat} (hv : s.verifies r = true)
include hv

theorem State.upkeepMiss_counted (h : (s.record r).misses + 1 < 3) :
    s.upkeepMiss r = s.freshRecord r { s.record r with misses := (s.record r).misses + 1 } := by
  rw [State.upkeepMiss, if_pos h, s.modRecord_of_verifies hv]

theorem State.upkeepMiss_third {p : Nat} (h : 3 ≤ (s.record r).misses + 1) (hport : (s.record r).port = p)
    (hd : (s.record r).dropId ≠ 0) : s.upkeepMiss r = s.lostAs p r (s.record r) .lostSilent := by
  rw [State.upkeepMiss, if_neg (Nat.not_lt.mpr h), State.lose_of_verifies hv hport hd]
end

/-! ### A clean echo, by what the calculator says of its drift (R142 to R145) -/

/-- What a clean echo leaves in a record, whatever its drift: no misses, its last level code and its level condition (R142). -/
def Record.heardClean (c : Record) (cfg : PortConfig) (code : Nat) : Record :=
  { c with
    misses := 0
    lastLevel := code
    levelCondition := serviceCondition cfg code }

/-- The part with record `r` of port `p` heard at a level code (R142). -/
def State.heardClean (s : State) (p r code : Nat) : State :=
  s.freshRecord r ((s.record r).heardClean (s.port p).config code)

theorem State.heardClean_port (p r code n : Nat) : (s.heardClean p r code).port n = s.port n := rfl

section
variable {s} {p r : Nat} {e : Captured} {g : Ranging} {drift : Int}

theorem State.modRecord_heardClean (hv : s.verifies r = true) (code : Nat) :
    s.modRecord r (fun c => { c with
      misses := 0
      lastLevel := code
      levelCondition := serviceCondition (s.port p).config code }) = s.heardClean p r code := s.modRecord_of_verifies hv _

theorem State.heardClean_ranging (hr : r < 480) (hg : (s.record r).ranging = some g) (code : Nat) :
    ((s.heardClean p r code).record r).ranging = some g := by
  rw [State.heardClean, s.freshRecord_record_self hr]
  exact hg

variable (hr : r < 480) (hv : s.verifies r = true) (hg : (s.record r).ranging = some g)
  (hdrift : driftOf (s.port p) e.offset g = drift)
include hr hv hg hdrift

theorem State.cleanEcho_hold (hclass : classOf (s.port p).config drift = .hold) :
    s.cleanEcho p r e = (s.heardClean p r e.level).serveLevel p r e.level := by
  simp only [State.cleanEcho, State.modRecord_heardClean hv, State.heardClean_ranging hr hg, State.heardClean_port, hdrift,
    hclass]

theorem State.cleanEcho_excess (hclass : classOf (s.port p).config drift = .excess) :
    s.cleanEcho p r e = (s.heardClean p r e.level).rerange p r := by
  simp only [State.cleanEcho, State.modRecord_heardClean hv, State.heardClean_ranging hr hg, State.heardClean_port, hdrift,
    hclass]

variable (hclass : classOf (s.port p).config drift = .correct)
include hclass

theorem State.cleanEcho_corrected {x : Nat} (hx : (x : Int) = g.roundTrip + drift) (h : x ≤ (s.port p).config.teq) :
    s.cleanEcho p r e =
      ((s.heardClean p r e.level).recordRanging p r (rangingOf (s.port p).config.teq x)).serveLevel p r e.level := by
  simp only [State.cleanEcho, State.modRecord_heardClean hv, State.heardClean_ranging hr hg, State.heardClean_port, hdrift,
    hclass, shifted, ← hx, reachOf_inReach h]

theorem State.cleanEcho_unreachable
    (h : (g.roundTrip : Int) + drift < 0 ∨ ((s.port p).config.teq : Int) < g.roundTrip + drift) :
    s.cleanEcho p r e = (s.heardClean p r e.level).lose r .lostReach := by
  simp only [State.cleanEcho, State.modRecord_heardClean hv, State.heardClean_ranging hr hg, State.heardClean_port, hdrift,
    hclass, shifted]
  rcases h with hearly | hbeyond
  · simp only [reachOf_early hearly]
  · simp only [reachOf_beyond hbeyond]
end

/-! ### A record that stays ranged (R143, R145) -/

/-- A drift that is held or corrected: the service level step follows behind the round trip the record then holds, with the SET DELAY of
R79 sent where there is room (R79, R143). -/
theorem State.cleanEcho_stays {p r : Nat} (hp : p < 4) (hr : r < 480) (hv : s.verifies r = true) {e : Captured}
    {g : Ranging} {drift : Int} (hg : (s.record r).ranging = some g) (hport : (s.record r).port = p)
    (hdrift : driftOf (s.port p) e.offset g = drift) {heardAt : Record}
    (hheard : heardAt = (s.record r).heardClean (s.port p).config e.level) {kept : State}
    (h : (drift.natAbs ≤ (s.port p).config.hold ∧ kept = s.freshRecord r heardAt)
      ∨ ((s.port p).config.hold < drift.natAbs ∧ drift.natAbs ≤ (s.port p).config.limit ∧ (s.record r).delaySync = .synced
        ∧ s.setDelayQueued allPorts r = false
        ∧ (64 ≤ (s.port p).outbound.length ∨ ∀ n, n < 480 → (s.record n).port = p → (s.record n).delaySync ≠ .waiting)
        ∧ ∃ x : Nat, (x : Int) = g.roundTrip + drift ∧ x ≤ (s.port p).config.teq
          ∧ (((s.port p).outbound.length < 64
              ∧ kept = (s.modPort p (fun q => { q with outbound := q.outbound ++ [.setDelay r] })).freshRecord r
                { heardAt with
                  ranging := some (rangingOf (s.port p).config.teq x)
                  delaySync := .queued
                  outstanding := (s.record r).outstanding + 1 })
            ∨ (64 ≤ (s.port p).outbound.length
              ∧ kept = s.freshRecord r
                { heardAt with
                  ranging := some (rangingOf (s.port p).config.teq x)
                  delaySync := .waiting })))) :
    s.cleanEcho p r e =
        kept.levelStepped p r
          (serviceStep (s.port p).config e.level (s.record r).levelIndex (s.record r).isLevelable)
      ∧ (kept.record r).levelIndex = (s.record r).levelIndex := by
  subst hheard
  rcases h with ⟨hhold, rfl⟩ | ⟨hbeyond, hlimit, hsync, hfree, halone, x, hx, hreach, hplace⟩
  · rw [State.cleanEcho_hold hr hv hg hdrift (classOf_hold hhold), State.serveLevel_eq, State.heardClean,
      s.freshRecord_record_self hr]
    exact ⟨rfl, rfl⟩
  rw [State.cleanEcho_corrected hr hv hg hdrift (classOf_correct hbeyond hlimit) hx hreach, State.heardClean,
    s.recordRanging_synced hr (by exact hsync) (by exact hport) hfree halone rfl, State.serveLevel_eq]
  rcases hplace with ⟨hroom, rfl⟩ | ⟨hfull, rfl⟩
  · have hsent : s.modPort p (fun q => q.offered [.setDelay r])
        = s.modPort p (fun q => { q with outbound := q.outbound ++ [.setDelay r] }) :=
      s.modPort_congr (Port.offered_room hroom _)
    rw [if_pos hroom, if_pos hroom, State.withSent, hsent, State.freshRecord_record_self _ hr,
      State.freshRecord_record_self _ hr, State.freshRecord_port, s.modPort_port_self hp]
    exact ⟨rfl, rfl⟩
  · rw [if_neg (Nat.not_lt.mpr hfull), if_neg (Nat.not_lt.mpr hfull), s.withSent_nil, s.freshRecord_record_self hr]
    exact ⟨rfl, rfl⟩

/-! ### UPKEEP closes (R140 to R146) -/

theorem exec_upkeepClose {p : Lane} {w : OpenWindow} (hh : s.resetHeld = false) (hw : (s.port p.val).window = some w)
    (hk : w.kind = .upkeep) : exec (.upkeepClose p) s = .next (State.upkeepClosed p.val (s.dropWindow p.val) w).settle := by
  change execUpkeepClose p s = _
  rw [execUpkeepClose, hh, s.closeOf_open hw hk]
  rfl

theorem State.dropWindow_activation {p : Nat} (hp : p < 4) : ((s.dropWindow p).port p).activation = (s.port p).activation := by
  rw [State.dropWindow, s.modPort_port_self hp]

section
variable {s} {p r : Nat} {w : OpenWindow}

theorem State.upkeepClosed_cleared (ht : w.target = none) : State.upkeepClosed p s w = s := by
  rw [State.upkeepClosed, ht]

variable (ht : w.target = some r)
include ht

theorem State.upkeepClosed_damaged (hv : s.verifies r = false) : State.upkeepClosed p s w = s.damage r := by
  simp [State.upkeepClosed, ht, hv]

variable (hv : s.verifies r = true)
include hv

/-- A target that is no longer on the port, with the window's drop id or ranged is let be (R140). -/
theorem State.upkeepClosed_changed
    (h : (s.record r).port ≠ p ∨ w.targetDrop ≠ some (s.record r).dropId ∨ (s.record r).state.ranged = false) :
    State.upkeepClosed p s w = s := by
  have hnot : ¬ ((s.record r).port = p ∧ w.targetDrop = some (s.record r).dropId ∧ (s.record r).state.ranged = true) := by
    rintro ⟨hport, hdrop, hranged⟩
    rw [hranged] at h
    simp [hport, hdrop] at h
  simp [State.upkeepClosed, ht, hv, hnot]

variable (hport : (s.record r).port = p) (hdrop : w.targetDrop = some (s.record r).dropId)
  (hranged : (s.record r).state.ranged = true)
include hport hdrop hranged

theorem State.upkeepClosed_unanswered (hc : w.captured = none) : State.upkeepClosed p s w = s.upkeepMiss r := by
  simp [State.upkeepClosed, ht, hv, hport, hdrop, hranged, hc]

theorem State.upkeepClosed_captured {e : Captured} (hc : w.captured = some e) :
    State.upkeepClosed p s w = s.cleanEcho p r e := by
  simp [State.upkeepClosed, ht, hv, hport, hdrop, hranged, hc]
end

/-- Settles O50: the target's checks, then a miss or a clean echo, and of the echo the class of its drift. -/
theorem upkeepCloseServesTheRecord : Obligations.UpkeepCloseServesTheRecord := by
  rintro p s base w q hh rfl hw hk hbase
  have hp := p.isLt
  have hreads : s.Unwindowed p.val base := hbase ▸ s.dropWindow_unwindowed hp
  have hactivation : (base.port p.val).activation = (s.port p.val).activation := hbase ▸ s.dropWindow_activation hp
  have hexec : exec (.upkeepClose p) s = .next (State.upkeepClosed p.val base w).settle := hbase ▸ exec_upkeepClose s hh hw hk
  clear hbase
  simp only [hexec, ← hreads.config, ← hreads.loopOffset, ← hreads.outbound, ← hreads.record, ← hreads.verifies,
    ← hreads.setDelayQueued, ← hactivation]
  refine ⟨fun ht => ?_, ?_⟩
  · rw [State.upkeepClosed_cleared ht]
  rintro r c ht hr rfl
  refine ⟨fun hv => ?_, fun hv hchanged => ?_, fun hv hport hdrop hranged hd => ⟨fun hnone hless => ?_, ?_⟩⟩
  · rw [State.upkeepClosed_damaged ht hv]
  · rw [State.upkeepClosed_changed ht hv hchanged]
  · rw [State.upkeepClosed_unanswered ht hv hport hdrop hranged hnone, State.upkeepMiss_counted hv hless]
  rintro lost rfl
  refine ⟨fun hnone hthird => ?_, ?_⟩
  · rw [State.upkeepClosed_unanswered ht hv hport hdrop hranged hnone, State.upkeepMiss_third hv hthird hport hd]
    rfl
  rintro e g drift heardAt hcaptured hg hdrift hheard
  obtain rfl : heardAt = (base.record r).heardClean (base.port p.val).config e.level := hheard
  have hclosed : State.upkeepClosed p.val base w = base.cleanEcho p.val r e :=
    State.upkeepClosed_captured ht hv hport hdrop hranged hcaptured
  have hdrift' : driftOf (base.port p.val) e.offset g = drift := hdrift.symm
  rw [hclosed]
  refine ⟨fun kept hkept => ?_, fun hhold hlimit hreach => ?_, fun named hhold hlimit hroom hnamed => ?_,
    fun hhold hlimit hfull => ?_⟩
  · obtain ⟨hstays, hindexKept⟩ := base.cleanEcho_stays hp hr hv hg hport hdrift' rfl hkept
    rw [hstays]
    refine ⟨fun hnear => ?_, fun hpos hlo hlevelable hindex => ?_, fun hlo hhi hlevelable hindex => ?_, fun hend => ?_⟩
    · have hunlevelable : (base.record r).levelable ≠ some true → (base.record r).isLevelable = false := fun h => by
        rwa [← Bool.not_eq_true, Record.isLevelable_iff]
      rw [serviceStep_stays (hnear.imp_right (.imp_right (.inl ∘ hunlevelable)))]
      rfl
    · rw [Record.isLevelable_iff.mpr hlevelable, serviceStep_up hpos hlo hindex,
        kept.levelStepped_of_index hindexKept (· + 1)]
    · rw [Record.isLevelable_iff.mpr hlevelable, serviceStep_down hlo hhi hindex,
        kept.levelStepped_of_index hindexKept (· - 1)]
    · rw [serviceStep_stays (.inr (.inr (.inr hend)))]
      rfl
  · rw [State.cleanEcho_unreachable hr hv hg hdrift' (classOf_correct hhold hlimit) hreach, State.heardClean,
      State.lose_freshRecord hr (by exact hport) (by exact hd)]
    rfl
  · rw [State.cleanEcho_excess hr hv hg hdrift' (classOf_excess hhold hlimit), State.heardClean,
      State.rerange_room hr hp hroom (by exact hnamed)]
    rfl
  · rw [State.cleanEcho_excess hr hv hg hdrift' (classOf_excess hhold hlimit), State.heardClean,
      State.rerange_full hr hfull (by exact hport) (by exact hd)]
    rfl

end Sys2Proof.Machine
end

section
/-! CHANGEOVER (R128, R152, R153): a record named again in its place, and the checks of the command in their order. -/

namespace Sys2Proof.Machine

variable (s : State)

/-! ### A record named again in its place (R128) -/

section
variable {p r : Nat}

theorem State.restart_record (hr : r < 480) (heard : Option Bool) :
    (s.restart p r heard).record r =
      { (s.record r).withoutRanging with
        levelable := if heard.isSome then heard else (s.record r).levelable
        lastHeard := if heard.isSome then none else (s.record r).lastHeard
        state := .named
        cause := .restarted
        outstanding := (s.record r).outstanding + (if (s.port p).outbound.length < 64 then 1 else 0) } := by
  rw [State.restart, State.setPhase, State.modPort_record, State.change_record_self _ hr, State.enqueue_record_named s rfl hr]
  rfl

theorem State.restart_verifies (p r n : Nat) (heard : Option Bool) : (s.restart p r heard).verifies n = s.verifies n := by
  rw [State.restart, State.setPhase, State.modPort_verifies, State.change_verifies, State.enqueue_verifies]

theorem State.restart_stored_ne {n : Nat} (h : n ≠ r) (heard : Option Bool) :
    (s.restart p r heard).stored n = s.stored n := by
  have hname : (Descriptor.name r).names ≠ some n := fun hd => h (Option.some.inj hd).symm
  rw [State.restart, State.setPhase, State.modPort_stored, State.change_stored_ne _ h, s.enqueue_stored_other hname]

theorem State.restart_port_self (hp : p < 4) (heard : Option Bool) :
    (s.restart p r heard).port p =
      { (s.port p).offered [.name r] with
        activation := (s.port p).activation.map (fun e => if e.record = r then { e with phase := .awaitEcho } else e) } := by
  rw [State.restart, State.setPhase, State.modPort_port_self _ hp, State.change_port, s.enqueue_port_self hp]
  rfl

theorem State.restart_port_ne {q : Nat} (h : q ≠ p) (heard : Option Bool) : (s.restart p r heard).port q = s.port q := by
  rw [State.restart, State.setPhase, State.modPort_port_ne _ h, State.change_port, s.enqueue_port_ne h]

theorem State.restart_sameOutside (p r : Nat) (heard : Option Bool) : s.sameOutside (s.restart p r heard) := by
  rw [State.restart, State.setPhase]
  exact ((s.enqueue_sameOutside p _).trans (State.change_sameOutside _ r _)).trans (State.modPort_sameOutside _ p _)

theorem State.restart_changed (p r : Nat) (heard : Option Bool) :
    (s.restart p r heard).changed = insertNumber s.changed r := by
  rw [State.restart, State.setPhase, State.modPort_changed, State.change_changed, s.enqueue_changed]
end

/-! ### The checks of CHANGEOVER (R152) -/

section
variable {s} {b : Byte} {ref : Half}

theorem doChangeover_outOfRange (hp : 4 ≤ b.toNat) : doChangeover .host b ref s = (s, bare .outOfRange) := by
  simp [doChangeover, permitted_host, Config.ports, hp]

variable (hp : b.toNat < 4)
include hp

theorem doChangeover_noSuchRecord (hr : 480 ≤ ref.toNat) : doChangeover .host b ref s = (s, bare .noSuchRecord) := by
  simp [doChangeover, permitted_host, Config.ports, Config.records, Nat.not_le.mpr hp, hr]

variable (hr : ref.toNat < 480)
include hr

theorem doChangeover_idle (hs : (s.port b.toNat).state = .down ∨ (s.port b.toNat).state = .standby) :
    doChangeover .host b ref s = (s, { status := .refusedState, payload := [(s.port b.toNat).state.code] }) := by
  rcases hs with hs | hs <;>
    simp [doChangeover, permitted_host, Config.ports, Config.records, Nat.not_le.mpr hp, Nat.not_le.mpr hr, hs]

theorem doChangeover_atWork (hs : (s.port b.toNat).state = .calibrating ∨ (s.port b.toNat).state = .changeover) :
    doChangeover .host b ref s = (s, { status := .busy, payload := [(s.port b.toNat).state.code] }) := by
  rcases hs with hs | hs <;>
    simp [doChangeover, permitted_host, Config.ports, Config.records, Nat.not_le.mpr hp, Nat.not_le.mpr hr, hs]

variable (hs : (s.port b.toNat).state = .run)
include hs

theorem doChangeover_damaged (hv : s.verifies ref.toNat = false) :
    doChangeover .host b ref s = (s.damage ref.toNat,
      { status := .damaged, payload := [((s.damage ref.toNat).port b.toNat).state.code] }) := by
  simp [doChangeover, permitted_host, Config.ports, Config.records, Nat.not_le.mpr hp, Nat.not_le.mpr hr, hs, hv]

variable (hv : s.verifies ref.toNat = true)
include hv

theorem doChangeover_refused {st : Status} (hc : referenceCheck b.toNat (s.record ref.toNat) = some st) :
    doChangeover .host b ref s = (s, { status := st, payload := [PortState.run.code] }) := by
  simp [doChangeover, permitted_host, Config.ports, Config.records, Nat.not_le.mpr hp, Nat.not_le.mpr hr, hs, hv, hc]

theorem doChangeover_started (hc : referenceCheck b.toNat (s.record ref.toNat) = none) :
    doChangeover .host b ref s = (s.startChangeover b.toNat ref.toNat,
      { status := .ok, payload := [PortState.run.code, PortState.changeover.code, (s.port b.toNat).feed.other.code] }) := by
  simp [doChangeover, permitted_host, Config.ports, Config.records, Nat.not_le.mpr hp, Nat.not_le.mpr hr, hs, hv, hc]
end

/-! ### The reference's own checks -/

section
variable {p : Nat} {c : Record}

theorem referenceCheck_unfit (h : c.port ≠ p ∨ c.state.ranged = false) : referenceCheck p c = some .refusedState :=
  if_pos (h.imp_right fun hranged => by rw [hranged]; rfl)

variable (hport : c.port = p) (hranged : c.state.ranged = true)
include hport hranged

theorem referenceCheck_fit : referenceCheck p c = if c.delaySync ≠ .synced then some .busy else none :=
  if_neg fun h => h.elim (· hport) (by simp [hranged])
end

/-- Settles O35: the parts of a restart, the restarts as a fold, and the command check by check. -/
theorem changeoverBegins : Obligations.ChangeoverBegins := by
  refine ⟨?_, fun s p => eachNumber_eq_foldl s _ _, fun tag b ref s hready => ?_⟩
  · rintro s t p r hp hr rfl
    refine ⟨s.restart_record hr none, s.restart_verifies p r r none, s.restart_port_self hp none,
      fun n hn => s.restart_stored_ne (by simpa using hn) none, fun q hq => s.restart_port_ne (by simpa using hq) none,
      (s.restart_sameOutside p r none).eq_of_changed (s.restart_changed p r none)⟩
  have hanswer {t : State} {st : Status} {payload : List Byte}
      (h : doChangeover .host b ref s = (t, { status := st, payload := payload })) :
      exec (.changeover .host tag b ref) s = .next (t.replied .host tag st payload) :=
    exec_answered s hready tag (.changeover b ref) h
  refine ⟨fun hp => hanswer (doChangeover_outOfRange hp), fun hp hr => hanswer (doChangeover_noSuchRecord hp hr),
    fun hp hr hs => hanswer (doChangeover_idle hp hr hs), fun hp hr hs => hanswer (doChangeover_atWork hp hr hs),
    fun hp hr hs => ⟨?_, fun hv => hanswer (doChangeover_damaged hp hr hs hv), ?_, ?_⟩⟩
  · rintro ⟨hv, hport, hranged, hsync⟩
    exact hanswer (doChangeover_started hp hr hs hv
      ((referenceCheck_fit hport hranged).trans (if_neg (not_not.mpr hsync))))
  · rintro ⟨hv, hunfit⟩
    exact hanswer (doChangeover_refused hp hr hs hv (referenceCheck_unfit hunfit))
  · rintro ⟨hv, hport, hranged, hsync⟩
    exact hanswer (doChangeover_refused hp hr hs hv ((referenceCheck_fit hport hranged).trans (if_pos hsync)))

end Sys2Proof.Machine
end

section
/-! The registry update of a changeover (R157): every ranged record shifted or lost, then the RELEASEs, then the SET DELAYs. -/

namespace Sys2Proof.Machine

variable (s : State)

/-! ### The shift of one record (R105, R157) -/

/-- The shifted round trip of a record, where it holds one and the shifted one lies in 0..`teq` (R105). -/
def Record.movedBy (c : Record) (teq : Nat) (shift : Int) : Option Nat :=
  c.ranging.bind (fun g =>
    if 0 ≤ g.roundTrip + shift ∧ g.roundTrip + shift ≤ teq then some (g.roundTrip + shift).toNat else none)

/-- A record at its shifted round trip (R157, step 2). -/
def Record.movedTo (c : Record) (teq x : Nat) : Record :=
  { c.withRanging (rangingOf teq x) with cause := .coAdjusted }

/-- What the registry update makes of a record that holds a round trip: CO_ADJUSTED in reach, CO_LOST out of it (R157). -/
def Record.shiftedBy (c : Record) (teq : Nat) (shift : Int) : Record :=
  match c.movedBy teq shift with
  | some x => c.movedTo teq x
  | none => c.lostWith .coLost

section
variable {c : Record} {g : Ranging} {teq : Nat} {shift : Int}

theorem shifted_of_movedBy {x : Nat} (hg : c.ranging = some g) (h : c.movedBy teq shift = some x) :
    shifted teq g shift = .inReach (rangingOf teq x) := by
  rw [Record.movedBy, hg, Option.bind_some, Option.ite_none_right_eq_some] at h
  obtain ⟨⟨hearly, hbeyond⟩, hx⟩ := h
  cases hx
  rw [shifted, reachOf, if_neg (Int.not_lt.mpr hearly), if_pos hbeyond]

theorem shifted_of_not_movedBy (hg : c.ranging = some g) (h : c.movedBy teq shift = none) :
    shifted teq g shift = .early ∨ shifted teq g shift = .beyond := by
  rw [Record.movedBy, hg, Option.bind_some, ite_eq_right_iff] at h
  by_cases hearly : (g.roundTrip : Int) + shift < 0
  · exact .inl (reachOf_early hearly)
  · refine .inr (reachOf_beyond ?_)
    by_contra hbeyond
    cases h ⟨Int.not_lt.mp hearly, Int.not_lt.mp hbeyond⟩

theorem Record.shiftedBy_moved {x : Nat} (h : c.movedBy teq shift = some x) :
    c.shiftedBy teq shift = c.movedTo teq x := by
  rw [Record.shiftedBy, h]

theorem Record.shiftedBy_lost (h : c.movedBy teq shift = none) : c.shiftedBy teq shift = c.lostWith .coLost := by
  rw [Record.shiftedBy, h]
end

/-! ### One record of the registry update (R157) -/

/-- Of the records `ns` those that the shift puts out of reach. -/
def State.outOfReach (s : State) (teq : Nat) (shift : Int) (ns : List Nat) : List Nat :=
  ns.filter (fun n => ((s.record n).movedBy teq shift).isNone)

/-- The drop ids of the records `ns` that the shift puts out of reach. -/
def State.dropsOut (s : State) (teq : Nat) (shift : Int) (ns : List Nat) : List Nat :=
  (s.outOfReach teq shift ns).map (fun n => (s.record n).dropId)

/-- `t` is `s` once the records `ns`, which hold a round trip, have been shifted, and port `p` has given up the drop ids of those out of
reach (R157). -/
structure State.Shifted (s : State) (p teq : Nat) (shift : Int) (ns : List Nat) (t : State) : Prop where
  record : ∀ n, t.record n = if n ∈ ns then (s.record n).shiftedBy teq shift else s.record n
  stored : ∀ n, n ∉ ns → t.stored n = s.stored n
  verifies : ∀ n, t.verifies n = s.verifies n
  changed : t.changed = ns.foldl insertNumber s.changed
  same : s.sameOutside t
  port_self : t.port p = { s.port p with dropMap := (s.dropsOut teq shift ns).foldl mapErase (s.port p).dropMap }
  port_ne : ∀ q, q ≠ p → t.port q = s.port q

theorem State.Shifted.none (p teq : Nat) (shift : Int) : s.Shifted p teq shift [] s where
  record n := by simp
  stored _ _ := rfl
  verifies _ := rfl
  changed := rfl
  same := s.sameOutside_refl
  port_self := rfl
  port_ne _ _ := rfl

/-- The state after one record that holds a round trip. -/
def State.shiftRecord (s : State) (p teq : Nat) (shift : Int) (r : Nat) : State :=
  (s.modPort p (fun q => { q with dropMap := (s.dropsOut teq shift [r]).foldl mapErase q.dropMap })).change r
    (fun c => c.shiftedBy teq shift)

variable {s} in
theorem State.dropsOut_congr {t : State} {ns : List Nat} (h : ∀ n ∈ ns, t.record n = s.record n) (teq : Nat) (shift : Int) :
    t.dropsOut teq shift ns = s.dropsOut teq shift ns := by
  rw [State.dropsOut, State.outOfReach, List.filter_congr fun n hn => by rw [h n hn]]
  exact List.map_congr_left fun n hn => by rw [h n (List.mem_of_mem_filter hn)]

theorem State.dropsOut_cons (teq : Nat) (shift : Int) (r : Nat) (ns : List Nat) :
    s.dropsOut teq shift (r :: ns) = s.dropsOut teq shift [r] ++ s.dropsOut teq shift ns := by
  rw [State.dropsOut, State.dropsOut, State.dropsOut, State.outOfReach, State.outOfReach, State.outOfReach,
    ← List.map_append, ← List.filter_append, List.singleton_append]

theorem State.shiftRecord_shifted {p r : Nat} (hp : p < 4) (hr : r < 480) (teq : Nat) (shift : Int) :
    s.Shifted p teq shift [r] (s.shiftRecord p teq shift r) where
  record n := by
    rw [State.shiftRecord]
    by_cases hn : n = r
    · subst hn
      rw [State.change_record_self _ hr, if_pos (List.mem_singleton_self n)]
      rfl
    · rw [State.record, State.change_stored_ne _ hn, if_neg (by simpa using hn)]
      rfl
  stored n hn := by
    rw [State.shiftRecord, State.change_stored_ne _ (by simpa using hn)]
    rfl
  verifies n := State.change_verifies _ r n _
  changed := rfl
  same := (s.modPort_sameOutside p _).trans (State.change_sameOutside _ r _)
  port_self := by
    rw [State.shiftRecord, State.change_port, s.modPort_port_self hp]
  port_ne q hq := by
    rw [State.shiftRecord, State.change_port, s.modPort_port_ne hq]

variable {s} in
theorem State.Shifted.cons {p teq r : Nat} {shift : Int} {ns : List Nat} {t u : State} (h : s.Shifted p teq shift [r] t)
    (h' : t.Shifted p teq shift ns u) (hr : r ∉ ns) : s.Shifted p teq shift (r :: ns) u where
  record n := by
    rw [h'.record, h.record]
    by_cases hn : n = r
    · subst hn
      simp [hr]
    · simp [hn]
  stored n hn := by
    rw [h'.stored n fun hm => hn (List.mem_cons_of_mem r hm), h.stored n fun hm => hn (by simp [List.mem_singleton.mp hm])]
  verifies n := (h'.verifies n).trans (h.verifies n)
  changed := by
    rw [h'.changed, h.changed]
    rfl
  same := h.same.trans h'.same
  port_self := by
    have hrecord : ∀ n ∈ ns, t.record n = s.record n := fun n hn => by
      rw [h.record, if_neg (by simpa using ne_of_mem_of_not_mem hn hr)]
    rw [h'.port_self, h.port_self, State.dropsOut_congr hrecord, s.dropsOut_cons teq shift r ns, List.foldl_append]
  port_ne q hq := (h'.port_ne q hq).trans (h.port_ne q hq)

variable {s} in
theorem State.change_congr {n : Nat} {f g : Record → Record} (h : f (s.record n) = g (s.record n)) :
    s.change n f = s.change n g := by
  rw [State.change, State.change, State.modRecord, State.modRecord, h]

/-- A record that verifies is passed over where it holds no round trip, and shifted or lost where it does (R157, steps 1 to 4). -/
theorem State.updateRecord_eq {p r teq : Nat} {shift : Int} (hteq : (s.port p).config.teq = teq) (hv : s.verifies r = true)
    (ds : List Nat) :
    State.updateRecord p shift (s, ds) r =
      if (s.record r).ranging.isSome then (s.shiftRecord p teq shift r, ds ++ s.dropsOut teq shift [r]) else (s, ds) := by
  subst hteq
  cases hg : (s.record r).ranging with
  | none => simp [State.updateRecord, hv, hg]
  | some g =>
    rw [if_pos Option.isSome_some]
    cases hx : (s.record r).movedBy (s.port p).config.teq shift with
    | some x =>
      have hnone : s.dropsOut (s.port p).config.teq shift [r] = [] := by simp [State.dropsOut, State.outOfReach, hx]
      have hstays : s.modPort p (fun q => { q with dropMap := [].foldl mapErase q.dropMap }) = s := s.modPort_id _ rfl
      have hmoved : s.shiftRecord p (s.port p).config.teq shift r
          = s.change r (fun c => c.movedTo (s.port p).config.teq x) := by
        rw [State.shiftRecord, hnone, hstays]
        exact State.change_congr (Record.shiftedBy_moved hx)
      rw [hmoved, hnone, List.append_nil]
      simp [State.updateRecord, hv, hg, shifted_of_movedBy hg hx, Record.movedTo]
    | none =>
      have hone : s.dropsOut (s.port p).config.teq shift [r] = [(s.record r).dropId] := by
        simp [State.dropsOut, State.outOfReach, hx]
      have hlost : s.shiftRecord p (s.port p).config.teq shift r = s.loseAtChangeover p r := by
        rw [State.shiftRecord, hone]
        exact State.change_congr (Record.shiftedBy_lost hx)
      rw [hlost, hone]
      rcases shifted_of_not_movedBy hg hx with hearly | hbeyond
      · simp [State.updateRecord, hv, hg, hearly]
      · simp [State.updateRecord, hv, hg, hbeyond]

/-! ### The records of the port (R157) -/

/-- The records of port `p` that are ranged and hold a round trip, rising. -/
def State.rangedOn (s : State) (p : Nat) : List Nat :=
  (List.range 480).filter (fun n =>
    (s.record n).port == p && (s.record n).state.ranged && (s.record n).ranging.isSome)

theorem State.rangedOf_filter (p : Nat) :
    (s.rangedOf p).filter (fun n => (s.record n).ranging.isSome) = s.rangedOn p := by
  rw [State.rangedOf, State.recordsWhere_eq, List.filter_filter, State.rangedOn]
  exact List.filter_congr fun n _ => Bool.and_comm _ _

/-- Records that verify are shifted one after another, those without a round trip passed over; the drop ids given up are collected in
their order. -/
theorem State.updateRecords {p teq : Nat} {shift : Int} (hp : p < 4) (hteq : (s.port p).config.teq = teq) {ns kept : List Nat}
    (hns : ns.Nodup) (hlt : ∀ n ∈ ns, n < 480) (hv : ∀ n ∈ ns, s.verifies n = true)
    (hkept : kept = ns.filter (fun n => (s.record n).ranging.isSome)) (ds : List Nat) :
    s.Shifted p teq shift kept (ns.foldl (State.updateRecord p shift) (s, ds)).1
      ∧ (ns.foldl (State.updateRecord p shift) (s, ds)).2 = ds ++ s.dropsOut teq shift kept := by
  subst hkept
  induction ns generalizing s ds with
  | nil => exact ⟨State.Shifted.none s p teq shift, (List.append_nil ds).symm⟩
  | cons r ns ih =>
    obtain ⟨hr, hns⟩ := List.nodup_cons.mp hns
    have hlt' : ∀ n ∈ ns, n < 480 := fun n hn => hlt n (List.mem_cons_of_mem _ hn)
    have hv' : ∀ n ∈ ns, s.verifies n = true := fun n hn => hv n (List.mem_cons_of_mem _ hn)
    rw [List.foldl_cons, s.updateRecord_eq hteq (hv r List.mem_cons_self)]
    cases hg : (s.record r).ranging.isSome with
    | false =>
      rw [List.filter_cons_of_neg (by simp [hg])]
      exact ih s hteq hns hlt' hv' ds
    | true =>
      have hone := s.shiftRecord_shifted hp (hlt r List.mem_cons_self) teq shift
      have hrecord : ∀ n ∈ ns, (s.shiftRecord p teq shift r).record n = s.record n := fun n hn => by
        rw [hone.record, if_neg (by simpa using ne_of_mem_of_not_mem hn hr)]
      have hfilter : ns.filter (fun n => ((s.shiftRecord p teq shift r).record n).ranging.isSome)
          = ns.filter (fun n => (s.record n).ranging.isSome) := List.filter_congr fun n hn => by rw [hrecord n hn]
      obtain ⟨hshifted, hdrops⟩ := ih (s.shiftRecord p teq shift r) (by rw [hone.port_self]; exact hteq) hns hlt'
        (fun n hn => (hone.verifies n).trans (hv' n hn)) (ds ++ s.dropsOut teq shift [r])
      rw [hfilter] at hshifted hdrops
      rw [List.filter_cons_of_pos (by exact hg), if_pos rfl]
      refine ⟨hone.cons hshifted fun hm => hr (List.mem_of_mem_filter hm), hdrops.trans ?_⟩
      rw [State.dropsOut_congr fun n hn => hrecord n (List.mem_of_mem_filter hn), List.append_assoc, ← s.dropsOut_cons]

/-! ### The RELEASEs and the SET DELAYs behind them (R157) -/

theorem State.releases_eq (p : Nat) (ds : List Nat) :
    eachNumber (fun s d => s.enqueue p (.release p d)) ds s = s.modPort p (fun q => q.offered (ds.map (.release p))) := by
  induction ds generalizing s with
  | nil => exact (s.modPort_id _ (Port.offered_nil _)).symm
  | cons d ds ih =>
    rw [eachNumber_cons, ih, s.enqueue_release_eq, State.modPort_modPort]
    exact s.modPort_congr (Port.offered_offered _ _ _)

theorem Port.offered_releases_setDelay (q : Port) (p r : Nat) (ds : List Nat) :
    (q.offered (ds.map (.release p))).outbound.any (fun d => d.isSetDelayOf r) = q.outbound.any (fun d => d.isSetDelayOf r) := by
  have hnone : ((ds.map (Descriptor.release p)).take (Config.outboundLimit - q.outbound.length)).any
      (fun d => d.isSetDelayOf r) = false := by
    rw [List.any_eq_false]
    intro d hd
    obtain ⟨x, -, rfl⟩ := List.mem_map.mp (List.mem_of_mem_take hd)
    simp [Descriptor.isSetDelayOf]
  rw [Port.offered, List.any_append, hnone, Bool.or_false]

/-- RELEASEs offered to a queue leave what SET DELAYs it holds (R76). -/
theorem State.releases_setDelayQueued (p r : Nat) (ds : List Nat) :
    (s.modPort p (fun q => q.offered (ds.map (.release p)))).setDelayQueued allPorts r = s.setDelayQueued allPorts r := by
  rw [State.setDelayQueued, State.setDelayQueued, Bool.eq_iff_iff, List.any_eq_true, List.any_eq_true]
  refine exists_congr fun q => and_congr_right fun hq => ?_
  by_cases hqp : q = p
  · subst hqp
    rw [s.modPort_port_self (mem_allPorts.mp hq), Port.offered_releases_setDelay]
  · rw [s.modPort_port_ne hqp]

/-! ### The registry update as a whole (R157) -/

/-- The content of record `n` once the records of port `p` have been shifted. -/
def State.updatedAs (s : State) (p teq : Nat) (shift : Int) (n : Nat) : Record :=
  if n ∈ s.rangedOn p then (s.record n).shiftedBy teq shift else s.record n

/-- The records of port `p` that its shift loses, rising. -/
def State.lostOn (s : State) (p teq : Nat) (shift : Int) : List Nat := s.outOfReach teq shift (s.rangedOn p)

section
variable {s} {p teq n : Nat} {shift : Int}

theorem State.mem_lostOn : n ∈ s.lostOn p teq shift ↔ n ∈ s.rangedOn p ∧ (s.record n).movedBy teq shift = none := by
  rw [State.lostOn, State.outOfReach, List.mem_filter, Option.isNone_iff_eq_none]

theorem State.updatedAs_moved (h : n ∈ s.rangedOn p) {x : Nat} (hx : (s.record n).movedBy teq shift = some x) :
    s.updatedAs p teq shift n = (s.record n).movedTo teq x := by
  rw [State.updatedAs, if_pos h, Record.shiftedBy_moved hx]

theorem State.updatedAs_lost (h : n ∈ s.lostOn p teq shift) :
    s.updatedAs p teq shift n = (s.record n).lostWith .coLost := by
  obtain ⟨hranged, hlost⟩ := State.mem_lostOn.mp h
  rw [State.updatedAs, if_pos hranged, Record.shiftedBy_lost hlost]

theorem State.updatedAs_other (h : n ∉ s.rangedOn p) : s.updatedAs p teq shift n = s.record n := by
  rw [State.updatedAs, if_neg h]

/-- A ranged record is moved or lost, and any other stays as it is. -/
theorem State.updatedAs_cases (s : State) (p teq : Nat) (shift : Int) (n : Nat) :
    (n ∈ s.rangedOn p ∧ n ∉ s.lostOn p teq shift ∧ ∃ x, s.updatedAs p teq shift n = (s.record n).movedTo teq x)
      ∨ (n ∈ s.lostOn p teq shift ∧ s.updatedAs p teq shift n = (s.record n).lostWith .coLost)
      ∨ (n ∉ s.rangedOn p ∧ n ∉ s.lostOn p teq shift ∧ s.updatedAs p teq shift n = s.record n) := by
  by_cases hranged : n ∈ s.rangedOn p
  · cases hx : (s.record n).movedBy teq shift with
    | some x =>
      refine .inl ⟨hranged, fun hlost => ?_, x, State.updatedAs_moved hranged hx⟩
      rw [(State.mem_lostOn.mp hlost).2] at hx
      cases hx
    | none =>
      have hlost := State.mem_lostOn.mpr ⟨hranged, hx⟩
      exact .inr (.inl ⟨hlost, State.updatedAs_lost hlost⟩)
  · exact .inr (.inr ⟨hranged, fun hlost => hranged (State.mem_lostOn.mp hlost).1, State.updatedAs_other hranged⟩)

theorem State.updatedAs_port (s : State) (p teq : Nat) (shift : Int) (n : Nat) :
    (s.updatedAs p teq shift n).port = (s.record n).port := by
  rcases s.updatedAs_cases p teq shift n with ⟨-, -, x, h⟩ | ⟨-, h⟩ | ⟨-, -, h⟩ <;> rw [h] <;> rfl

/-- Delay sync follows the EqD: made absent for a lost record, changed for a moved one (R79). -/
theorem State.updatedAs_delaySync (s : State) (p teq : Nat) (shift : Int) (n : Nat) :
    (s.updatedAs p teq shift n).delaySync =
      if n ∈ s.lostOn p teq shift then (s.record n).delaySync.eqdAbsent
      else if n ∈ s.rangedOn p then (s.record n).delaySync.eqdChanged else (s.record n).delaySync := by
  rcases s.updatedAs_cases p teq shift n with ⟨hranged, hlost, x, h⟩ | ⟨hlost, h⟩ | ⟨hranged, hlost, h⟩
  · rw [h, if_neg hlost, if_pos hranged]
    rfl
  · rw [h, if_pos hlost]
    rfl
  · rw [h, if_neg hlost, if_neg hranged]
end

/-- The port of a registry update, with the RELEASEs of its lost records offered (R157). -/
def State.releasedPort (s : State) (p teq : Nat) (shift : Int) : Port :=
  (s.port p).offered ((s.dropsOut teq shift (s.rangedOn p)).map (.release p))

/-- The records for which a registry update of port `p` queues a SET DELAY, rising (R79, R157). -/
def State.servedOnUpdate (s : State) (p teq : Nat) (shift : Int) : List Nat :=
  ((List.range 480).filter (fun n =>
    (s.updatedAs p teq shift n).port == p && (s.updatedAs p teq shift n).delaySync == .waiting
      && !s.setDelayQueued allPorts n)).take (64 - (s.releasedPort p teq shift).outbound.length)

/-- `t` is `s` after a registry update of port `p` that has queued the SET DELAYs of the records `served` (R157). -/
structure State.RegistryUpdated (s : State) (p teq : Nat) (shift : Int) (served : List Nat) (t : State) : Prop where
  record : ∀ n, t.record n =
    if n ∈ served then (s.updatedAs p teq shift n).served else s.updatedAs p teq shift n
  stored : ∀ n, n ∉ s.rangedOn p ++ served → t.stored n = s.stored n
  verifies : ∀ n, t.verifies n = s.verifies n
  changed : t.changed = (s.rangedOn p).foldl insertNumber s.changed
  same : s.sameOutside t
  port_self : t.port p = { s.releasedPort p teq shift with
    dropMap := (s.dropsOut teq shift (s.rangedOn p)).foldl mapErase (s.port p).dropMap
    outbound := (s.releasedPort p teq shift).outbound ++ served.map .setDelay }
  port_ne : ∀ q, q ≠ p → t.port q = s.port q

section
variable {s} {p teq n : Nat} {shift : Int} {served : List Nat} {t : State} (h : s.RegistryUpdated p teq shift served t)
include h

theorem State.RegistryUpdated.record_moved (hn : n ∈ s.rangedOn p) {x : Nat} (hx : (s.record n).movedBy teq shift = some x) :
    t.record n = { s.record n with
      cause := .coAdjusted
      ranging := some (rangingOf teq x)
      delaySync := if n ∈ served then .queued else (s.updatedAs p teq shift n).delaySync
      outstanding := (s.record n).outstanding + (if n ∈ served then 1 else 0) } := by
  rw [h.record, State.updatedAs_moved hn hx]
  split <;> rfl

theorem State.RegistryUpdated.record_lost (hserved : n ∉ served) (hn : n ∈ s.lostOn p teq shift) :
    t.record n = { s.record n with
      state := .expected
      cause := .coLost
      dropId := 0
      misses := 0
      ranging := none
      delaySync := (s.updatedAs p teq shift n).delaySync } := by
  rw [h.record, if_neg hserved, State.updatedAs_lost hn]
  rfl

theorem State.RegistryUpdated.record_served (hserved : n ∈ served) (hn : n ∉ s.rangedOn p) :
    t.record n = (s.record n).served := by
  rw [h.record, if_pos hserved, State.updatedAs_other hn]
end

theorem State.rangedOf_nodup (p : Nat) : (s.rangedOf p).Nodup := by
  rw [State.rangedOf, State.recordsWhere_eq]
  exact List.nodup_range.filter _

section
variable {s} {p teq : Nat} {shift : Int} {u w : State} (hu : s.Shifted p teq shift (s.rangedOn p) u)
  (hw : w = u.modPort p (fun q => q.offered ((s.dropsOut teq shift (s.rangedOn p)).map (.release p))))
include hu hw

/-- The records once they have been shifted and the RELEASEs offered. -/
theorem State.Shifted.released_record (n : Nat) : w.record n = s.updatedAs p teq shift n := by
  rw [hw, State.modPort_record, hu.record, State.updatedAs]

theorem State.Shifted.released_setDelayQueued (n : Nat) : w.setDelayQueued allPorts n = s.setDelayQueued allPorts n := by
  rw [hw, u.releases_setDelayQueued]
  refine State.setDelayQueued_congr (fun q _ => ?_) n
  by_cases hq : q = p
  · rw [hq, hu.port_self]
  · rw [hu.port_ne q hq]

theorem State.Shifted.released_port (hp : p < 4) :
    w.port p = { s.releasedPort p teq shift with
      dropMap := (s.dropsOut teq shift (s.rangedOn p)).foldl mapErase (s.port p).dropMap } := by
  rw [hw, u.modPort_port_self hp, hu.port_self]
  rfl

/-- The WAITING records for which the queue has room behind the RELEASEs. -/
theorem State.Shifted.released_unserved (hp : p < 4) :
    (w.unserved p).take (64 - (w.port p).outbound.length) = s.servedOnUpdate p teq shift := by
  rw [w.unserved_eq, hu.released_port hw hp, State.servedOnUpdate]
  simp only [hu.released_record hw, hu.released_setDelayQueued hw]
end

theorem State.registryUpdate_updated {p teq : Nat} {shift : Int} (hp : p < 4) (hteq : (s.port p).config.teq = teq)
    (hv : s.allVerify) :
    s.RegistryUpdated p teq shift (s.servedOnUpdate p teq shift) (s.registryUpdate p shift) := by
  have hlt : ∀ n ∈ s.rangedOf p, n < 480 := fun n hn => ((State.mem_recordsWhere s).mp hn).1
  obtain ⟨hu, hdrops⟩ := s.updateRecords (shift := shift) hp hteq (s.rangedOf_nodup p) hlt
    (fun n hn => hv n (hlt n hn)) (s.rangedOf_filter p).symm []
  rw [State.registryUpdate, State.releases_eq, hdrops, List.nil_append]
  generalize ((s.rangedOf p).foldl (State.updateRecord p shift) (s, [])).1 = u at hu ⊢
  generalize hw : u.modPort p (fun q => q.offered ((s.dropsOut teq shift (s.rangedOn p)).map (.release p))) = w
  have hw := hw.symm
  have hport := hu.released_port hw hp
  have hrecord := hu.released_record hw
  have hfill := w.fillSetDelay_unserved hp
  rw [hu.released_unserved hw hp] at hfill
  refine ⟨fun n => ?_, fun n hn => ?_, fun n => ?_, ?_, ?_, ?_, fun q hq => ?_⟩
  · rw [hfill.record, hrecord]
  · obtain ⟨hranged, hserved⟩ : n ∉ s.rangedOn p ∧ n ∉ s.servedOnUpdate p teq shift := by
      simpa only [List.mem_append, not_or] using hn
    rw [w.fillSetDelay_stored (by rw [hfill.record, if_neg hserved]), hw, State.modPort_stored, hu.stored n hranged]
  · rw [hfill.verifies, hw, State.modPort_verifies, hu.verifies]
  · rw [hfill.changed, hw, State.modPort_changed, hu.changed]
  · exact (hu.same.trans (hw ▸ u.modPort_sameOutside p _)).trans hfill.same
  · rw [hfill.port_self, hport]
  · rw [hfill.port_ne q hq, hw, u.modPort_port_ne hq, hu.port_ne q hq]

end Sys2Proof.Machine
end

section
/-! REFERENCE closes (R155, R156, R158, R159). -/

namespace Sys2Proof.Machine

variable (s : State)

theorem exec_referenceClose {p : Lane} {w : OpenWindow} (hh : s.resetHeld = false) (hw : (s.port p.val).window = some w)
    (hk : w.kind = .reference) :
    exec (.referenceClose p) s = .next (State.referenceClosed p.val (s.dropWindow p.val) w).settle := by
  change execReferenceClose p s = _
  rw [execReferenceClose, hh, s.closeOf_open hw hk]
  rfl

/-! ### The end of a changeover without success (R159, R165) -/

/-- A changeover in progress on a port without a window goes back to the old feed (R159). -/
theorem State.failChangeover_windowless {p : Nat} (hw : (s.port p).window = none)
    (href : (s.port p).changeover.reference ≠ none) :
    s.failChangeover p = s.modPort p (fun q => { q with
      feed := q.changeover.previousFeed.getD q.feed
      changeover := { q.changeover with reference := none, previousFeed := none, windows := 0 }
      state := .run
      conditions := { q.conditions with changeoverFailed := true } }) := by
  rw [s.failChangeover_eq]
  refine s.modPort_congr ?_
  rw [if_pos (Option.isSome_iff_ne_none.mpr href)]
  simp [Port.changeoverFailed, ChangeoverContext.ended, hw]

/-- Damage handling of the reference has failed the changeover already (R165). -/
theorem State.damage_failChangeover {p r : Nat} (hp : p < 4) (href : (s.port p).changeover.reference = some r) :
    (s.damage r).failChangeover p = s.damage r := by
  have hdetach : ((s.detach r).port p).changeover.reference = some r := by
    rw [s.detach_port hp]
    exact href
  refine State.failChangeover_none _ ?_
  rw [s.damage_port hp, if_pos hdetach]
  rfl

/-! ### The checks of a REFERENCE close (R155) -/

section
variable {s} {p r : Nat} {w : OpenWindow}

theorem State.referenceClosed_cleared (ht : w.target = none) : State.referenceClosed p s w = s.failChangeover p := by
  rw [State.referenceClosed, ht]

theorem State.referenceStands_iff :
    s.referenceStands p r w = true ↔
      (s.port p).changeover.reference = some r ∧ (s.record r).port = p ∧ w.targetDrop = some (s.record r).dropId
        ∧ (s.record r).state.ranged = true := by
  simp [State.referenceStands, State.isReference, and_assoc]

variable (ht : w.target = some r)
include ht

theorem State.referenceClosed_damaged (hv : s.verifies r = false) :
    State.referenceClosed p s w = (s.damage r).failChangeover p := by
  simp [State.referenceClosed, ht, hv]

variable (hv : s.verifies r = true)
include hv

theorem State.referenceClosed_unfit (h : s.referenceStands p r w = false) :
    State.referenceClosed p s w = s.failChangeover p := by
  simp [State.referenceClosed, ht, hv, h]

variable (hstands : s.referenceStands p r w = true)
include hstands

theorem State.referenceClosed_unanswered (hc : w.captured = none) :
    State.referenceClosed p s w = if (s.port p).changeover.windows < 3 then s else s.failChangeover p := by
  simp [State.referenceClosed, ht, hv, hstands, hc]

theorem State.referenceClosed_captured {e : Captured} {g : Ranging} (hc : w.captured = some e)
    (hg : (s.record r).ranging = some g) : State.referenceClosed p s w = s.completeChangeover p r e g := by
  simp [State.referenceClosed, ht, hv, hstands, hc, hg]
end

/-! ### The reference heard (R111, R156) -/

theorem State.completeChangeover_eq {p r : Nat} (hr : r < 480) (hv : s.verifies r = true) {e : Captured} {g : Ranging}
    {shift : Int} (hshift : driftOf (s.port p) e.offset g = shift) :
    s.completeChangeover p r e g =
      ((s.weighed p r e.level).registryUpdate p shift).modPort p (Port.changeoverComplete shift) := by
  subst hshift
  rw [State.completeChangeover, State.setCondition_setLastLevel hr hv]

/-! ### A part that differs in the level of records alone -/

/-- `u` holds the records of `s`, whatever their last level codes and level conditions, with the same descriptors queued. -/
structure State.LevelsAside (s u : State) : Prop where
  record : ∀ n, ∃ code cond, u.record n = { s.record n with lastLevel := code, levelCondition := cond }
  outbound : ∀ p < 4, (u.port p).outbound = (s.port p).outbound

section
variable {s} {u : State} (h : s.LevelsAside u)
include h

theorem State.LevelsAside.read {α : Type} {f : Record → α}
    (hf : ∀ c code cond, f { c with lastLevel := code, levelCondition := cond } = f c) (n : Nat) :
    f (u.record n) = f (s.record n) := by
  obtain ⟨code, cond, hn⟩ := h.record n
  rw [hn, hf]

theorem State.LevelsAside.rangedOn (p : Nat) : u.rangedOn p = s.rangedOn p :=
  List.filter_congr fun n _ => h.read (f := fun c => c.port == p && c.state.ranged && c.ranging.isSome) (fun _ _ _ => rfl) n

theorem State.LevelsAside.movedBy (teq : Nat) (shift : Int) (n : Nat) :
    (u.record n).movedBy teq shift = (s.record n).movedBy teq shift :=
  h.read (f := fun c => c.movedBy teq shift) (fun _ _ _ => rfl) n

theorem State.LevelsAside.lostOn (p teq : Nat) (shift : Int) : u.lostOn p teq shift = s.lostOn p teq shift := by
  rw [State.lostOn, h.rangedOn]
  exact List.filter_congr fun n _ => by rw [h.movedBy]

theorem State.LevelsAside.dropsOut (p teq : Nat) (shift : Int) :
    u.dropsOut teq shift (u.rangedOn p) = (s.lostOn p teq shift).map (fun n => (s.record n).dropId) := by
  rw [← h.lostOn]
  exact List.map_congr_left fun n _ => h.read (f := Record.dropId) (fun _ _ _ => rfl) n

theorem State.LevelsAside.delaySync (p teq : Nat) (shift : Int) (n : Nat) :
    (u.updatedAs p teq shift n).delaySync = (s.updatedAs p teq shift n).delaySync := by
  rw [State.updatedAs_delaySync, State.updatedAs_delaySync, h.lostOn, h.rangedOn,
    h.read (f := Record.delaySync) fun _ _ _ => rfl]

theorem State.LevelsAside.servedOnUpdate {p : Nat} (hp : p < 4) (teq : Nat) (shift : Int) :
    u.servedOnUpdate p teq shift = s.servedOnUpdate p teq shift := by
  have hreleased : (u.releasedPort p teq shift).outbound = (s.releasedPort p teq shift).outbound := by
    rw [State.releasedPort, State.releasedPort, h.dropsOut, Port.offered, Port.offered, h.outbound p hp]
    rfl
  simp only [State.servedOnUpdate, hreleased, State.updatedAs_port, h.delaySync, State.setDelayQueued_congr h.outbound,
    h.read (f := Record.port) fun _ _ _ => rfl]
end

/-- What the echo of a changeover's reference leaves in its record: its last level code and its level condition (R111, R156). -/
def Record.heardAt (c : Record) (cfg : PortConfig) (code : Nat) : Record :=
  { c with
    lastLevel := code
    levelCondition := serviceCondition cfg code }

/-- `u` is `s` with the window of port `p` removed and its reference `r` heard at a level code (R65, R156). -/
structure State.ReferenceHeard (s : State) (p r code : Nat) (u : State) : Prop where
  record : ∀ n, u.record n = if n = r then (s.record n).heardAt (s.port p).config code else s.record n
  stored : ∀ n, n ≠ r → u.stored n = s.stored n
  verifies : s.allVerify → u.allVerify
  changed : u.changed = s.changed
  same : s.sameOutside u
  port_self : u.port p = { s.port p with window := none, gapCounter := 0 }
  port_ne : ∀ q, q ≠ p → u.port q = s.port q

theorem State.dropWindow_weighed {p r : Nat} (hp : p < 4) (hr : r < 480) (code : Nat) :
    s.ReferenceHeard p r code ((s.dropWindow p).weighed p r code) where
  record n := by
    by_cases hn : n = r
    · rw [if_pos hn, hn, State.weighed, State.freshRecord_record_self _ hr, (s.dropWindow_unwindowed hp).config]
      rfl
    · rw [if_neg hn, State.weighed, State.record, State.freshRecord_stored_ne _ hn]
      rfl
  stored n hn := by
    rw [State.weighed, State.freshRecord_stored_ne _ hn]
    rfl
  verifies hv n hn := by
    by_cases hnr : n = r
    · rw [hnr, State.weighed, State.freshRecord_verifies_self _ hr]
    · rw [State.verifies, State.weighed, State.freshRecord_stored_ne _ hnr]
      exact hv n hn
  changed := rfl
  same := rfl
  port_self := by
    rw [State.weighed, State.freshRecord_port, State.dropWindow, s.modPort_port_self hp]
  port_ne q hq := by
    rw [State.weighed, State.freshRecord_port, State.dropWindow, s.modPort_port_ne hq]

/-- The level of the reference is all that its echo changes in a record before the update (R156). -/
theorem State.ReferenceHeard.levelsAside {p r code : Nat} {u : State} (h : s.ReferenceHeard p r code u) : s.LevelsAside u where
  record n := by
    rw [h.record]
    split <;> exact ⟨_, _, rfl⟩
  outbound q _ := by
    by_cases hq : q = p
    · rw [hq, h.port_self]
    · rw [h.port_ne q hq]

/-- Once the attention output has followed, it may differ too (R178). -/
theorem State.sameOutside.settle_eq {s t : State} {ns : List Nat} (h : s.sameOutside t) (hc : t.changed = ns) :
    t.settle = { s with
      records := t.settle.records, ports := t.settle.ports, changed := ns, attention := t.settle.attention } :=
  congrArg (fun x : State => { x with attention := t.attentionDue }) (h.eq_of_changed hc)

theorem erased_eq_filter_contains (m : NumMap) (ks : List Nat) :
    ks.foldl mapErase m = m.filter (fun e => !ks.contains e.1) := by
  rw [erased_eq_filter]
  exact List.filter_congr fun e _ => by rw [List.contains_eq_mem, decide_not]

/-- A lost record waits for no SET DELAY (R79). -/
theorem State.not_mem_servedOnUpdate {p teq n : Nat} {shift : Int} (h : n ∈ s.lostOn p teq shift) :
    n ∉ s.servedOnUpdate p teq shift := by
  intro hserved
  have hwaits := (List.mem_filter.mp (List.mem_of_mem_take hserved)).2
  rw [State.updatedAs_lost h] at hwaits
  cases hsync : (s.record n).delaySync <;> simp [Record.lostWith, DelaySync.eqdAbsent, hsync] at hwaits

/-- Settles O51: the checks of the close in their order, then the completion from what the registry update leaves. -/
theorem referenceCloseEndsTheChangeover : Obligations.ReferenceCloseEndsTheChangeover := by
  rintro p s base failed w q hh rfl hw hk hbase hfailed
  have hp := p.isLt
  have hexec : exec (.referenceClose p) s = .next (State.referenceClosed p.val base w).settle :=
    hbase ▸ exec_referenceClose s hh hw hk
  have hport : base.port p.val = { s.port p.val with window := none, gapCounter := 0 } := hbase ▸ s.modPort_port_self hp _
  have hreference : (base.port p.val).changeover = (s.port p.val).changeover := by rw [hport]
  have hfail : (s.port p.val).changeover.reference ≠ none → base.failChangeover p.val = failed := fun href => by
    rw [hfailed, base.failChangeover_windowless (by rw [hport]) (by rwa [hreference])]
  have hrecord : ∀ n, base.record n = s.record n := fun n => by rw [hbase]; rfl
  have hverifies : ∀ n, base.verifies n = s.verifies n := fun n => by rw [hbase]; rfl
  rw [hexec]
  refine ⟨fun ht href => by rw [State.referenceClosed_cleared ht, hfail href], ?_⟩
  rintro r c ht hr rfl
  rw [← hverifies]
  refine ⟨fun hv href => ?_, fun hv href hunfit => ?_, fun hv href hown hdrop hranged => ?_⟩
  · rw [State.referenceClosed_damaged ht hv, State.damage_failChangeover _ hp (by rwa [hreference])]
  · have hnot : base.referenceStands p.val r w = false := by
      rw [Bool.eq_false_iff, ne_eq, State.referenceStands_iff, hreference, hrecord]
      rintro ⟨href', hown, hdrop, hranged⟩
      rw [hranged] at hunfit
      simp [href', hown, hdrop] at hunfit
    rw [State.referenceClosed_unfit ht hv hnot, hfail href]
  have hstands : base.referenceStands p.val r w = true := by
    rw [State.referenceStands_iff, hreference, hrecord]
    exact ⟨href, hown, hdrop, hranged⟩
  have hinProgress : (s.port p.val).changeover.reference ≠ none := by rw [href]; nofun
  refine ⟨fun hc hless => ?_, fun hc hthird => ?_, ?_⟩
  · rw [State.referenceClosed_unanswered ht hv hstands hc, hreference, if_pos hless]
  · rw [State.referenceClosed_unanswered ht hv hstands hc, hreference, if_neg (Nat.not_lt.mpr hthird), hfail hinProgress]
  rintro e g shift old moved sync ranged lost waits served freed hc hg hall hshift hold hranged hmoved hlost hfreed hsync hwaits
    hserved
  obtain rfl : ranged = s.rangedOn p.val := hranged
  obtain rfl : moved = fun n => (s.record n).movedBy (s.port p.val).config.teq shift := hmoved
  obtain rfl : lost = s.lostOn p.val (s.port p.val).config.teq shift := hlost
  generalize hteq : (s.port p.val).config.teq = teq at *
  have hfreedOn : freed = s.releasedPort p.val teq shift := by
    rw [hfreed, State.releasedPort, State.dropsOut, List.map_map]
    rfl
  have hsyncOn : ∀ n, sync n = (s.updatedAs p.val teq shift n).delaySync := fun n => by
    rw [State.updatedAs_delaySync, hsync]
    rfl
  have hservedOn : served = s.servedOnUpdate p.val teq shift := by
    rw [hserved, hwaits, hfreedOn, State.servedOnUpdate]
    simp only [hsyncOn, State.updatedAs_port]
  have hdrift : driftOf (base.port p.val) e.offset g = shift := by rw [hshift, hport]; rfl
  rw [State.referenceClosed_captured ht hv hstands hc (by rw [hrecord, hg]), State.completeChangeover_eq _ hr hv hdrift]
  have hu : s.ReferenceHeard p.val r e.level (base.weighed p.val r e.level) := hbase ▸ s.dropWindow_weighed hp hr e.level
  generalize base.weighed p.val r e.level = u at hu ⊢
  have haside := hu.levelsAside
  have hold : ∀ n, u.record n = old n := fun n => by
    simp only [hu.record, hold]
    split
    · next hn => rw [hn]; rfl
    · rfl
  have hupdate := u.registryUpdate_updated (teq := teq) (shift := shift) hp (by rw [hu.port_self, ← hteq]) (hu.verifies hall)
  rw [haside.servedOnUpdate hp, ← hservedOn] at hupdate
  have hrOn : r ∈ s.rangedOn p.val := by simp [State.rangedOn, hr, hown, hranged, hg]
  generalize u.registryUpdate p.val shift = v at hupdate ⊢
  refine ⟨_, rfl, ?_, fun n hn x hx => ?_, fun n hn => ?_, fun n hn hnot => ?_, fun n hn => ?_, fun n hn => ?_, fun x hx => ?_,
    ?_⟩
  · rw [State.settle_port, State.modPort_port_self _ hp, hupdate.port_self, haside.dropsOut, State.releasedPort,
      haside.dropsOut, hu.port_self, erased_eq_filter_contains, hfreed, List.map_map]
    rfl
  · rw [State.settle_record, State.modPort_record,
      hupdate.record_moved (by rwa [haside.rangedOn]) ((haside.movedBy teq shift n).trans hx), hold, hsyncOn, haside.delaySync,
      ← hold, haside.read (f := Record.outstanding) fun _ _ _ => rfl]
    rfl
  · have hserved : n ∉ served := hservedOn ▸ State.not_mem_servedOnUpdate s hn
    rw [State.settle_record, State.modPort_record, hupdate.record_lost hserved (by rwa [haside.lostOn]), hold, hsyncOn,
      haside.delaySync]
  · have hne : n ≠ r := fun h => hnot (h ▸ hrOn)
    rw [State.settle_record, State.modPort_record, hupdate.record_served hn (by rwa [haside.rangedOn]), State.record,
      hu.stored n hne]
    rfl
  · have hne : n ≠ r := fun h => hn (List.mem_append_left _ (h ▸ hrOn))
    rw [State.settle_stored, State.modPort_stored, hupdate.stored n (by rwa [haside.rangedOn]), hu.stored n hne]
  · rw [State.settle_verifies, State.modPort_verifies, hupdate.verifies]
    exact hu.verifies hall n hn
  · have hne : x ≠ p.val := by simpa using hx
    rw [State.settle_port, State.modPort_port_ne _ hne, hupdate.port_ne x hne, hu.port_ne x hne]
  · exact ((hu.same.trans hupdate.same).trans (v.modPort_sameOutside p.val _)).settle_eq
      (hupdate.changed.trans (by rw [haside.rangedOn, hu.changed]))

end Sys2Proof.Machine
end

section
/-! Storage upsets (R163), damage handling (R165, R166), the craft link's limits (R172), and the device commands (R164, R170, R171, R179). -/

namespace Sys2Proof.Machine

variable (s : State)

/-! ### Storage upsets (R163) -/

theorem Instr.storageUpset_wellFormed {r : Nat} {image : List Byte} {check : Half} :
    (Instr.storageUpset r image check).wellFormed = true ↔
      r < Config.records ∧ image.length = 41 ∧ (Record.ofImage image).checkWord ≠ check := by
  simp only [Instr.wellFormed, upsetRecordOk, upsetImageOk, upsetDisagrees, Bool.and_eq_true, decide_eq_true_eq, beq_iff_eq,
    bne_iff_ne, and_assoc]

theorem execStorageUpset_strikes {r : Nat} {image : List Byte} {check : Half} (hr : r < 480) (hl : image.length = 41)
    (hc : (Record.ofImage image).checkWord ≠ check) (hh : s.resetHeld = false) :
    execStorageUpset r image check s = .next (s.store r { content := Record.ofImage image, check := check }).settle := by
  simp [execStorageUpset, Config.records, Nat.not_le.mpr hr, hl, hc, hh]

/-- Settles O43: by the branches of the row, in their order. -/
theorem anUpsetStrikesOneRecord : Obligations.AnUpsetStrikesOneRecord := by
  intro r image check s
  refine ⟨fun hw hh => ?_, fun hr => ?_, fun hr hl => ?_, fun hr hl hc => ?_⟩
  · obtain ⟨hr, hl, hc⟩ := Instr.storageUpset_wellFormed.mp hw
    refine ⟨execStorageUpset_strikes s hr hl hc hh, ?_⟩
    rw [State.verifies, State.store_stored_self s hr]
    exact beq_eq_false_iff_ne.mpr hc
  · exact if_pos hr
  · exact (if_neg (Nat.not_le.mpr hr)).trans (if_pos hl)
  · exact (if_neg (Nat.not_le.mpr hr)).trans ((if_neg (not_not_intro hl)).trans (if_pos hc))

/-! ### The craft link's limits (R172) -/

/-- A command whose row of R172's table does not permit it is answered before it looks at its operands. -/
theorem runCommand_notPermitted {l : Link} {c : Command} (h : permitted l s.phase (commandPermit c) = false) :
    runCommand l c s = (s, bare .notPermitted) := by
  cases c with
  | readRecord | findSerial | findPlot | strangers | silenceMap | dropMap | activationQueue | portStatus | deviceStatus =>
    cases l <;> simp [commandPermit, permitted] at h
  | _ => exact if_pos (by rw [Bool.not_eq_true']; exact h)

theorem permitted_craft_eq_false {phase : SitePhase} {k : Permit}
    (h : k = .hostOnly ∨ (k = .crew ∧ phase = .service)) : permitted .craft phase k = false := by
  rcases h with rfl | ⟨rfl, rfl⟩ <;> rfl

/-- Settles O12: the permission is the first check of every command that asks for one. -/
theorem craftLinkIsLimited : Obligations.CraftLinkIsLimited := fun tag c s hr h =>
  exec_answered s hr tag c (runCommand_notPermitted s (permitted_craft_eq_false h))

/-! ### Damage handling (R165, R166, R169) -/

theorem State.releaseRecord_sameOutside (r p : Nat) : s.sameOutside (s.releaseRecord r p) := by
  rw [s.releaseRecord_eq]
  exact s.modPort_sameOutside p _

theorem State.sameOutside.unindex {s t : State} (h : s.sameOutside t) (r : Nat) : (s.unindex r).sameOutside (t.unindex r) :=
  congrArg (fun u : State => u.unindex r) h

/-- Outside records, ports and changed set, detachment takes the record out of the indexes (R165, step 2). -/
theorem State.detach_sameOutside (r : Nat) : (s.unindex r).sameOutside (s.detach r) :=
  (((eachNumber_sameOutside s (fun t p => t.releaseRecord_sameOutside r p) allPorts).unindex r).trans
    (eachNumber_sameOutside _ (fun t p => t.modPort_sameOutside p _) allPorts)).trans
    (eachNumber_sameOutside _ (fun t p => t.modPort_sameOutside p _) allPorts)

theorem State.countDamage_eq (r : Nat) : s.countDamage r = { s with
    integrityCount := if s.integrityCount < 15 then s.integrityCount + 1 else s.integrityCount
    firstDamaged := if s.integrityCount = 0 then some r else s.firstDamaged } := by
  unfold State.countDamage Config.integrityLimit
  split
  · next h => simp [h]
  · split <;> rfl

@[simp] theorem State.countDamage_changed (r : Nat) : (s.countDamage r).changed = s.changed := by
  rw [s.countDamage_eq]

theorem State.sameOutside.countDamage {s t : State} (h : s.sameOutside t) (r : Nat) :
    (s.countDamage r).sameOutside (t.countDamage r) := by
  rw [State.countDamage_eq, State.countDamage_eq]
  rw [State.sameOutside] at h
  rw [h]
  rfl

/-- Outside records, ports and changed set damage handling changes the indexes and the integrity count alone (R165, R169). -/
theorem State.damage_sameOutside (r : Nat) : ((s.unindex r).countDamage r).sameOutside (s.damage r) := by
  have hstored : ∀ (t : State) c, t.sameOutside ((t.freshRecord r c).noteChanged r) := fun _ _ => rfl
  rw [State.damage]
  refine State.sameOutside.trans ?_ (eachNumber_sameOutside _ (fun t p => t.failIfReference_sameOutside r p) allPorts)
  exact ((s.detach_sameOutside r).trans (hstored _ _)).countDamage r

theorem State.detach_changed (r : Nat) : (s.detach r).changed = s.changed := by
  have hreleased : (eachNumber (fun s p => s.releaseRecord r p) allPorts s).changed = s.changed :=
    eachNumber_field State.changed (fun t p _ => by rw [t.releaseRecord_eq]; rfl) s
  have hremoved : ∀ t : State, (eachNumber (fun s p => s.removeEntry p r) allPorts t).changed = t.changed :=
    eachNumber_field State.changed (f := fun s p => s.removeEntry p r) (fun _ _ _ => rfl)
  have hunindexed : ∀ t : State, (t.unindex r).changed = t.changed := fun _ => rfl
  rw [State.detach, State.clearTargets_changed, hremoved, hunindexed, hreleased]

theorem State.damage_changed (r : Nat) : (s.damage r).changed = insertNumber s.changed r := by
  simp only [State.damage, State.failIfReferences_changed, State.countDamage_changed, State.noteChanged_changed,
    State.freshRecord_changed, s.detach_changed]

theorem State.damage_frame (r : Nat) : s.damage r = { s with
    records := (s.damage r).records
    ports := (s.damage r).ports
    serialIndex := mapEraseRecord s.serialIndex r
    plotIndex := mapEraseRecord s.plotIndex r
    changed := insertNumber s.changed r
    integrityCount := if s.integrityCount < 15 then s.integrityCount + 1 else s.integrityCount
    firstDamaged := if s.integrityCount = 0 then some r else s.firstDamaged } := by
  refine ((s.damage_sameOutside r).eq_of_changed (s.damage_changed r)).trans ?_
  rw [State.countDamage_eq]
  rfl

/-- A RELEASE names no record, so giving up drop ids leaves what is queued for a record (R4, R76). -/
theorem Port.givingUp_countNaming (q : Port) (p : Nat) (ds : List Nat) (r : Nat) :
    countNaming (q.givingUp p ds).outbound r = countNaming q.outbound r := by
  have hnone : ∀ d ∈ (ds.map (Descriptor.release p)).take (Config.outboundLimit - q.outbound.length), ¬ (d.names == some r) = true := by
    intro d hd
    obtain ⟨x, _, rfl⟩ := List.mem_map.mp (List.mem_of_mem_take hd)
    simp [Descriptor.names]
  simp only [countNaming, Port.givingUp, Port.offered, List.countP_append, List.countP_eq_zero.mpr hnone, Nat.add_zero]

theorem Port.givingUp_setDelay (q : Port) (p : Nat) (ds : List Nat) (r : Nat) :
    (q.givingUp p ds).outbound.any (fun d => d.isSetDelayOf r) = q.outbound.contains (.setDelay r) := by
  rw [Bool.eq_iff_iff, List.any_eq_true, List.contains_iff_mem]
  constructor
  · rintro ⟨d, hd, hset⟩
    obtain rfl : d = .setDelay r := by simpa [Descriptor.isSetDelayOf] using hset
    rcases List.mem_append.mp hd with hold | hnew
    · exact hold
    · obtain ⟨x, _, hx⟩ := List.mem_map.mp (List.mem_of_mem_take hnew)
      cases hx
  · exact fun h => ⟨_, List.mem_append_left _ h, by simp [Descriptor.isSetDelayOf]⟩

theorem State.detach_queuedNaming (r : Nat) :
    (s.detach r).queuedNaming allPorts r = (allPorts.map (fun p => countNaming (s.port p).outbound r)).sum := by
  refine congrArg List.sum (List.map_congr_left fun p hp => ?_)
  rw [s.detach_port (mem_allPorts.mp hp)]
  exact (s.port p).givingUp_countNaming p _ r

theorem State.detach_setDelayQueued (r : Nat) :
    (s.detach r).setDelayQueued allPorts r = allPorts.any (fun p => (s.port p).outbound.contains (.setDelay r)) := by
  have hport : ∀ p ∈ allPorts, ((s.detach r).port p).outbound.any (fun d => d.isSetDelayOf r)
      = (s.port p).outbound.contains (.setDelay r) := fun p hp => by
    rw [s.detach_port (mem_allPorts.mp hp)]
    exact (s.port p).givingUp_setDelay p _ r
  simp only [State.setDelayQueued]
  rw [Bool.eq_iff_iff, List.any_eq_true, List.any_eq_true]
  exact exists_congr fun p => and_congr_right fun hp => by rw [hport p hp]

/-- A port that damage handling has detached a record from, its changeover aside (R165). -/
def Port.detached (q : Port) (p r : Nat) : Port :=
  { q.givingUp p (keysOf q.dropMap r) with
    activation := q.activation.filter (fun e => e.record ≠ r)
    window := q.window.map (fun w => if w.target = some r then { w with target := none } else w) }

theorem Port.detached_reference (q : Port) (p r : Nat) : (q.detached p r).changeover = q.changeover := rfl

/-- A window that has lost its target is open as before. -/
theorem Port.detached_referenceOpen (q : Port) (p r : Nat) :
    ((q.detached p r).window.any (fun w => w.kind == .reference)) = true ↔ ∃ w, q.window = some w ∧ w.kind = .reference := by
  cases hw : q.window with
  | none => simp [Port.detached, hw]
  | some w => by_cases ht : w.target = some r <;> simp [Port.detached, hw, ht]

theorem State.damage_port_detached {p : Nat} (hp : p < 4) (r : Nat) :
    (s.damage r).port p =
      if (s.port p).changeover.reference = some r then ((s.port p).detached p r).changeoverFailed
      else (s.port p).detached p r := by
  rw [s.damage_port hp, s.detach_port hp]
  rfl

theorem State.not_mem_damage_dropMap {p : Nat} (hp : p < 4) (r d : Nat) : (d, r) ∉ ((s.damage r).port p).dropMap := by
  rw [s.damage_dropMap hp, erased_eq_filter]
  exact fun h => of_decide_eq_true (List.mem_filter.mp h).2 (mem_keysOf (List.mem_filter.mp h).1)

/-- Settles O16: the record from its detached queues, the frame from the steps of the handling, each port from its detachment and the
failure of its changeover. -/
theorem damageHandlingTakesTheRecordOut : Obligations.DamageHandlingTakesTheRecordOut := by
  intro s t r hr ht
  rw [ht]
  have hframe := s.damage_frame r
  have hserial : (s.damage r).serialIndex = mapEraseRecord s.serialIndex r := congrArg State.serialIndex hframe
  have hplot : (s.damage r).plotIndex = mapEraseRecord s.plotIndex r := congrArg State.plotIndex hframe
  have hcount : (s.damage r).integrityCount = if s.integrityCount < 15 then s.integrityCount + 1 else s.integrityCount :=
    congrArg State.integrityCount hframe
  have hfirst : (s.damage r).firstDamaged = if s.integrityCount = 0 then some r else s.firstDamaged :=
    congrArg State.firstDamaged hframe
  refine ⟨?_, s.damage_verifies_self hr, s.damage_changed r, hserial, hplot, hcount, hfirst, ?_,
    fun n hn => s.damage_stored_ne (fun h => hn (h ▸ List.mem_singleton_self _)), ?_⟩
  · rw [s.damage_record_self hr, State.damagedAs, s.detach_queuedNaming, s.detach_setDelayQueued, Record.damagedContent,
      LevelCondition.keep.eq_def]
    cases (s.record r).levelCondition <;> rfl
  · rintro p q freed ds referenceOpen hp rfl rfl hfreed rfl
    have hdetached : (s.port p).detached p r = freed := by
      rw [hfreed, ← erased_eq_filter_contains]
      rfl
    have hport := s.damage_port_detached hp r
    refine ⟨s.not_mem_damage_dropMap hp r, fun hne => ?_, fun href => ?_⟩
    · rw [hport, if_neg hne, hdetached]
    · rw [if_pos href] at hport
      rw [hport, ← hdetached]
      refine ⟨fun ho => ?_, fun ho => ?_, rfl⟩
      · have hopen := ((s.port p).detached_referenceOpen p r).mpr ho
        exact ⟨if_pos hopen, if_pos hopen⟩
      · have hopen := mt ((s.port p).detached_referenceOpen p r).mp ho
        exact ⟨if_neg hopen, if_neg hopen⟩
  · rw [hserial, hplot, hcount, hfirst, s.damage_changed]
    exact hframe

/-! ### CHANGES, SCRUB CONFIGURE, INTEGRITY, PHASE SERVICE (R164, R170, R171, R179) -/

/-- The first of a rising list and the rest of it have no number in common. -/
theorem rising_filter_take {ns : List Nat} (h : rising ns) (k : Nat) :
    ns.filter (fun n => !(ns.take k).contains n) = ns.drop k := by
  have hnodup : (ns.take k ++ ns.drop k).Nodup := by
    rw [List.take_append_drop]
    exact h.imp Nat.ne_of_lt
  have hdisjoint := (List.nodup_append.mp hnodup).2.2
  calc ns.filter (fun n => !(ns.take k).contains n)
      = (ns.take k ++ ns.drop k).filter (fun n => !(ns.take k).contains n) := by rw [List.take_append_drop]
    _ = ns.drop k := by
      rw [List.filter_append, List.filter_eq_nil_iff.mpr (fun n hn => by simpa using hn), List.nil_append]
      exact List.filter_eq_self.mpr fun n hn => by simpa using fun hm => hdisjoint n hm n hn rfl

theorem filter_insertNumber {f : Nat → Bool} {n : Nat} (h : f n = false) (ns : List Nat) :
    (insertNumber ns n).filter f = ns.filter f := by
  induction ns with
  | nil => simp [insertNumber, h]
  | cons m ns ih =>
    unfold insertNumber
    split
    · rw [List.filter_cons_of_neg (by simp [h])]
    · split
      · rfl
      · rw [List.filter_cons, List.filter_cons, ih]

/-- What CHANGES needs of a part in which the damage of some records has been handled: the host's link and NEW_STRANGER are as before,
and the changed set has gained those records alone (R165, R169). -/
structure State.DamagesOnly (s t : State) (ns : List Nat) : Prop where
  host : t.host = s.host
  newStranger : t.newStranger = s.newStranger
  changed : ∀ f : Nat → Bool, (∀ n ∈ ns, f n = false) → t.changed.filter f = s.changed.filter f

theorem State.damages_only (ns : List Nat) : s.DamagesOnly (ns.foldl State.damage s) ns := by
  induction ns generalizing s with
  | nil => exact ⟨rfl, rfl, fun _ _ => rfl⟩
  | cons n ns ih =>
    obtain ⟨hhost, hstranger, hchanged⟩ := ih (s.damage n)
    have hhost1 : (s.damage n).host = s.host := by rw [s.damage_frame n]
    have hstranger1 : (s.damage n).newStranger = s.newStranger := by rw [s.damage_frame n]
    rw [List.foldl_cons]
    refine ⟨hhost.trans hhost1, hstranger.trans hstranger1, fun f hf => ?_⟩
    rw [hchanged f (fun m hm => hf m (List.mem_cons_of_mem n hm)), s.damage_changed,
      filter_insertNumber (hf n List.mem_cons_self)]

/-- What CHANGES has done to a part whose damage it has handled, its flags aside (R179). -/
theorem State.withoutChanged_chosen {u : State} (hr : rising s.changed)
    (hu : s.DamagesOnly u (s.chosenChanges.filter (fun n => !s.verifies n))) :
    u.withoutChanged s.chosenChanges = { u with changed := s.changed.drop 64 } := by
  have hchosen := hu.changed (fun n => !s.chosenChanges.contains n)
    (fun n hn => by simpa using List.mem_of_mem_filter hn)
  rw [State.withoutChanged, hchosen, State.chosenChanges, rising_filter_take hr, Config.changesLimit]

theorem doChanges_host {u : State} (hr : rising s.changed)
    (hu : u = (s.chosenChanges.filter (fun n => !s.verifies n)).foldl State.damage s) :
    doChanges .host s = (({ u with changed := s.changed.drop 64 } : State).clearFlags,
      okReply (beBytes 1 s.chosenChanges.length ++ (s.chosenChanges.map u.changedBytes).flatten
        ++ beBytes 2 (s.changed.drop 64).length ++ allPorts.map (fun p => (u.port p).conditions.byte)
        ++ [flagByte u.newStranger])) := by
  have honly := hu ▸ s.damages_only (s.chosenChanges.filter (fun n => !s.verifies n))
  have hscan : eachNumber State.verifyOrDamage s.chosenChanges s = u :=
    (s.scan_eq _ ((hr.imp Nat.ne_of_lt).sublist (List.take_sublist _ _))).trans hu.symm
  simp only [doChanges, permitted_host, Bool.not_true, Bool.false_eq_true, if_false, hscan,
    s.withoutChanged_chosen hr honly]
  rfl

/-- Clearing the flags changes the ports and NEW_STRANGER alone (R179). -/
theorem State.clearFlags_frame_ports : s.clearFlags = { s with newStranger := false, ports := s.clearFlags.ports } := by
  have hframe := s.clearFlags_frame
  rwa [State.sameOutside, s.clearFlags_records, s.clearFlags_changed] at hframe

theorem State.clearFlags_replied_host (tag : Byte) (st : Status) (payload : List Byte) :
    s.clearFlags.replied .host tag st payload = { s with
      newStranger := false
      ports := (s.clearFlags.replied .host tag st payload).ports
      host := { s.host with replies := s.host.replies ++ [{ tag := tag, status := st, payload := payload }] }
      lastServed := .host
      attention := (s.clearFlags.replied .host tag st payload).attention } := by
  rw [State.replied_host, s.clearFlags_frame_ports]

/-- Settles O40: CHANGES by its scan and what a scan leaves alone, the others from their rows. -/
theorem deviceCommandsAnswer : Obligations.DeviceCommandsAnswer := by
  intro tag s hr
  refine ⟨fun i hi => exec_answered s hr tag (.scrubConfigure i) (if_neg hi), exec_answered s hr tag (.scrubConfigure 0#8) rfl,
    exec_answered s hr tag .integrity rfl, exec_answered s hr tag .phaseService rfl, ?_⟩
  intro chosen u payload hrise hchosen hu hpayload
  have honly := hu ▸ s.damages_only (chosen.filter (fun n => !s.verifies n))
  have hpayload' : beBytes 1 s.chosenChanges.length ++ (s.chosenChanges.map u.changedBytes).flatten
      ++ beBytes 2 (s.changed.drop 64).length ++ allPorts.map (fun p => (u.port p).conditions.byte)
      ++ [flagByte u.newStranger] = payload := by
    rw [hpayload, honly.newStranger, hchosen, List.append_assoc _ (allPorts.map _)]
    rfl
  have hanswer := exec_answered s hr tag .changes (doChanges_host s hrise (hchosen ▸ hu))
  rw [hpayload'] at hanswer
  refine ⟨_, hanswer, fun p hp => ?_, ?_⟩
  · rw [State.replied_port, State.clearFlags_port _ hp]
    rfl
  · rw [State.clearFlags_replied_host, honly.host]

end Sys2Proof.Machine
end

section
/-! What every step but an upset keeps, first part: the records' counts and delay syncs agree with the outbound queues (R4, R76, R79). -/

namespace Sys2Proof.Machine

/-! ### The agreement -/

/-- The records count the descriptors that name them, and one that waits for its SET DELAY has an EqD to hand over (R4, R76, R79). -/
def State.queuesSound (s : State) : Prop :=
  s.queuesTied ∧ ∀ n, n < 480 → (s.record n).delaySync = .waiting → (s.record n).ranging.isSome = true

/-- Content `c'` owes its descriptors what `c` does. -/
def Record.owesAs (c' c : Record) : Prop :=
  c'.outstanding = c.outstanding ∧ (c'.delaySync = .queued ↔ c.delaySync = .queued)
    ∧ ((c.delaySync = .waiting → c.ranging.isSome = true) → c'.delaySync = .waiting → c'.ranging.isSome = true)

theorem Record.withoutRanging_owesAs (c : Record) : c.withoutRanging.owesAs c := by
  refine ⟨rfl, ?_, fun _ h => ?_⟩
  · cases hs : c.delaySync <;> simp [Record.withoutRanging, DelaySync.eqdAbsent, hs]
  · cases hs : c.delaySync <;> simp [Record.withoutRanging, DelaySync.eqdAbsent, hs] at h

theorem Record.withRanging_owesAs (c : Record) (g : Ranging) : (c.withRanging g).owesAs c := by
  refine ⟨rfl, ?_, fun _ _ => rfl⟩
  cases hs : c.delaySync <;> simp [Record.withRanging, DelaySync.eqdChanged, hs]

/-- A record that waits for nothing, its delay sync read off the queues (R16, R36). -/
theorem Record.owesAs_of_idle {c c' : Record} {queued : Bool} (ho : c'.outstanding = c.outstanding)
    (hs : c'.delaySync = if queued then .queued else .synced) (hq : c.delaySync = .queued ↔ queued = true) : c'.owesAs c := by
  refine ⟨ho, ?_, fun _ h => ?_⟩
  · cases queued <;> simp_all
  · cases queued <;> simp_all

section
variable {s t : State}

/-- A part with the same counts, queues and delay syncs. -/
theorem State.queuesSound_of_owesAs (hrec : ∀ n, n < 480 → (t.record n).owesAs (s.record n))
    (hout : ∀ p < 4, (t.port p).outbound = (s.port p).outbound) (h : s.queuesSound) : t.queuesSound := by
  obtain ⟨⟨hcount, hone⟩, hwait⟩ := h
  have hout' : ∀ p ∈ allPorts, (t.port p).outbound = (s.port p).outbound := fun p hp => hout p (mem_allPorts.mp hp)
  refine ⟨⟨fun n hn => ?_, State.oneSetDelay_of_le (fun p hp n => by rw [hout p hp]) hone⟩, fun n hn => ?_⟩
  · obtain ⟨ho, hq, -⟩ := hrec n hn
    rw [State.queuedNaming_congr hout', State.setDelayQueued_congr_on hout', ho, hq]
    exact hcount n hn
  · exact (hrec n hn).2.2 (hwait n hn)

/-- Nothing that concerns the queues has changed. -/
theorem State.queuesSound_congr (hrec : t.records = s.records) (hout : ∀ p < 4, (t.port p).outbound = (s.port p).outbound)
    (h : s.queuesSound) : t.queuesSound := by
  refine State.queuesSound_of_owesAs (fun n _ => ?_) hout h
  rw [State.record, State.stored_congr hrec]
  exact ⟨rfl, Iff.rfl, id⟩

variable (s)

theorem State.modPort_queues {p : Nat} {f : Port → Port} (hf : (f (s.port p)).outbound = (s.port p).outbound)
    (h : s.queuesSound) : (s.modPort p f).queuesSound :=
  State.queuesSound_congr (s := s) rfl
    (fun q _ => s.modPort_each (R := fun x y => y.outbound = x.outbound) (fun _ => rfl) hf q) h

theorem State.modRecord_queues {n : Nat} {f : Record → Record} (hf : n < 480 → (f (s.record n)).owesAs (s.record n))
    (h : s.queuesSound) : (s.modRecord n f).queuesSound := by
  refine State.queuesSound_of_owesAs (s := s) (fun m hm => ?_) (fun _ _ => rfl) h
  by_cases he : m = n
  · subst he
    rw [s.modRecord_record_self hm]
    exact hf hm
  · rw [State.record, s.modRecord_stored_ne he]
    exact ⟨rfl, Iff.rfl, id⟩

theorem State.change_queues {n : Nat} {f : Record → Record} (hf : n < 480 → (f (s.record n)).owesAs (s.record n))
    (h : s.queuesSound) : (s.change n f).queuesSound :=
  State.queuesSound_congr (s := s.modRecord n f) rfl (fun _ _ => rfl) (s.modRecord_queues hf h)

/-! ### Descriptors queued (R77, R79) -/

/-- What a change of one queue does to the number of descriptors that name a record. -/
theorem State.queuedNaming_modPort {p : Nat} (hp : p < 4) (f : Port → Port) (n : Nat) :
    (s.modPort p f).queuedNaming allPorts n + countNaming (s.port p).outbound n =
      s.queuedNaming allPorts n + countNaming (f (s.port p)).outbound n := by
  interval_cases p <;> simp [State.queuedNaming, allPorts, State.modPort_port_ne] <;> omega

theorem State.setDelayQueued_iff {n : Nat} :
    s.setDelayQueued allPorts n = true ↔ ∃ p < 4, Descriptor.setDelay n ∈ (s.port p).outbound := by
  rw [← Bool.not_eq_false, s.setDelayQueued_false_iff]
  simp

/-- A descriptor other than a SET DELAY that is queued is counted in its record. -/
theorem State.enqueue_queues {p : Nat} (hp : p < 4) {d : Descriptor} (hd : ∀ n, d.isSetDelayOf n = false)
    (h : s.queuesSound) : (s.enqueue p d).queuesSound := by
  rcases s.enqueue_cases p d with ⟨-, he⟩ | ⟨-, he⟩
  swap
  · rw [he]
    exact s.modPort_queues rfl h
  obtain ⟨⟨hcount, hone⟩, hwait⟩ := h
  have hrec : ∀ n, n < 480 → (s.push p d).record n =
      { s.record n with outstanding := (s.record n).outstanding + countNaming [d] n } := by
    intro n hn
    by_cases hdn : d.names = some n
    · rw [s.push_names hdn, State.modRecord_record_self _ hn]
      simp [countNaming, hdn]
    · have : (s.push p d).stored n = s.stored n := by
        rw [← he]
        exact s.enqueue_stored_other hdn
      rw [State.record, this]
      simp [countNaming, hdn, State.record]
  have hport : ∀ q, (s.push p d).port q = (s.modPort p (fun x => { x with outbound := x.outbound ++ [d] })).port q :=
    fun q => s.push_port p q d
  have hsync : ∀ n, (s.push p d).setDelayQueued allPorts n = s.setDelayQueued allPorts n := by
    intro n
    rw [Bool.eq_iff_iff, State.setDelayQueued_iff, State.setDelayQueued_iff]
    refine exists_congr fun q => and_congr_right fun hq => ?_
    rw [hport]
    by_cases hqp : q = p
    · subst hqp
      have : Descriptor.setDelay n ≠ d := by
        rintro rfl
        simpa [Descriptor.isSetDelayOf] using hd n
      simp [hq, this]
    · rw [s.modPort_port_ne hqp]
  rw [he]
  refine ⟨⟨fun n hn => ?_, he ▸ (s.enqueue_steady p hd).oneSetDelay hone⟩, fun n hn => ?_⟩
  · rw [hrec n hn, hsync]
    refine ⟨?_, (hcount n hn).2⟩
    have hq : (s.push p d).queuedNaming allPorts n =
        (s.modPort p (fun x => { x with outbound := x.outbound ++ [d] })).queuedNaming allPorts n :=
      State.queuedNaming_congr (fun q _ => by rw [hport]) n
    have hm := s.queuedNaming_modPort hp (fun x => { x with outbound := x.outbound ++ [d] }) n
    have happ : countNaming ((s.port p).outbound ++ [d]) n = countNaming (s.port p).outbound n + countNaming [d] n :=
      List.countP_append ..
    have hc := (hcount n hn).1
    simp only at hm ⊢
    omega
  · rw [hrec n hn]
    exact hwait n hn

/-- The SET DELAY of a record that has none queued is counted, and the record QUEUED (R79). -/
theorem State.serve_queues {p r : Nat} (hp : p < 4) (hfree : s.setDelayQueued allPorts r = false) (h : s.queuesSound) :
    (s.serve p r).queuesSound := by
  obtain ⟨⟨hcount, hone⟩, hwait⟩ := h
  have hport : ∀ q, (s.serve p r).port q =
      (s.modPort p (fun x => { x with outbound := x.outbound ++ [.setDelay r] })).port q := fun q => s.push_port p q _
  refine ⟨⟨fun n hn => ?_, State.oneSetDelay_of_le (fun q _ n => by rw [hport]) (s.append_oneSetDelay hfree p hone)⟩,
    fun n hn hw => ?_⟩
  · have hq : (s.serve p r).queuedNaming allPorts n =
        (s.modPort p (fun x => { x with outbound := x.outbound ++ [.setDelay r] })).queuedNaming allPorts n :=
      State.queuedNaming_congr (fun q _ => by rw [hport]) n
    have hm := s.queuedNaming_modPort hp (fun x => { x with outbound := x.outbound ++ [.setDelay r] }) n
    have happ : countNaming ((s.port p).outbound ++ [.setDelay r]) n =
        countNaming (s.port p).outbound n + countNaming [.setDelay r] n := List.countP_append ..
    have hc := (hcount n hn).1
    simp only at hm
    by_cases hnr : n = r
    · subst hnr
      have hone' : countNaming [.setDelay n] n = 1 := by simp [countNaming, Descriptor.names]
      rw [s.serve_record_self hn, State.setDelayQueued_iff]
      refine ⟨?_, iff_of_true rfl ⟨p, hp, by simp [s.serve_port_self hp]⟩⟩
      simp only [Record.served]
      omega
    · have hzero : countNaming [.setDelay r] n = 0 := by simp [countNaming, Descriptor.names, Ne.symm hnr]
      rw [s.serve_record_ne hnr]
      refine ⟨by omega, (hcount n hn).2.trans ?_⟩
      rw [State.setDelayQueued_iff, State.setDelayQueued_iff]
      refine exists_congr fun q => and_congr_right fun hq => ?_
      by_cases hqp : q = p
      · subst hqp
        simp [s.serve_port_self hp, hnr]
      · rw [s.serve_port_ne hqp]
  · by_cases hnr : n = r
    · subst hnr
      rw [s.serve_record_self hn] at hw
      cases hw
    · rw [s.serve_record_ne hnr] at hw ⊢
      exact hwait n hn hw

theorem State.queueSetDelay_queues {p r : Nat} (hp : p < 4) (h : s.queuesSound) : (s.queueSetDelay p r).queuesSound := by
  unfold State.queueSetDelay
  split
  · next hroom => exact s.serve_queues hp hroom.2 h
  · exact h

theorem State.fillSetDelay_queues {p : Nat} (hp : p < 4) (h : s.queuesSound) : (s.fillSetDelay p).queuesSound :=
  eachNumber_keeps (fun t _ _ ht => t.queueSetDelay_queues hp ht) h

/-! ### Descriptors taken and discarded (R78, R80) -/

variable {s} in
/-- Descriptors that leave the head of a queue are counted no more, and a record whose SET DELAY was among them is QUEUED no more: none
other names it (R76). -/
theorem State.queuesSound_of_loss {t : State} {p : Nat} (hp : p < 4) {es ds : List Descriptor}
    (hs : (s.port p).outbound = es ++ ds) (ht : (t.port p).outbound = ds)
    (hne : ∀ q < 4, q ≠ p → (t.port q).outbound = (s.port q).outbound)
    (hrec : ∀ n, n < 480 → (t.record n).outstanding = (s.record n).outstanding - countNaming es n
      ∧ (.setDelay n ∉ es → (t.record n).delaySync = (s.record n).delaySync ∧ (t.record n).ranging = (s.record n).ranging)
      ∧ (.setDelay n ∈ es → (t.record n).delaySync ≠ .queued
        ∧ ((t.record n).delaySync = .waiting → (t.record n).ranging.isSome = true)))
    (h : s.queuesSound) : t.queuesSound := by
  obtain ⟨⟨hcount, hone⟩, hwait⟩ := h
  have hout : ∀ q < 4, (t.port q).outbound = ((s.modPort p (fun q => { q with outbound := ds })).port q).outbound := by
    intro q hq
    by_cases hqp : q = p
    · rw [hqp, ht, s.modPort_port_self hp]
    · rw [s.modPort_port_ne hqp, hne q hq hqp]
  have hdelays : ∀ n, setDelays (s.port p).outbound n = setDelays es n + setDelays ds n := fun n => by
    rw [hs, setDelays_append]
  refine ⟨⟨fun n hn => ?_, State.oneSetDelay_of_le (s := s) (fun q hq n => ?_) hone⟩, fun n hn hw => ?_⟩
  · obtain ⟨ho, hkept, hlost⟩ := hrec n hn
    obtain ⟨hc, hd⟩ := hcount n hn
    constructor
    · have hm := s.queuedNaming_modPort hp (fun q => { q with outbound := ds }) n
      have hq : t.queuedNaming allPorts n = (s.modPort p (fun q => { q with outbound := ds })).queuedNaming allPorts n :=
        State.queuedNaming_congr (fun q hq => hout q (mem_allPorts.mp hq)) n
      have happ : countNaming (es ++ ds) n = countNaming es n + countNaming ds n := List.countP_append ..
      rw [hs] at hm
      simp only at hm
      omega
    · by_cases hmem : Descriptor.setDelay n ∈ es
      · refine iff_of_false (hlost hmem).1 ?_
        have hpos : 0 < setDelays es n := List.countP_pos_iff.mpr ⟨_, hmem, by simp [Descriptor.isSetDelayOf]⟩
        rw [State.setDelayQueued_iff]
        rintro ⟨q, hq, hin⟩
        have hq' : 0 < setDelays (t.port q).outbound n :=
          List.countP_pos_iff.mpr ⟨_, hin, by simp [Descriptor.isSetDelayOf]⟩
        have hsum := hone n
        have hdn := hdelays n
        simp only [allPorts, List.map_cons, List.map_nil, List.sum_cons, List.sum_nil] at hsum
        by_cases hqp : q = p
        · subst hqp
          rw [ht] at hq'
          simp only [setDelays] at hsum hdn hq' hpos
          interval_cases q <;> omega
        · rw [hne q hq hqp] at hq'
          simp only [setDelays] at hsum hdn hq' hpos
          interval_cases p <;> interval_cases q <;> omega
      · rw [(hkept hmem).1, hd, State.setDelayQueued_iff, State.setDelayQueued_iff]
        refine exists_congr fun q => and_congr_right fun hq => ?_
        by_cases hqp : q = p
        · rw [hqp, ht, hs, List.mem_append, or_iff_right hmem]
        · rw [hne q hq hqp]
  · by_cases hqp : q = p
    · rw [hqp, ht, hdelays]
      exact Nat.le_add_left _ _
    · rw [hne q hq hqp]
  · obtain ⟨-, hkept, hlost⟩ := hrec n hn
    by_cases hmem : Descriptor.setDelay n ∈ es
    · exact (hlost hmem).2 hw
    · obtain ⟨hsync, hranging⟩ := hkept hmem
      rw [hranging]
      exact hwait n hn (hsync ▸ hw)

/-- A descriptor handed over is counted no more, and a SET DELAY leaves its record SYNCED (R78). -/
theorem State.handOver_queues {p : Nat} (hp : p < 4) {d : Descriptor} {ds : List Descriptor}
    (hq : (s.port p).outbound = d :: ds) (hv : ∀ n, s.verifies n = true) (h : s.queuesSound) :
    ((s.modPort p (fun q => { q with outbound := ds })).handOver p d).queuesSound := by
  have hanswer : ∀ (t : State) a, t.queuesSound → (t.answerTake p a).queuesSound := fun t a => t.modPort_queues rfl
  cases hd : d.names with
  | none =>
    rw [State.handOver, hd]
    refine hanswer _ _ ?_
    refine State.queuesSound_of_loss hp (es := [d]) hq (by rw [s.modPort_port_self hp])
      (fun q _ hqp => by rw [s.modPort_port_ne hqp]) (fun n _ => ⟨by simp [countNaming, hd], fun _ => ⟨rfl, rfl⟩, ?_⟩) h
    intro hm
    rw [← List.mem_singleton.mp hm] at hd
    cases hd
  | some r =>
    have hv' : (s.modPort p (fun q => { q with outbound := ds })).verifies r = true := hv r
    rw [State.handOver, hd]
    simp only [hv', if_true]
    refine hanswer _ _ ?_
    refine State.queuesSound_of_loss hp (es := [d]) hq ?_ (fun q _ hqp => ?_) (fun n hn => ?_) h
    · rw [State.modRecord_port, s.modPort_port_self hp]
    · rw [State.modRecord_port, s.modPort_port_ne hqp]
    · by_cases hnr : n = r
      · subst hnr
        rw [State.modRecord_record_self _ hn, State.modPort_record, Record.taken_eq hd]
        refine ⟨by simp [countNaming, hd], fun hm => ?_, fun hm => ?_⟩
        · rw [if_neg fun he => hm (by rw [he]; exact List.mem_singleton_self _)]
          exact ⟨rfl, rfl⟩
        · rw [if_pos (List.mem_singleton.mp hm).symm]
          exact ⟨nofun, nofun⟩
      · rw [State.record, State.modRecord_stored_ne _ hnr]
        refine ⟨by simp [countNaming, hd, Ne.symm hnr]; rfl, fun _ => ⟨rfl, rfl⟩, fun hm => ?_⟩
        rw [← List.mem_singleton.mp hm] at hd
        exact absurd (Option.some.inj hd) hnr

/-- A queue emptied: its records count its descriptors no more, and one whose SET DELAY was there waits again where it has an EqD
(R80). -/
theorem State.emptyOutbound_queues {p : Nat} (hp : p < 4) (h : s.queuesSound) : (s.emptyOutbound p).queuesSound := by
  refine State.queuesSound_of_loss hp (List.append_nil _).symm ?_ (fun q _ hqp => by rw [s.emptyOutbound_port_ne hqp])
    (fun n hn => ?_) h
  · rw [State.emptyOutbound_port_self hp]
  · rw [State.emptyOutbound_record_eq hn, State.discardedOf]
    refine ⟨rfl, fun hm => ?_, fun hm => ?_⟩
    · have hc : (s.port p).outbound.contains (.setDelay n) = false := by simpa using hm
      rw [hc]
      exact ⟨rfl, rfl⟩
    · have hc : (s.port p).outbound.contains (.setDelay n) = true := by simpa using hm
      rw [hc]
      cases hg : (s.record n).ranging <;> simp [Record.afterDiscard, Record.queueEmptied, hg]

end
end Sys2Proof.Machine
end

section
/-! What every step but an upset keeps, second part: what the maps, the indexes and the activation queues say of each record, and when that
agrees with the record itself (R2, R3, R6, R7, R27, R102, R103, R114). -/

namespace Sys2Proof.Machine

/-! ### Records, maps, indexes and entries -/

/-- The fields of a record with which the maps, the indexes and the entries have to agree. -/
structure Standing where
  state : RecState
  port : Nat
  dropId : Nat
  preferred : Option Nat
  serial : Option Serial
  plot : Option Nat
  ranging : Option Ranging
  failures : Nat

def Record.standing (c : Record) : Standing where
  state := c.state
  port := c.port
  dropId := c.dropId
  preferred := c.preferred
  serial := c.serial
  plot := c.plot
  ranging := c.ranging
  failures := c.failures

/-- A part without its message path: the standing of each record, who holds a drop id of a port, the phases of a record's entries on a port,
the indexes, the stranger list and the Teq of each port. -/
structure Outline where
  standing : Nat → Standing
  holder : Nat → Nat → Option Nat
  phases : Nat → Nat → List Phase
  bySerial : Nat → Option Nat
  byPlot : Nat → Option Nat
  strangers : List Stranger
  teq : Nat → Nat

/-- The phases of the entries of record `n` in an activation queue. -/
def phasesIn (es : List ActivationEntry) (n : Nat) : List Phase := (es.filter (fun e => e.record = n)).map (fun e => e.phase)

def State.outline (s : State) : Outline where
  standing n := (s.record n).standing
  holder p := mapGet (s.port p).dropMap
  phases p := phasesIn (s.port p).activation
  bySerial := mapGet s.serialIndex
  byPlot := mapGet s.plotIndex
  strangers := s.strangers
  teq p := (s.port p).config.teq

/-! ### Changes of an outline -/

/-- Record `r` takes another standing. -/
def Outline.stand (o : Outline) (r : Nat) (g : Standing → Standing) : Outline :=
  { o with standing := fun n => if n = r ∧ r < 480 then g (o.standing n) else o.standing n }

/-- Drop id `d` of port `p` goes to a record or is freed. -/
def Outline.hold (o : Outline) (p d : Nat) (v : Option Nat) : Outline :=
  { o with holder := fun q e => if q = p ∧ e = d ∧ p < 4 then v else o.holder q e }

/-- The entries of record `r` on port `p` change. -/
def Outline.rephase (o : Outline) (p r : Nat) (f : List Phase → List Phase) : Outline :=
  { o with phases := fun q n => if q = p ∧ n = r ∧ p < 4 then f (o.phases q n) else o.phases q n }

/-- A serial goes to a record or leaves the index. -/
def Outline.indexSerial (o : Outline) (k : Nat) (v : Option Nat) : Outline :=
  { o with bySerial := fun j => if j = k then v else o.bySerial j }

/-- A plot goes to a record or leaves the index. -/
def Outline.indexPlot (o : Outline) (k : Nat) (v : Option Nat) : Outline :=
  { o with byPlot := fun j => if j = k then v else o.byPlot j }

/-- A serial, if present, leaves the index. -/
def Outline.unserial (o : Outline) : Option Serial → Outline
  | none => o
  | some x => o.indexSerial x.toNat none

/-- A plot, if present, leaves the index. -/
def Outline.unplot (o : Outline) : Option Nat → Outline
  | none => o
  | some k => o.indexPlot k none

theorem Outline.stand_same (o : Outline) (r : Nat) {g : Standing → Standing} (h : g (o.standing r) = o.standing r) :
    o.stand r g = o := by
  have : (fun n => if n = r ∧ r < 480 then g (o.standing n) else o.standing n) = o.standing := by
    funext n
    split
    · next hn => rw [hn.1, h]
    · rfl
  rw [Outline.stand, this]

theorem Outline.stand_self (o : Outline) {r : Nat} (hr : r < 480) (g : Standing → Standing) :
    (o.stand r g).standing r = g (o.standing r) := if_pos ⟨rfl, hr⟩

theorem Outline.stand_ne (o : Outline) {r n : Nat} (hn : n ≠ r) (g : Standing → Standing) :
    (o.stand r g).standing n = o.standing n := if_neg (fun h => hn h.1)

/-! ### What operations do to the outline -/

variable (s : State)

theorem State.outline_congr {t : State} (hrec : ∀ n, (t.record n).standing = (s.record n).standing)
    (hmap : ∀ p, (t.port p).dropMap = (s.port p).dropMap) (hact : ∀ p, (t.port p).activation = (s.port p).activation)
    (hteq : ∀ p, (t.port p).config.teq = (s.port p).config.teq) (hserial : t.serialIndex = s.serialIndex)
    (hplot : t.plotIndex = s.plotIndex) (hstrangers : t.strangers = s.strangers) : t.outline = s.outline := by
  simp only [State.outline, hrec, hmap, hact, hteq, hserial, hplot, hstrangers]

/-- A change of a port that leaves its drop map, its activation queue and its Teq. -/
theorem State.modPort_outline {p : Nat} {f : Port → Port}
    (h : (f (s.port p)).dropMap = (s.port p).dropMap ∧ (f (s.port p)).activation = (s.port p).activation
      ∧ (f (s.port p)).config.teq = (s.port p).config.teq) : (s.modPort p f).outline = s.outline := by
  have hq := s.modPort_each
    (R := fun x y => y.dropMap = x.dropMap ∧ y.activation = x.activation ∧ y.config.teq = x.config.teq)
    (fun _ => ⟨rfl, rfl, rfl⟩) h
  exact s.outline_congr (fun _ => rfl) (fun q => (hq q).1) (fun q => (hq q).2.1) (fun q => (hq q).2.2) rfl rfl rfl

theorem State.modRecord_outline {n : Nat} {f : Record → Record} (g : Standing → Standing)
    (h : ∀ c, (f c).standing = g c.standing) : (s.modRecord n f).outline = s.outline.stand n g := by
  simp only [State.outline, Outline.stand]
  congr 1
  funext m
  by_cases hm : m = n ∧ n < 480
  · obtain ⟨rfl, hlt⟩ := hm
    rw [if_pos ⟨rfl, hlt⟩, s.modRecord_record_self hlt, h]
  · rw [if_neg hm]
    by_cases hmn : m = n
    · subst hmn
      rw [State.modRecord, s.store_of_le (Nat.le_of_not_lt fun hlt => hm ⟨rfl, hlt⟩)]
    · rw [State.record, s.modRecord_stored_ne hmn]
      rfl

theorem State.noteChanged_outline (n : Nat) : (s.noteChanged n).outline = s.outline := rfl

theorem State.change_outline {n : Nat} {f : Record → Record} (g : Standing → Standing)
    (h : ∀ c, (f c).standing = g c.standing) : (s.change n f).outline = s.outline.stand n g :=
  (State.noteChanged_outline _ n).trans (s.modRecord_outline g h)

/-- A change of fields that stand in no map and no index. -/
theorem State.modRecord_outline_same {n : Nat} {f : Record → Record} (h : ∀ c, (f c).standing = c.standing) :
    (s.modRecord n f).outline = s.outline :=
  (s.modRecord_outline id h).trans (s.outline.stand_same n rfl)

@[simp] theorem State.flag_outline (p : Nat) (f : Conditions → Conditions) : (s.flag p f).outline = s.outline :=
  s.modPort_outline ⟨rfl, rfl, rfl⟩

@[simp] theorem State.push_outline (p : Nat) (d : Descriptor) : (s.push p d).outline = s.outline := by
  have hport : (s.modPort p (fun q => { q with outbound := q.outbound ++ [d] })).outline = s.outline :=
    s.modPort_outline ⟨rfl, rfl, rfl⟩
  cases hd : d.names with
  | none => rwa [State.push, hd]
  | some r =>
    rw [s.push_names hd, State.modRecord_outline_same]
    · exact hport
    · exact fun _ => rfl

@[simp] theorem State.enqueue_outline (p : Nat) (d : Descriptor) : (s.enqueue p d).outline = s.outline := by
  unfold State.enqueue
  split
  · exact s.push_outline p d
  · exact s.flag_outline p _

theorem State.queueSetDelay_outline (p r : Nat) : (s.queueSetDelay p r).outline = s.outline := by
  unfold State.queueSetDelay
  split
  · rw [State.modRecord_outline_same]
    · exact s.push_outline p _
    · exact fun _ => rfl
  · rfl

@[simp] theorem State.fillSetDelay_outline (p : Nat) : (s.fillSetDelay p).outline = s.outline :=
  eachNumber_field State.outline (fun t r _ => t.queueSetDelay_outline p r) s

theorem State.modPort_holder {p : Nat} {f : Port → Port} {d : Nat} {v : Option Nat}
    (hself : mapGet (f (s.port p)).dropMap d = v)
    (hne : ∀ e, e ≠ d → mapGet (f (s.port p)).dropMap e = mapGet (s.port p).dropMap e)
    (hact : (f (s.port p)).activation = (s.port p).activation) (hteq : (f (s.port p)).config.teq = (s.port p).config.teq) :
    (s.modPort p f).outline = s.outline.hold p d v := by
  have hq := s.modPort_each (R := fun x y => y.activation = x.activation ∧ y.config.teq = x.config.teq)
    (fun _ => ⟨rfl, rfl⟩) ⟨hact, hteq⟩
  have hholder : (fun q => mapGet ((s.modPort p f).port q).dropMap) =
      fun q e => if q = p ∧ e = d ∧ p < 4 then v else mapGet (s.port q).dropMap e := by
    funext q e
    by_cases hp : p < 4
    · by_cases hqp : q = p
      · subst hqp
        rw [s.modPort_port_self hp]
        by_cases he : e = d
        · rw [he, hself, if_pos ⟨rfl, rfl, hp⟩]
        · rw [hne e he, if_neg fun h => he h.2.1]
      · rw [s.modPort_port_ne hqp, if_neg fun h => hqp h.1]
    · rw [s.modPort_of_le (Nat.le_of_not_lt hp), if_neg fun h => hp h.2.2]
  simp only [State.outline, Outline.hold, ← hholder, (hq _).1, (hq _).2]
  rfl

theorem State.holdDrop_outline (p d r : Nat) : (s.holdDrop p d r).outline = s.outline.hold p d (some r) :=
  s.modPort_holder (mapGet_mapPut_self _ _ _) (fun _ he => mapGet_mapPut_ne _ he _) rfl rfl

theorem State.freeDrop_outline (p d : Nat) : (s.freeDrop p d).outline = s.outline.hold p d none :=
  s.modPort_holder (mapGet_mapErase_self _ _) (fun _ he => mapGet_mapErase_ne _ he) rfl rfl

theorem State.modPort_phases {p r : Nat} {f : Port → Port} {g : List Phase → List Phase}
    (hself : phasesIn (f (s.port p)).activation r = g (phasesIn (s.port p).activation r))
    (hne : ∀ n, n ≠ r → phasesIn (f (s.port p)).activation n = phasesIn (s.port p).activation n)
    (hmap : (f (s.port p)).dropMap = (s.port p).dropMap) (hteq : (f (s.port p)).config.teq = (s.port p).config.teq) :
    (s.modPort p f).outline = s.outline.rephase p r g := by
  have hq := s.modPort_each (R := fun x y => y.dropMap = x.dropMap ∧ y.config.teq = x.config.teq)
    (fun _ => ⟨rfl, rfl⟩) ⟨hmap, hteq⟩
  have hphases : (fun q => phasesIn ((s.modPort p f).port q).activation) =
      fun q n => if q = p ∧ n = r ∧ p < 4 then g (phasesIn (s.port q).activation n)
        else phasesIn (s.port q).activation n := by
    funext q n
    by_cases hp : p < 4
    · by_cases hqp : q = p
      · subst hqp
        rw [s.modPort_port_self hp]
        by_cases hn : n = r
        · rw [hn, hself, if_pos ⟨rfl, rfl, hp⟩]
        · rw [hne n hn, if_neg fun h => hn h.2.1]
      · rw [s.modPort_port_ne hqp, if_neg fun h => hqp h.1]
    · rw [s.modPort_of_le (Nat.le_of_not_lt hp), if_neg fun h => hp h.2.2]
  simp only [State.outline, Outline.rephase, ← hphases, (hq _).1, (hq _).2]
  rfl

theorem State.setPhase_outline (p r : Nat) (ph : Phase) :
    (s.setPhase p r ph).outline = s.outline.rephase p r (List.map fun _ => ph) := by
  have hkey : ∀ n, (fun e : ActivationEntry => decide (e.record = n)) ∘
      (fun e => if e.record = r then { e with phase := ph } else e) = fun e => decide (e.record = n) := by
    intro n
    funext e
    simp only [Function.comp]
    split <;> rfl
  refine s.modPort_phases ?_ (fun n hn => ?_) rfl rfl
  · simp only [phasesIn, List.filter_map, hkey, List.map_map]
    refine List.map_congr_left fun e he => ?_
    have hr : e.record = r := by simpa using (List.mem_filter.mp he).2
    simp [hr]
  · simp only [phasesIn, List.filter_map, hkey, List.map_map]
    refine List.map_congr_left fun e he => ?_
    have hr : e.record = n := by simpa using (List.mem_filter.mp he).2
    simp [hr, hn]

theorem State.removeEntry_outline (p r : Nat) : (s.removeEntry p r).outline = s.outline.rephase p r (fun _ => []) := by
  refine s.modPort_phases ?_ (fun n hn => ?_) rfl rfl
  · simp [phasesIn, List.filter_filter]
  · simp only [phasesIn, List.filter_filter]
    congr 1
    refine List.filter_congr fun e _ => ?_
    by_cases he : e.record = n <;> simp [he, hn]

theorem State.appendEntry_outline (p r : Nat) :
    (s.appendEntry p r).outline = s.outline.rephase p r (· ++ [.awaitEcho]) := by
  refine s.modPort_phases ?_ (fun n hn => ?_) rfl rfl
  · simp [phasesIn, List.filter_append]
  · simp [phasesIn, List.filter_append, Ne.symm hn]

theorem Outline.rephase_rephase (o : Outline) (p r : Nat) (f g : List Phase → List Phase) :
    (o.rephase p r f).rephase p r g = o.rephase p r (fun l => g (f l)) := by
  simp only [Outline.rephase]
  congr 1
  funext q n
  split <;> simp_all

theorem State.entryToTail_outline (p r : Nat) :
    (s.entryToTail p r).outline = s.outline.rephase p r (fun _ => [.awaitEcho]) := by
  rw [State.entryToTail, State.appendEntry_outline, State.removeEntry_outline, Outline.rephase_rephase]
  rfl

theorem State.indexSerial_outline (x : Serial) (n : Nat) :
    (s.indexSerial x n).outline = s.outline.indexSerial x.toNat (some n) := by
  have : mapGet (mapPut s.serialIndex x.toNat n) = fun j => if j = x.toNat then some n else mapGet s.serialIndex j := by
    funext j
    split
    · next h => rw [h, mapGet_mapPut_self]
    · next h => rw [mapGet_mapPut_ne _ h]
  exact congrArg (fun m => { s.outline with bySerial := m }) this

theorem State.unindexSerial_outline (x : Option Serial) :
    (s.unindexSerial x).outline = s.outline.unserial x := by
  cases x with
  | none => rfl
  | some x =>
    have : mapGet (mapErase s.serialIndex x.toNat) = fun j => if j = x.toNat then none else mapGet s.serialIndex j := by
      funext j
      split
      · next h => rw [h, mapGet_mapErase_self]
      · next h => rw [mapGet_mapErase_ne _ h]
    exact congrArg (fun m => { s.outline with bySerial := m }) this

theorem State.indexPlot_outline (k n : Nat) : (s.indexPlot k n).outline = s.outline.indexPlot k (some n) := by
  have : mapGet (mapPut s.plotIndex k n) = fun j => if j = k then some n else mapGet s.plotIndex j := by
    funext j
    split
    · next h => rw [h, mapGet_mapPut_self]
    · next h => rw [mapGet_mapPut_ne _ h]
  exact congrArg (fun m => { s.outline with byPlot := m }) this

theorem State.unindexPlot_outline (x : Option Nat) :
    (s.unindexPlot x).outline = s.outline.unplot x := by
  cases x with
  | none => rfl
  | some x =>
    have : mapGet (mapErase s.plotIndex x) = fun j => if j = x then none else mapGet s.plotIndex j := by
      funext j
      split
      · next h => rw [h, mapGet_mapErase_self]
      · next h => rw [mapGet_mapErase_ne _ h]
    exact congrArg (fun m => { s.outline with byPlot := m }) this

theorem State.clearTargets_outline (r : Nat) : (s.clearTargets r).outline = s.outline :=
  eachNumber_field State.outline (f := fun s p => s.clearTarget r p)
    (fun t p _ => t.modPort_outline (p := p) ⟨rfl, rfl, rfl⟩) s

end Sys2Proof.Machine
end

section
/-! What every step but an upset keeps, third part: outlines in which everything agrees, record by record. -/

namespace Sys2Proof.Machine

/-! ### Agreement -/

/-- What R1 to R3 ask of a record's own fields. -/
structure Standing.Tidy (c : Standing) : Prop where
  port : c.port ≤ 3
  dropId : c.dropId ≤ Config.maxDropId
  preferred : ∀ d, c.preferred = some d → 1 ≤ d ∧ d ≤ Config.maxDropId
  held : c.dropId ≠ 0 ↔ c.state.activating = true ∨ c.state.ranged = true
  ranging : c.ranging.isSome = true ↔ c.state = .levelling ∨ c.state.ranged = true
  plot : c.plot = none ↔ c.state = .vacant ∨ c.state = .damaged
  noSerial : c.state = .vacant ∨ c.state = .damaged → c.serial = none
  serial : c.state.activating = true ∨ c.state.ranged = true → c.serial.isSome = true
  failures : c.failures ≤ 3
  barred : c.failures = 3 ↔ c.state = .barred

theorem Record.tidy_iff {c : Record} :
    c.tidy ↔ c.standing.Tidy ∧ (c.delaySync = .waiting → c.ranging.isSome = true) :=
  ⟨fun ⟨h1, h2, h3, h4, h5, h6, h7, h8, h9, h10, h11⟩ => ⟨⟨h1, h2, h3, h4, h5, h6, h7, h8, h10, h11⟩, h9⟩,
    fun ⟨⟨h1, h2, h3, h4, h5, h6, h7, h8, h10, h11⟩, h9⟩ => ⟨h1, h2, h3, h4, h5, h6, h7, h8, h9, h10, h11⟩⟩

/-- What refers to record `n` from outside the activation queues agrees with it: its drop id, its serial, its plot and its port's Teq. -/
structure Outline.Referred (o : Outline) (n : Nat) : Prop where
  holder : ∀ p d, o.holder p d = some n ↔ (o.standing n).port = p ∧ (o.standing n).dropId = d ∧ d ≠ 0
  serial : ∀ k, o.bySerial k = some n ↔ ∃ x, (o.standing n).serial = some x ∧ x.toNat = k
  plot : ∀ k, o.byPlot k = some n ↔ (o.standing n).plot = some k
  ranging : ∀ g, (o.standing n).ranging = some g →
    g.roundTrip + g.eqd = o.teq (o.standing n).port ∧ g.length = (g.roundTrip * 817 + 5000) / 10000

/-- The entries of record `n` agree with it: one on its own port, in the phase of its state, while it is under activation. -/
structure Outline.Entered (o : Outline) (n : Nat) : Prop where
  elsewhere : ∀ p, p ≠ (o.standing n).port → o.phases p n = []
  idle : (o.standing n).state.activating = false → o.phases (o.standing n).port n = []
  underWay : (o.standing n).state.activating = true →
    ∃ ph, o.phases (o.standing n).port n = [ph] ∧ (o.standing n).state = ph.recordState

/-- Everything agrees with record `n`. -/
structure Outline.TiedAt (o : Outline) (n : Nat) : Prop where
  tidy : (o.standing n).Tidy
  referred : o.Referred n
  entered : o.Entered n

/-- No stranger's serial is a record's, and every stranger was heard on a port (R8). -/
def Outline.strangersTied (o : Outline) : Prop :=
  ∀ e ∈ o.strangers, o.bySerial e.serial.toNat = none ∧ e.port ≤ 3

/-- Everything agrees with every record. -/
structure Outline.Tied (o : Outline) : Prop where
  at_ : ∀ n, o.TiedAt n
  strangers : o.strangersTied

/-! ### The invariants of the machine, put so -/

theorem phasesIn_eq_nil {es : List ActivationEntry} {n : Nat} : phasesIn es n = [] ↔ ∀ e ∈ es, e.record ≠ n := by
  simp [phasesIn]

theorem mem_phasesIn {es : List ActivationEntry} {n : Nat} {ph : Phase} :
    ph ∈ phasesIn es n ↔ ⟨n, ph⟩ ∈ es := by
  simp only [phasesIn, List.mem_map, List.mem_filter, decide_eq_true_eq]
  constructor
  · rintro ⟨e, ⟨he, rfl⟩, rfl⟩
    exact he
  · exact fun h => ⟨_, ⟨h, rfl⟩, rfl⟩

theorem phasesIn_length (es : List ActivationEntry) (n : Nat) :
    (phasesIn es n).length = (es.map (fun e => e.record)).count n := by
  rw [phasesIn, List.length_map, ← List.countP_eq_length_filter, List.count, List.countP_map]
  refine List.countP_congr fun e _ => ?_
  simp

variable {s : State}

theorem State.vacant_of_le {n : Nat} (h : 480 ≤ n) : s.outline.standing n = Record.vacant.standing := by
  change (s.record n).standing = _
  rw [State.record, s.stored_of_le h]
  rfl

theorem State.port_of_le {p : Nat} (h : 4 ≤ p) : s.port p = Port.reset := by
  simp [State.port, h]

/-- An entry that agrees with its records is one that the invariants of R114 allow. -/
theorem State.entered_iff :
    s.entriesTied ∧ (∀ n, n < 480 → (s.record n).port ≤ 3) ↔
      (∀ n, s.outline.Entered n) ∧ ∀ n, n < 480 → (s.record n).port ≤ 3 := by
  refine and_congr_left fun hport => ⟨fun ⟨hes, hact⟩ n => ?_, fun h => ⟨fun p hp => ⟨?_, fun e he => ?_⟩, fun n hn ha => ?_⟩⟩
  · have hnone : ∀ p, (n < 480 → p ≠ (s.record n).port ∨ (s.record n).state.activating = false) →
        phasesIn (s.port p).activation n = [] := by
      intro p hne
      rw [phasesIn_eq_nil]
      by_cases hp : p < 4
      · rintro e he rfl
        obtain ⟨hlt, hpe, hst⟩ := (hes p hp).2 e he
        rcases hne hlt with hne | hne
        · exact hne hpe.symm
        · rw [hst] at hne
          cases hph : e.phase <;> rw [hph] at hne <;> cases hne
      · rw [State.port_of_le (Nat.le_of_not_lt hp)]
        exact nofun
    refine ⟨fun p hp => hnone p fun _ => .inl hp, fun ha => hnone _ fun _ => .inr ha, fun ha => ?_⟩
    have hn : n < 480 := s.lt_of_state fun hv => by
      have ha' : (s.record n).state.activating = true := ha
      rw [hv] at ha'
      cases ha'
    obtain ⟨e, he, rfl⟩ := hact n hn ha
    have hp := Nat.lt_succ_of_le (hport _ hn)
    have hle : (phasesIn (s.port (s.record e.record).port).activation e.record).length ≤ 1 := by
      rw [phasesIn_length]
      exact List.nodup_iff_count_le_one.mp (hes _ hp).1 _
    have hmem : e.phase ∈ phasesIn (s.port (s.record e.record).port).activation e.record := mem_phasesIn.mpr he
    refine ⟨e.phase, ?_, ((hes _ hp).2 e he).2.2⟩
    obtain ⟨ph, hph⟩ := List.length_eq_one_iff.mp (Nat.le_antisymm hle (List.length_pos_of_mem hmem))
    rw [hph, List.mem_singleton] at hmem
    rw [hmem]
    exact hph
  · rw [List.nodup_iff_count_le_one]
    intro n
    rw [← phasesIn_length]
    have hn := h n
    change (s.outline.phases p n).length ≤ 1
    by_cases hpn : p = (s.outline.standing n).port
    · subst hpn
      cases ha : (s.outline.standing n).state.activating with
      | true =>
        obtain ⟨ph, hph, -⟩ := hn.underWay ha
        rw [hph]
        exact le_rfl
      | false =>
        rw [hn.idle ha]
        exact Nat.zero_le _
    · rw [hn.elsewhere p hpn]
      exact Nat.zero_le _
  · have hn := h e.record
    have hmem : e.phase ∈ s.outline.phases p e.record := mem_phasesIn.mpr he
    have hpe : (s.outline.standing e.record).port = p := by
      by_contra hne
      rw [hn.elsewhere p (Ne.symm hne)] at hmem
      cases hmem
    have ha : (s.outline.standing e.record).state.activating = true := by
      by_contra ha
      rw [← hpe, hn.idle (by simpa using ha)] at hmem
      cases hmem
    obtain ⟨ph, hph, hst⟩ := hn.underWay ha
    rw [hpe] at hph
    rw [hph, List.mem_singleton] at hmem
    have hlt : e.record < 480 := s.lt_of_state fun hv => by
      have ha' : (s.record e.record).state.activating = true := ha
      rw [hv] at ha'
      cases ha'
    exact ⟨hlt, hpe, hmem ▸ hst⟩
  · obtain ⟨ph, hph, -⟩ := (h n).underWay ha
    have hmem : ph ∈ phasesIn (s.port (s.record n).port).activation n := by
      have hph' : phasesIn (s.port (s.record n).port).activation n = [ph] := hph
      rw [hph']
      exact List.mem_singleton_self ph
    exact ⟨⟨n, ph⟩, mem_phasesIn.mp hmem, rfl⟩

theorem State.referred_iff :
    s.dropMapsTied ∧ ((∀ k n, mapGet s.serialIndex k = some n
          ↔ n < Config.records ∧ ∃ x, (s.record n).serial = some x ∧ x.toNat = k)
        ∧ ∀ k n, mapGet s.plotIndex k = some n ↔ n < Config.records ∧ (s.record n).plot = some k) ∧ s.rangingTied
        ∧ (∀ n, n < 480 → (s.record n).port ≤ 3) ↔
      (∀ n, s.outline.Referred n) ∧ ∀ n, n < 480 → (s.record n).port ≤ 3 := by
  have hle : ∀ {n}, ¬ n < 480 → s.record n = Record.vacant := fun hn => by
    rw [State.record, s.stored_of_le (Nat.le_of_not_lt hn)]
    rfl
  constructor
  · rintro ⟨hdrop, ⟨hserial, hplot⟩, hranging, hport⟩
    refine ⟨fun n => ⟨fun p d => ?_, fun k => (hserial k n).trans ?_, fun k => (hplot k n).trans ?_, fun g hg => ?_⟩, hport⟩
    · by_cases hp : p < 4
      · refine (hdrop p d n hp).trans ?_
        by_cases hn : n < 480
        · exact and_iff_right hn
        · refine iff_of_false (fun h => hn h.1) ?_
          rintro ⟨-, rfl, h0⟩
          exact h0 (congrArg Record.dropId (hle hn))
      · refine iff_of_false ?_ ?_
        · change mapGet (s.port p).dropMap d ≠ some n
          rw [State.port_of_le (Nat.le_of_not_lt hp)]
          exact nofun
        · rintro ⟨rfl, rfl, h0⟩
          by_cases hn : n < 480
          · exact hp (Nat.lt_succ_of_le (hport n hn))
          · exact h0 (congrArg Record.dropId (hle hn))
    · by_cases hn : n < 480
      · exact and_iff_right hn
      · refine iff_of_false (fun h => hn h.1) ?_
        rintro ⟨x, hx, -⟩
        have : (s.record n).serial = some x := hx
        rw [hle hn] at this
        cases this
    · by_cases hn : n < 480
      · exact and_iff_right hn
      · refine iff_of_false (fun h => hn h.1) fun hx => ?_
        have : (s.record n).plot = some k := hx
        rw [hle hn] at this
        cases this
    · by_cases hn : n < 480
      · exact hranging n g hn hg
      · have : (s.record n).ranging = some g := hg
        rw [hle hn] at this
        cases this
  · rintro ⟨h, hport⟩
    refine ⟨fun p d n _ => ?_, ⟨fun k n => ?_, fun k n => ?_⟩, fun n g _ hg => (h n).ranging g hg, hport⟩
    · refine ((h n).holder p d).trans ⟨fun hh => ⟨?_, hh⟩, And.right⟩
      by_contra hn
      obtain ⟨-, rfl, h0⟩ := hh
      exact h0 (congrArg Record.dropId (hle hn))
    · refine ((h n).serial k).trans ⟨fun hh => ⟨?_, hh⟩, And.right⟩
      by_contra hn
      obtain ⟨x, hx, -⟩ := hh
      have : (s.record n).serial = some x := hx
      rw [hle hn] at this
      cases this
    · refine ((h n).plot k).trans ⟨fun hh => ⟨?_, hh⟩, And.right⟩
      by_contra hn
      have : (s.record n).plot = some k := hh
      rw [hle hn] at this
      cases this

theorem Standing.vacant_tidy : Record.vacant.standing.Tidy := (Record.tidy_iff.mp Record.vacant_tidy).1

/-- The records agree with all that refers to them exactly when their counts agree with the queues and their standing with the rest. -/
theorem State.tied_iff : s.tied ↔ s.queuesSound ∧ s.outline.Tied := by
  constructor
  · rintro ⟨htidy, hdrop, ⟨hserial, hplot, hstrangers⟩, hqueues, hranging, hentries⟩
    have ht : ∀ n, n < 480 → _ ∧ _ := fun n hn => Record.tidy_iff.mp (htidy n hn)
    have hport : ∀ n, n < 480 → (s.record n).port ≤ 3 := fun n hn => (ht n hn).1.port
    have hentered := State.entered_iff.mp ⟨hentries, hport⟩
    have hreferred := State.referred_iff.mp ⟨hdrop, ⟨hserial, hplot⟩, hranging, hport⟩
    refine ⟨⟨hqueues, fun n hn => (ht n hn).2⟩, fun n => ⟨?_, hreferred.1 n, hentered.1 n⟩, hstrangers⟩
    by_cases hn : n < 480
    · exact (ht n hn).1
    · rw [State.vacant_of_le (Nat.le_of_not_lt hn)]
      exact Standing.vacant_tidy
  · rintro ⟨⟨hqueues, hwait⟩, hat, hstrangers⟩
    have hport : ∀ n, n < 480 → (s.record n).port ≤ 3 := fun n _ => (hat n).tidy.port
    obtain ⟨hentries, -⟩ := State.entered_iff.mpr ⟨fun n => (hat n).entered, hport⟩
    obtain ⟨hdrop, ⟨hserial, hplot⟩, hranging, -⟩ := State.referred_iff.mpr ⟨fun n => (hat n).referred, hport⟩
    exact ⟨fun n hn => Record.tidy_iff.mpr ⟨(hat n).tidy, hwait n hn⟩, hdrop, ⟨hserial, hplot, hstrangers⟩, hqueues, hranging,
      hentries⟩

end Sys2Proof.Machine
end

section
/-! What every step but an upset keeps, fourth part: one record taken out of an outline, changed with what refers to it, and put back. -/

namespace Sys2Proof.Machine

variable {o : Outline} {r : Nat}

/-! ### Everything but one record -/

/-- Everything agrees with every record but `r`. -/
structure Outline.TiedBut (o : Outline) (r : Nat) : Prop where
  others : ∀ n, n ≠ r → o.TiedAt n
  strangers : o.strangersTied

theorem Outline.Tied.but (h : o.Tied) (r : Nat) : o.TiedBut r := ⟨fun n _ => h.at_ n, h.strangers⟩

theorem Outline.TiedBut.tied (h : o.TiedBut r) (hr : o.TiedAt r) : o.Tied where
  at_ n := by
    by_cases hn : n = r
    · rwa [hn]
    · exact h.others n hn
  strangers := h.strangers

/-- Two outlines that say the same of a record. -/
theorem Outline.TiedAt.congr {o' : Outline} {n : Nat} (h : o.TiedAt n) (hst : o'.standing n = o.standing n)
    (hholder : ∀ p d, o'.holder p d = some n ↔ o.holder p d = some n)
    (hserial : ∀ k, o'.bySerial k = some n ↔ o.bySerial k = some n)
    (hplot : ∀ k, o'.byPlot k = some n ↔ o.byPlot k = some n) (hphases : ∀ p, o'.phases p n = o.phases p n)
    (hteq : o'.teq = o.teq) : o'.TiedAt n where
  tidy := hst ▸ h.tidy
  referred := by
    refine ⟨fun p d => ?_, fun k => ?_, fun k => ?_, ?_⟩
    · rw [hst, hholder, h.referred.holder]
    · rw [hst, hserial, h.referred.serial]
    · rw [hst, hplot, h.referred.plot]
    · rw [hst, hteq]
      exact h.referred.ranging
  entered := by
    refine ⟨?_, ?_, ?_⟩
    · rw [hst]
      simpa only [hphases] using h.entered.elsewhere
    · rw [hst, hphases]
      exact h.entered.idle
    · rw [hst, hphases]
      exact h.entered.underWay

theorem Outline.TiedBut.stand (h : o.TiedBut r) (g : Standing → Standing) : (o.stand r g).TiedBut r :=
  ⟨fun n hn => (h.others n hn).congr (o.stand_ne hn g) (fun _ _ => Iff.rfl) (fun _ => Iff.rfl) (fun _ => Iff.rfl) (fun _ => rfl)
    rfl, h.strangers⟩

theorem Outline.TiedBut.rephase (h : o.TiedBut r) (p : Nat) (f : List Phase → List Phase) : (o.rephase p r f).TiedBut r :=
  ⟨fun n hn => (h.others n hn).congr rfl (fun _ _ => Iff.rfl) (fun _ => Iff.rfl) (fun _ => Iff.rfl)
    (fun _ => if_neg fun hc => hn hc.2.1) rfl, h.strangers⟩

/-- A key that no other record holds. -/
theorem eq_some_iff_of_own {v w : Option Nat} {n : Nat} {c : Prop} [Decidable c] (hn : n ≠ r) (hv : ∀ m, v = some m → m = r)
    (hw : c → ∀ m, w = some m → m = r) : (if c then v else w) = some n ↔ w = some n := by
  split
  · next hc => exact iff_of_false (fun h => hn (hv n h)) (fun h => hn (hw hc n h))
  · rfl

theorem Outline.TiedBut.hold (h : o.TiedBut r) {p d : Nat} {v : Option Nat} (hv : ∀ m, v = some m → m = r)
    (hw : ∀ m, o.holder p d = some m → m = r) : (o.hold p d v).TiedBut r :=
  ⟨fun n hn => (h.others n hn).congr rfl
    (fun q e => eq_some_iff_of_own hn hv fun hc => by rw [hc.1, hc.2.1]; exact hw)
    (fun _ => Iff.rfl) (fun _ => Iff.rfl) (fun _ => rfl) rfl, h.strangers⟩

theorem Outline.TiedBut.indexPlot (h : o.TiedBut r) {k : Nat} {v : Option Nat} (hv : ∀ m, v = some m → m = r)
    (hw : ∀ m, o.byPlot k = some m → m = r) : (o.indexPlot k v).TiedBut r :=
  ⟨fun n hn => (h.others n hn).congr rfl (fun _ _ => Iff.rfl) (fun _ => Iff.rfl)
    (fun j => eq_some_iff_of_own hn hv fun hc => by rw [hc]; exact hw) (fun _ => rfl) rfl, h.strangers⟩

/-- A serial that goes to record `r` is no longer a stranger's. -/
theorem Outline.TiedBut.indexSerial (h : o.TiedBut r) {k : Nat} {v : Option Nat} (hv : ∀ m, v = some m → m = r)
    (hw : ∀ m, o.bySerial k = some m → m = r) {es : List Stranger}
    (hes : ∀ e ∈ es, (e.serial.toNat ≠ k ∧ e ∈ o.strangers) ∨ (v = none ∧ e.serial.toNat = k ∧ e.port ≤ 3)
      ∨ (v = none ∧ e ∈ o.strangers)) :
    ({ o.indexSerial k v with strangers := es } : Outline).TiedBut r where
  others n hn := (h.others n hn).congr rfl (fun _ _ => Iff.rfl)
    (fun j => eq_some_iff_of_own hn hv fun hc => by rw [hc]; exact hw) (fun _ => Iff.rfl) (fun _ => rfl) rfl
  strangers e he := by
    change (if e.serial.toNat = k then v else o.bySerial e.serial.toNat) = none ∧ e.port ≤ 3
    rcases hes e he with ⟨hne, hmem⟩ | ⟨hnone, heq, hport⟩ | ⟨hnone, hmem⟩
    · rw [if_neg hne]
      exact h.strangers e hmem
    · rw [if_pos heq]
      exact ⟨hnone, hport⟩
    · obtain ⟨hs, hp⟩ := h.strangers e hmem
      refine ⟨?_, hp⟩
      split
      · exact hnone
      · exact hs

/-! ### A record that holds a drop id -/

/-- Record `r` holds a drop id, and everything but its state, its round trip and its entry on its own port agrees with it. -/
structure Outline.Placed (o : Outline) (r : Nat) : Prop where
  lt : r < 480
  port : (o.standing r).port ≤ 3
  held : (o.standing r).dropId ≠ 0
  dropId : (o.standing r).dropId ≤ Config.maxDropId
  preferred : ∀ d, (o.standing r).preferred = some d → 1 ≤ d ∧ d ≤ Config.maxDropId
  serial : (o.standing r).serial.isSome = true
  plot : (o.standing r).plot ≠ none
  failures : (o.standing r).failures < 3
  referred : o.Referred r
  elsewhere : ∀ p, p ≠ (o.standing r).port → o.phases p r = []

theorem RecState.not_resting {st : RecState} (h : st.activating = true ∨ st.ranged = true) :
    st ≠ .vacant ∧ st ≠ .damaged ∧ st ≠ .barred := by
  refine ⟨?_, ?_, ?_⟩ <;> rintro rfl <;> simp [RecState.activating, RecState.ranged] at h

theorem Outline.TiedAt.placed (h : o.TiedAt r) (hr : r < 480)
    (hst : (o.standing r).state.activating = true ∨ (o.standing r).state.ranged = true) : o.Placed r := by
  obtain ⟨hvacant, hdamaged, hbarred⟩ := RecState.not_resting hst
  obtain ⟨ht, href, hent⟩ := h
  exact
    { lt := hr
      port := ht.port
      held := ht.held.mpr hst
      dropId := ht.dropId
      preferred := ht.preferred
      serial := ht.serial hst
      plot := fun hp => (ht.plot.mp hp).elim hvacant hdamaged
      failures := lt_of_le_of_ne ht.failures fun hf => hbarred (ht.barred.mp hf)
      referred := href
      elsewhere := hent.elsewhere }

/-- A change of the record's standing that leaves where it is and what it is called. -/
theorem Outline.Placed.stand (h : o.Placed r) (g : Standing → Standing)
    (hg : ∀ c, (g c).port = c.port ∧ (g c).dropId = c.dropId ∧ (g c).preferred = c.preferred ∧ (g c).serial = c.serial
      ∧ (g c).plot = c.plot)
    (hf : (g (o.standing r)).failures < 3)
    (hranging : ∀ x, (g (o.standing r)).ranging = some x → x.roundTrip + x.eqd = o.teq (o.standing r).port
      ∧ x.length = (x.roundTrip * 817 + 5000) / 10000) : (o.stand r g).Placed r := by
  have hself := o.stand_self h.lt g
  obtain ⟨hport, hdrop, hpref, hserial, hplot⟩ := hg (o.standing r)
  refine ⟨h.lt, ?_, ?_, ?_, ?_, ?_, ?_, ?_, ⟨?_, ?_, ?_, ?_⟩, ?_⟩
  · rw [hself, hport]; exact h.port
  · rw [hself, hdrop]; exact h.held
  · rw [hself, hdrop]; exact h.dropId
  · rw [hself, hpref]; exact h.preferred
  · rw [hself, hserial]; exact h.serial
  · rw [hself, hplot]; exact h.plot
  · rw [hself]; exact hf
  · rw [hself, hport, hdrop]; exact h.referred.holder
  · rw [hself, hserial]; exact h.referred.serial
  · rw [hself, hplot]; exact h.referred.plot
  · rw [hself, hport]; exact hranging
  · rw [hself, hport]; exact h.elsewhere

theorem Outline.Placed.rephase (h : o.Placed r) (f : List Phase → List Phase) {p : Nat} (hp : (o.standing r).port = p) :
    (o.rephase p r f).Placed r :=
  ⟨h.lt, h.port, h.held, h.dropId, h.preferred, h.serial, h.plot, h.failures, ⟨h.referred.1, h.referred.2, h.referred.3, h.referred.4⟩,
    fun q hq => (if_neg fun hc => hq (hc.1.trans hp.symm)).trans (h.elsewhere q hq)⟩

theorem Outline.rephase_self (o : Outline) {p : Nat} (hp : p < 4) (f : List Phase → List Phase) :
    (o.rephase p r f).phases p r = f (o.phases p r) := if_pos ⟨rfl, rfl, hp⟩

/-- Such a record under activation, with its entry in the phase of its state. -/
theorem Outline.Placed.tiedAt_underWay (h : o.Placed r) {ph : Phase} (hph : o.phases (o.standing r).port r = [ph])
    (hst : (o.standing r).state = ph.recordState)
    (hranging : (o.standing r).ranging.isSome = true ↔ ph.recordState = .levelling) : o.TiedAt r := by
  have hact : (o.standing r).state.activating = true := by rw [hst]; cases ph <;> rfl
  have hranged : (o.standing r).state.ranged = false := by rw [hst]; cases ph <;> rfl
  obtain ⟨hvacant, hdamaged, hbarred⟩ := RecState.not_resting (.inl hact)
  refine ⟨⟨h.port, h.dropId, h.preferred, iff_of_true h.held (.inl hact), ?_, iff_of_false h.plot ?_, ?_, fun _ => h.serial,
    h.failures.le, iff_of_false h.failures.ne hbarred⟩, h.referred, h.elsewhere, fun hc => ?_, fun _ => ⟨ph, hph, hst⟩⟩
  · rw [hranging, hst, ← hst, hranged, hst]
    simp
  · exact fun hc => hc.elim hvacant hdamaged
  · exact fun hc => (hc.elim hvacant hdamaged).elim
  · rw [hact] at hc
    cases hc

/-- Such a record in QUERY, READY or ACTIVE, with no entry left. -/
theorem Outline.Placed.tiedAt_ranged (h : o.Placed r) (hst : (o.standing r).state.ranged = true)
    (hph : o.phases (o.standing r).port r = []) (hranging : (o.standing r).ranging.isSome = true) : o.TiedAt r := by
  obtain ⟨hvacant, hdamaged, hbarred⟩ := RecState.not_resting (.inr hst)
  refine ⟨⟨h.port, h.dropId, h.preferred, iff_of_true h.held (.inr hst), iff_of_true hranging (.inr hst),
    iff_of_false h.plot (fun hc => hc.elim hvacant hdamaged), fun hc => (hc.elim hvacant hdamaged).elim, fun _ => h.serial,
    h.failures.le, iff_of_false h.failures.ne hbarred⟩, h.referred, h.elsewhere, fun _ => hph, fun hc => ?_⟩
  rw [RecState.not_activating_of_ranged hst] at hc
  cases hc

/-! ### A record without a drop id -/

/-- A record without a drop id, a round trip or an entry. -/
theorem Outline.tiedAt_resting (ht : (o.standing r).Tidy) (hd : (o.standing r).dropId = 0)
    (hranging : (o.standing r).ranging = none) (hholder : ∀ p d, o.holder p d ≠ some r) (hphases : ∀ p, o.phases p r = [])
    (hserial : ∀ k, o.bySerial k = some r ↔ ∃ x, (o.standing r).serial = some x ∧ x.toNat = k)
    (hplot : ∀ k, o.byPlot k = some r ↔ (o.standing r).plot = some k) : o.TiedAt r := by
  refine ⟨ht, ⟨fun p d => iff_of_false (hholder p d) ?_, hserial, hplot, fun g hg => ?_⟩, fun p _ => hphases p,
    fun _ => hphases _, fun ha => ?_⟩
  · rintro ⟨-, rfl, h0⟩
    exact h0 hd
  · rw [hranging] at hg
    cases hg
  · exact absurd hd (ht.held.mpr (.inl ha))

/-- What refers to a record in none of the states that hold a drop id. -/
theorem Outline.TiedAt.resting (h : o.TiedAt r) (ha : (o.standing r).state.activating = false)
    (hr : (o.standing r).state.ranged = false) :
    (o.standing r).dropId = 0 ∧ (o.standing r).ranging = none ∧ (∀ p d, o.holder p d ≠ some r) ∧ ∀ p, o.phases p r = [] := by
  have hd : (o.standing r).dropId = 0 := by
    by_contra hd
    rcases h.tidy.held.mp hd with hc | hc
    · simp [ha] at hc
    · simp [hr] at hc
  refine ⟨hd, ?_, fun p d hh => ?_, fun p => ?_⟩
  · rw [← Option.not_isSome_iff_eq_none]
    intro hs
    rcases h.tidy.ranging.mp hs with hc | hc
    · rw [hc] at ha
      cases ha
    · simp [hr] at hc
  · obtain ⟨-, rfl, h0⟩ := (h.referred.holder p d).mp hh
    exact h0 hd
  · by_cases hp : p = (o.standing r).port
    · rw [hp]
      exact h.entered.idle ha
    · exact h.entered.elsewhere p hp

/-- The drop id that a record gives up is its own. -/
theorem Outline.Placed.holder_own (h : o.Placed r) (m : Nat)
    (hm : o.holder (o.standing r).port (o.standing r).dropId = some m) : m = r := by
  have hself := (h.referred.holder _ _).mpr ⟨rfl, rfl, h.held⟩
  rw [hm] at hself
  exact Option.some.inj hself

/-- No drop id is left once it is given up. -/
theorem Outline.Placed.hold_none (h : o.Placed r) (p d : Nat) :
    (o.hold (o.standing r).port (o.standing r).dropId none).holder p d ≠ some r := by
  change (if _ then none else o.holder p d) ≠ some r
  split
  · exact nofun
  · next hne =>
    intro hh
    obtain ⟨rfl, rfl, -⟩ := (h.referred.holder p d).mp hh
    exact hne ⟨rfl, rfl, Nat.lt_succ_of_le h.port⟩

/-- A record gives up its drop id, its round trip and its entry, and goes back to EXPECTED or to BARRED (R126, R146). -/
theorem Outline.Placed.tied_freed (h : o.Placed r) (hbut : o.TiedBut r) {o' : Outline}
    (ho' : o' = (o.hold (o.standing r).port (o.standing r).dropId none) ∨
      o' = (o.hold (o.standing r).port (o.standing r).dropId none).rephase (o.standing r).port r (fun _ => []))
    (hph : o'.phases (o.standing r).port r = []) (g : Standing → Standing)
    (hg : ∀ c, (g c).port = c.port ∧ (g c).dropId = 0 ∧ (g c).preferred = c.preferred ∧ (g c).serial = c.serial
      ∧ (g c).plot = c.plot ∧ (g c).ranging = none)
    (hst : ((g (o.standing r)).state = .expected ∧ (g (o.standing r)).failures < 3)
      ∨ ((g (o.standing r)).state = .barred ∧ (g (o.standing r)).failures = 3)) : (o'.stand r g).Tied := by
  obtain ⟨hport, hdrop, hpref, hserial, hplot, hranging⟩ := hg (o.standing r)
  have hheld := hbut.hold (p := (o.standing r).port) (d := (o.standing r).dropId) (v := none) nofun h.holder_own
  have hb : o'.TiedBut r := by
    rcases ho' with rfl | rfl
    · exact hheld
    · exact hheld.rephase _ _
  have hsame : o'.standing = o.standing ∧ o'.bySerial = o.bySerial ∧ o'.byPlot = o.byPlot
      ∧ (∀ p d, o'.holder p d ≠ some r) ∧ ∀ p, p ≠ (o.standing r).port → o'.phases p r = [] := by
    rcases ho' with rfl | rfl
    · exact ⟨rfl, rfl, rfl, h.hold_none, h.elsewhere⟩
    · exact ⟨rfl, rfl, rfl, h.hold_none, fun p hp => (if_neg fun hc => hp hc.1).trans (h.elsewhere p hp)⟩
  obtain ⟨hstanding, hbs, hbp, hholder, helse⟩ := hsame
  have hself : (o'.stand r g).standing r = g (o.standing r) := by rw [o'.stand_self h.lt, hstanding]
  refine (hb.stand g).tied (Outline.tiedAt_resting ?_ (by rw [hself, hdrop]) (by rw [hself, hranging]) hholder (fun p => ?_)
    (fun k => ?_) (fun k => ?_))
  · rw [hself]
    have hrest : (g (o.standing r)).state.activating = false ∧ (g (o.standing r)).state.ranged = false
        ∧ (g (o.standing r)).state ≠ .vacant ∧ (g (o.standing r)).state ≠ .damaged := by
      rcases hst with ⟨hs, -⟩ | ⟨hs, -⟩ <;> simp [hs, RecState.activating, RecState.ranged]
    obtain ⟨ha, hr, hv, hda⟩ := hrest
    have hp := h.plot
    refine ⟨hport ▸ h.port, by rw [hdrop]; exact Nat.zero_le _, hpref ▸ h.preferred, ?_, ?_, ?_, ?_, ?_, ?_, ?_⟩
    · simp [hdrop, ha, hr]
    · have hl : (g (o.standing r)).state ≠ .levelling := by rintro hl; rw [hl] at ha; cases ha
      simp [hranging, hr, hl]
    · simp [hplot, hp, hv, hda]
    · simp [hv, hda]
    · simp [ha, hr]
    · rcases hst with ⟨-, hf⟩ | ⟨-, hf⟩ <;> omega
    · rcases hst with ⟨hs, hf⟩ | ⟨hs, hf⟩
      · simp [hs, hf.ne]
      · simp [hs, hf]
  · by_cases hp : p = (o.standing r).port
    · rw [hp]
      exact hph
    · exact helse p hp
  · rw [hself, hserial]
    change o'.bySerial k = some r ↔ _
    rw [hbs]
    exact h.referred.serial k
  · rw [hself, hplot]
    change o'.byPlot k = some r ↔ _
    rw [hbp]
    exact h.referred.plot k

end Sys2Proof.Machine
end

section
/-! What every step but an upset keeps, fifth part: the record that an activation, an upkeep or a naming works on. -/

namespace Sys2Proof.Machine

/-! ### Sound parts, and steps that uphold them -/

/-- A part whose message path and whose outline agree with its records. -/
structure State.Sound (s : State) : Prop where
  queues : s.queuesSound
  tied : s.outline.Tied

/-- Work that spoils no record's verification, and leaves a part whose records all verify sound (R162, R163). -/
structure State.Upholds (s t : State) : Prop where
  verifies : ∀ n, s.verifies n = true → t.verifies n = true
  sound : s.allVerify → s.Sound → t.Sound

theorem State.Upholds.refl (s : State) : s.Upholds s := ⟨fun _ => id, fun _ => id⟩

theorem State.Upholds.trans {s t u : State} (h : s.Upholds t) (h' : t.Upholds u) : s.Upholds u :=
  ⟨fun n hn => h'.verifies n (h.verifies n hn),
    fun hv hs => h'.sound (fun n hn => h.verifies n (hv n hn)) (h.sound hv hs)⟩

/-- What each step of a fold upholds, the fold upholds. -/
theorem eachNumber_upholds {f : State → Nat → State} {ns : List Nat} (h : ∀ (t : State) n, n ∈ ns → t.Upholds (f t n)) (s : State) :
    s.Upholds (eachNumber f ns s) :=
  eachNumber_keeps (P := fun t => s.Upholds t) (fun t n hn ht => ht.trans (h t n hn)) (.refl s)

theorem State.verifies_of_allVerify {s : State} (h : s.allVerify) (n : Nat) : s.verifies n = true := by
  by_contra hn
  have hn' : s.verifies n = false := by simpa using hn
  exact hn (h n (s.lt_of_verifies_false hn'))

/-- Damage is found only where a record does not verify. -/
theorem State.damage_upholds {s : State} {n : Nat} (h : s.verifies n = false) : s.Upholds (s.damage n) where
  verifies m hm := by rwa [s.damage_verifies_ne (by rintro rfl; rw [h] at hm; cases hm)]
  sound hv := by rw [State.verifies_of_allVerify hv n] at h; cases h

/-! ### The standing of a record worked on -/

/-- A change of a record's standing that leaves where it is and what it is called. -/
def Standing.Stays (g : Standing → Standing) : Prop :=
  ∀ c, (g c).port = c.port ∧ (g c).dropId = c.dropId ∧ (g c).preferred = c.preferred ∧ (g c).serial = c.serial
    ∧ (g c).plot = c.plot

theorem Outline.Placed.tied_underWay {o : Outline} {r : Nat} (h : o.Placed r) (hbut : o.TiedBut r) {g : Standing → Standing}
    (hg : Standing.Stays g) (hf : (g (o.standing r)).failures = (o.standing r).failures) {ph : Phase}
    (hst : (g (o.standing r)).state = ph.recordState)
    (hranging : ((g (o.standing r)).ranging = none ∧ ph.recordState ≠ .levelling)
      ∨ ((g (o.standing r)).ranging = (o.standing r).ranging ∧ ((o.standing r).ranging.isSome = true ↔ ph.recordState = .levelling)))
    {f : List Phase → List Phase} (hph : f (o.phases (o.standing r).port r) = [ph]) :
    ((o.stand r g).rephase (o.standing r).port r f).Tied := by
  have hport : (g (o.standing r)).port = (o.standing r).port := (hg _).1
  have hself := o.stand_self h.lt g
  have hplaced : ((o.stand r g).rephase (o.standing r).port r f).Placed r := by
    refine (h.stand g hg (hf ▸ h.failures) fun x hx => ?_).rephase f (by rw [hself, hport])
    rcases hranging with ⟨hnone, -⟩ | ⟨hsame, -⟩
    · rw [hnone] at hx
      cases hx
    · exact h.referred.ranging x (hsame ▸ hx)
  have hstanding : ((o.stand r g).rephase (o.standing r).port r f).standing r = g (o.standing r) := hself
  refine ((hbut.stand g).rephase _ f).tied (hplaced.tiedAt_underWay (ph := ph) ?_ (hstanding ▸ hst) ?_)
  · rw [hstanding, hport, Outline.rephase_self _ (Nat.lt_succ_of_le h.port)]
    exact hph
  · rw [hstanding]
    rcases hranging with ⟨hnone, hne⟩ | ⟨hsame, hiff⟩
    · exact iff_of_false (by simp [hnone]) hne
    · rwa [hsame]

theorem Outline.Placed.tied_ranged {o : Outline} {r : Nat} (h : o.Placed r) (hbut : o.TiedBut r) {g : Standing → Standing}
    (hg : Standing.Stays g) (hf : (g (o.standing r)).failures < 3) (hst : (g (o.standing r)).state.ranged = true)
    (hranging : (g (o.standing r)).ranging.isSome = true ∧ ∀ x, (g (o.standing r)).ranging = some x →
      x.roundTrip + x.eqd = o.teq (o.standing r).port ∧ x.length = (x.roundTrip * 817 + 5000) / 10000)
    (hph : o.phases (o.standing r).port r = []) : (o.stand r g).Tied := by
  have hself := o.stand_self h.lt g
  refine (hbut.stand g).tied ((h.stand g hg hf hranging.2).tiedAt_ranged ?_ ?_ ?_)
  · rw [hself]
    exact hst
  · rw [hself, (hg _).1]
    exact hph
  · rw [hself]
    exact hranging.1

/-! ### Entries and phases -/

variable {s : State}

theorem State.phaseOf_eq (p r : Nat) : s.phaseOf p r = (s.outline.phases p r).head? := by
  change _ = (phasesIn (s.port p).activation r).head?
  rw [phasesIn, List.head?_map, List.head?_filter]
  rfl

/-- A record with an entry in a phase is under activation on that port and has no other entry. -/
theorem State.Sound.of_phaseOf (h : s.Sound) {p r : Nat} {ph : Phase} (hph : s.phaseOf p r = some ph) :
    r < 480 ∧ s.outline.Placed r ∧ (s.record r).port = p ∧ p < 4 ∧ s.outline.phases p r = [ph]
      ∧ (s.record r).state = ph.recordState := by
  rw [State.phaseOf_eq] at hph
  have ht := h.tied.at_ r
  have hp : p = (s.record r).port := by
    by_contra hp
    rw [ht.entered.elsewhere p hp] at hph
    cases hph
  subst hp
  have hact : (s.record r).state.activating = true := by
    by_contra ha
    have hnil := ht.entered.idle (Bool.eq_false_iff.mpr ha)
    rw [show s.outline.phases (s.record r).port r = [] from hnil] at hph
    cases hph
  obtain ⟨ph', hph', hst⟩ := ht.entered.underWay hact
  have hlt : r < 480 := s.lt_of_state fun hv => by
    rw [hv] at hact
    cases hact
  rw [show s.outline.phases (s.record r).port r = [ph'] from hph'] at hph
  obtain rfl := Option.some.inj hph
  exact ⟨hlt, ht.placed hlt (.inl hact), rfl, Nat.lt_succ_of_le ht.tidy.port, hph', hst⟩

end Sys2Proof.Machine
end

section
/-! What every step but an upset keeps, sixth part: the operations of activation, upkeep and naming verify what verified (R162). -/

namespace Sys2Proof.Machine

variable (s : State)

/-! ### Verification after each operation -/

@[simp] theorem State.queueSetDelay_verifies (p r n : Nat) : (s.queueSetDelay p r).verifies n = s.verifies n := by
  unfold State.queueSetDelay
  split <;> simp

@[simp] theorem State.fillSetDelay_verifies (p n : Nat) : (s.fillSetDelay p).verifies n = s.verifies n :=
  eachNumber_field (fun t => t.verifies n) (fun t r _ => t.queueSetDelay_verifies p r n) s

@[simp] theorem State.freeDrop_verifies (p d n : Nat) : (s.freeDrop p d).verifies n = s.verifies n := rfl

@[simp] theorem State.holdDrop_verifies (p d r n : Nat) : (s.holdDrop p d r).verifies n = s.verifies n := rfl

@[simp] theorem State.setPhase_verifies (p r n : Nat) (ph : Phase) : (s.setPhase p r ph).verifies n = s.verifies n := rfl

@[simp] theorem State.removeEntry_verifies (p r n : Nat) : (s.removeEntry p r).verifies n = s.verifies n := rfl

@[simp] theorem State.appendEntry_verifies (p r n : Nat) : (s.appendEntry p r).verifies n = s.verifies n := rfl

@[simp] theorem State.entryToTail_verifies (p r n : Nat) : (s.entryToTail p r).verifies n = s.verifies n := rfl

@[simp] theorem State.releaseHeld_verifies (r n : Nat) : (s.releaseHeld r).verifies n = s.verifies n := by
  rw [State.verifies, State.stored_congr (s.releaseHeld_records r), State.verifies]

@[simp] theorem State.setCondition_verifies (p r k n : Nat) : (s.setCondition p r k).verifies n = s.verifies n := by
  simp [State.setCondition]

@[simp] theorem State.setLastLevel_verifies (r k n : Nat) : (s.setLastLevel r k).verifies n = s.verifies n := by
  simp [State.setLastLevel]

@[simp] theorem State.recordRanging_verifies (p r n : Nat) (g : Ranging) : (s.recordRanging p r g).verifies n = s.verifies n := by
  simp [State.recordRanging]

@[simp] theorem State.nameExpected_verifies (p r n : Nat) (cause : Cause) (heard : Option Bool) :
    (s.nameExpected p r cause heard).verifies n = s.verifies n := by
  unfold State.nameExpected
  split
  · rfl
  · split <;> simp

@[simp] theorem State.reenter_verifies (p r n : Nat) (cause : Cause) (heard : Option Bool) :
    (s.reenter p r cause heard).verifies n = s.verifies n := by
  unfold State.reenter
  split <;> simp

@[simp] theorem State.restarted_verifies (p r n : Nat) (heard : Option Bool) :
    (s.restart p r heard).verifies n = s.verifies n := s.restart_verifies p r n heard

@[simp] theorem State.lose_verifies (r n : Nat) (cause : Cause) : (s.lose r cause).verifies n = s.verifies n := by
  simp [State.lose]

@[simp] theorem State.failActivation_verifies (p r n : Nat) (cause : Cause) :
    (s.failActivation p r cause).verifies n = s.verifies n := by
  simp [State.failActivation]

@[simp] theorem State.attemptFailure_verifies (p r n : Nat) (cause : Cause) :
    (s.attemptFailure p r cause).verifies n = s.verifies n := by
  simp only [State.attemptFailure]
  split <;> simp

@[simp] theorem State.finish_verifies (p r k n : Nat) : (s.finish p r k).verifies n = s.verifies n := by
  simp only [State.finish]
  split
  · simp
  · split
    · simp
    · split <;> simp

@[simp] theorem State.levellingRound_verifies (p r k i n : Nat) (first : Bool) :
    (s.levellingRound p r k i first).verifies n = s.verifies n := by
  cases first <;> simp [State.levellingRound]

@[simp] theorem State.evaluateLevel_verifies (p r k n : Nat) (first : Bool) :
    (s.evaluateLevel p r k first).verifies n = s.verifies n := by
  simp only [State.evaluateLevel]
  split <;> simp

@[simp] theorem State.echoCaptured_verifies (p r n : Nat) (e : Captured) :
    (s.echoCaptured p r e).verifies n = s.verifies n := by
  simp only [State.echoCaptured]
  split <;> simp

@[simp] theorem State.verifyCaptured_verifies (p r n : Nat) (e : Captured) :
    (s.verifyCaptured p r e).verifies n = s.verifies n := by
  simp only [State.verifyCaptured]
  split
  · simp
  · split
    · simp
    · simp
    · split <;> simp

@[simp] theorem State.rerange_verifies (p r n : Nat) : (s.rerange p r).verifies n = s.verifies n := by
  unfold State.rerange
  split <;> simp

@[simp] theorem State.serveLevel_verifies (p r k n : Nat) : (s.serveLevel p r k).verifies n = s.verifies n := by
  simp only [State.serveLevel]
  split <;> simp

@[simp] theorem State.upkeepMiss_verifies (r n : Nat) : (s.upkeepMiss r).verifies n = s.verifies n := by
  unfold State.upkeepMiss
  split <;> simp

@[simp] theorem State.cleanEcho_verifies (p r n : Nat) (e : Captured) : (s.cleanEcho p r e).verifies n = s.verifies n := by
  simp only [State.cleanEcho]
  split
  · simp
  · split
    · simp
    · simp
    · split <;> simp

end Sys2Proof.Machine
end

section
/-! What every step but an upset keeps, seventh part: the counts and the delay sync of the record worked on (R4, R76, R77, R79). -/

namespace Sys2Proof.Machine

variable {s : State}

/-! ### Changes of one record, of ports, and descriptors queued -/

theorem State.queuesSound.kept (h : s.queuesSound) {n : Nat} {f : Record → Record}
    (hf : ∀ c, (f c).outstanding = c.outstanding ∧ (f c).delaySync = c.delaySync ∧ (f c).ranging = c.ranging) :
    (s.modRecord n f).queuesSound :=
  s.modRecord_queues (fun _ => by
    obtain ⟨ho, hd, hr⟩ := hf (s.record n)
    exact ⟨ho, by rw [hd], fun hw hc => by rw [hr]; exact hw (hd ▸ hc)⟩) h

theorem State.queuesSound.changed (h : s.queuesSound) {n : Nat} {f : Record → Record}
    (hf : ∀ c, (f c).outstanding = c.outstanding ∧ (f c).delaySync = c.delaySync ∧ (f c).ranging = c.ranging) :
    (s.change n f).queuesSound :=
  State.queuesSound_congr (s := s.modRecord n f) rfl (fun _ _ => rfl) (h.kept hf)

/-- The record loses its round trip (R79). -/
theorem State.queuesSound.unranged (h : s.queuesSound) {n : Nat} {f : Record → Record}
    (hf : ∀ c, (f c).outstanding = c.outstanding ∧ (f c).delaySync = c.delaySync.eqdAbsent ∧ (f c).ranging = none) :
    (s.change n f).queuesSound :=
  s.change_queues (fun _ => by
    obtain ⟨ho, hd, hr⟩ := hf (s.record n)
    obtain ⟨-, hq, hw⟩ := (s.record n).withoutRanging_owesAs
    exact ⟨ho, by rw [hd]; exact hq, fun h1 h2 => by rw [hr]; exact hw h1 (hd.symm.trans h2)⟩) h

/-- A RELEASE names no record, and a port above 3 has no queue. -/
theorem State.queuesSound.released (h : s.queuesSound) (p x d : Nat) : (s.enqueue p (.release x d)).queuesSound := by
  by_cases hp : p < 4
  · exact s.enqueue_queues hp (fun _ => rfl) h
  · rwa [s.enqueue_release_eq, s.modPort_of_le (Nat.le_of_not_lt hp)]

theorem State.queuesSound.portKept (h : s.queuesSound) {p : Nat} {f : Port → Port} (hf : ∀ q, (f q).outbound = q.outbound) :
    (s.modPort p f).queuesSound := s.modPort_queues (hf _) h

theorem State.queuesSound.removeEntry (h : s.queuesSound) (p r : Nat) : (s.removeEntry p r).queuesSound := h.portKept fun _ => rfl

theorem State.queuesSound.appendEntry (h : s.queuesSound) (p r : Nat) : (s.appendEntry p r).queuesSound := h.portKept fun _ => rfl

theorem State.queuesSound.setPhase (h : s.queuesSound) (p r : Nat) (ph : Phase) : (s.setPhase p r ph).queuesSound :=
  h.portKept fun _ => rfl

theorem State.queuesSound.entryToTail (h : s.queuesSound) (p r : Nat) : (s.entryToTail p r).queuesSound :=
  (h.removeEntry p r).appendEntry p r

theorem State.queuesSound.holdDrop (h : s.queuesSound) (p d r : Nat) : (s.holdDrop p d r).queuesSound := h.portKept fun _ => rfl

theorem State.queuesSound.freeDrop (h : s.queuesSound) (p d : Nat) : (s.freeDrop p d).queuesSound := h.portKept fun _ => rfl

theorem State.queuesSound.flag (h : s.queuesSound) (p : Nat) (f : Conditions → Conditions) : (s.flag p f).queuesSound :=
  h.portKept fun _ => rfl

/-! ### The operations (R89 to R92, R118 to R129, R140 to R146) -/

theorem State.queuesSound.releaseHeld (h : s.queuesSound) (r : Nat) : (s.releaseHeld r).queuesSound := by
  change State.queuesSound (if (s.record r).dropId = 0 then s else _)
  split
  · exact h
  · exact (h.released _ _ _).freeDrop _ _

theorem State.queuesSound.lose (h : s.queuesSound) (r : Nat) (cause : Cause) : (s.lose r cause).queuesSound :=
  (h.releaseHeld r).unranged fun _ => ⟨rfl, rfl, rfl⟩

theorem State.queuesSound.failActivation (h : s.queuesSound) (p r : Nat) (cause : Cause) :
    (s.failActivation p r cause).queuesSound :=
  ((h.releaseHeld r).removeEntry p r).unranged fun c => by split <;> exact ⟨rfl, rfl, rfl⟩

theorem State.queuesSound.setCondition (h : s.queuesSound) (p r k : Nat) : (s.setCondition p r k).queuesSound :=
  h.kept fun _ => ⟨rfl, rfl, rfl⟩

theorem State.queuesSound.setLastLevel (h : s.queuesSound) (r k : Nat) : (s.setLastLevel r k).queuesSound :=
  h.kept fun _ => ⟨rfl, rfl, rfl⟩

section
variable {p : Nat} (hp : p < 4)
include hp

theorem State.queuesSound.named (h : s.queuesSound) (r : Nat) : (s.enqueue p (.name r)).queuesSound :=
  s.enqueue_queues hp (fun _ => rfl) h

theorem State.queuesSound.levelled (h : s.queuesSound) (r : Nat) : (s.enqueue p (.level r)).queuesSound :=
  s.enqueue_queues hp (fun _ => rfl) h

theorem State.queuesSound.opened (h : s.queuesSound) (r : Nat) : (s.enqueue p (.openDrop r)).queuesSound :=
  s.enqueue_queues hp (fun _ => rfl) h

theorem State.queuesSound.shut (h : s.queuesSound) (r : Nat) : (s.enqueue p (.shut r)).queuesSound :=
  s.enqueue_queues hp (fun _ => rfl) h

theorem State.queuesSound.nameExpected (h : s.queuesSound) (r : Nat) (cause : Cause) (heard : Option Bool) :
    (s.nameExpected p r cause heard).queuesSound := by
  unfold State.nameExpected
  split
  · exact h.flag p _
  · split
    · exact h.flag p _
    · next d _ =>
      refine State.queuesSound.appendEntry (State.queuesSound.named hp ?_ r) p r
      exact (h.holdDrop p d r).changed fun _ => ⟨rfl, rfl, rfl⟩

theorem State.queuesSound.reenter (h : s.queuesSound) (r : Nat) (cause : Cause) (heard : Option Bool) :
    (s.reenter p r cause heard).queuesSound := by
  have hshut : (if (s.record r).state = .active then s.enqueue p (.shut r) else s).queuesSound := by
    split
    · exact h.shut hp r
    · exact h
  refine State.queuesSound.appendEntry ?_ p r
  exact (hshut.named hp r).unranged fun _ => ⟨rfl, rfl, rfl⟩

theorem State.queuesSound.restart (h : s.queuesSound) (r : Nat) (heard : Option Bool) : (s.restart p r heard).queuesSound := by
  refine State.queuesSound.setPhase ?_ p r _
  exact (h.named hp r).unranged fun _ => ⟨rfl, rfl, rfl⟩

theorem State.queuesSound.attemptFailure (h : s.queuesSound) (r : Nat) (cause : Cause) :
    (s.attemptFailure p r cause).queuesSound := by
  have hattempt : (s.modRecord r (fun c => { c with attempts := c.attempts + 1 })).queuesSound :=
    h.kept fun _ => ⟨rfl, rfl, rfl⟩
  simp only [State.attemptFailure]
  split
  · refine State.queuesSound.entryToTail ?_ p r
    exact (hattempt.named hp r).unranged fun _ => ⟨rfl, rfl, rfl⟩
  · exact hattempt.failActivation p r cause

theorem State.queuesSound.finish (h : s.queuesSound) (r k : Nat) : (s.finish p r k).queuesSound := by
  simp only [State.finish]
  split
  · exact (h.setCondition p r k).failActivation p r _
  · have hremoved := h.removeEntry p r
    split
    · exact hremoved.changed fun _ => ⟨rfl, rfl, rfl⟩
    · split
      · refine State.queuesSound.opened hp ?_ r
        exact hremoved.changed fun _ => ⟨rfl, rfl, rfl⟩
      · exact hremoved.changed fun _ => ⟨rfl, rfl, rfl⟩

theorem State.queuesSound.levellingRound (h : s.queuesSound) (r k i : Nat) (first : Bool) :
    (s.levellingRound p r k i first).queuesSound := by
  refine State.queuesSound.setPhase (State.queuesSound.levelled hp ?_ r) p r _
  split
  · exact h.changed fun _ => ⟨rfl, rfl, rfl⟩
  · exact h.kept fun _ => ⟨rfl, rfl, rfl⟩

theorem State.queuesSound.recordRanging (h : s.queuesSound) (r : Nat) (g : Ranging) : (s.recordRanging p r g).queuesSound :=
  State.fillSetDelay_queues _ hp (s.modRecord_queues (fun _ => (s.record r).withRanging_owesAs g) h)

theorem State.queuesSound.serveLevel (h : s.queuesSound) (r k : Nat) : (s.serveLevel p r k).queuesSound := by
  simp only [State.serveLevel]
  split
  · exact h
  · refine State.queuesSound.levelled hp ?_ r
    exact h.kept fun _ => ⟨rfl, rfl, rfl⟩

end

end Sys2Proof.Machine
end

section
/-! What every step but an upset keeps, eighth part: the outline of the record worked on (R89 to R92, R118 to R129, R140 to R146). -/

namespace Sys2Proof.Machine

variable (s : State)

/-! ### What the operations do to the outline -/

@[simp] theorem State.setLastLevel_outline (r k : Nat) : (s.setLastLevel r k).outline = s.outline :=
  s.modRecord_outline_same fun _ => rfl

@[simp] theorem State.setCondition_outline (p r k : Nat) : (s.setCondition p r k).outline = s.outline :=
  s.modRecord_outline_same fun _ => rfl

/-- A record named again: NAMED, without a round trip (R90, R92, R124, R128, R129, R144). -/
def Standing.renamed (c : Standing) : Standing := { c with state := .named, ranging := none }

/-- A record whose drop id is given up: EXPECTED, without a round trip (R45, R146). -/
def Standing.lost (c : Standing) : Standing := { c with dropId := 0, ranging := none, state := .expected }

/-- A record whose activation has failed (R126). -/
def Standing.failed (c : Standing) : Standing :=
  { c with
    dropId := 0, ranging := none, failures := c.failures + 1
    state := if c.failures + 1 = 3 then .barred else .expected }

theorem State.releaseHeld_outline {r : Nat} (h : (s.record r).dropId ≠ 0) :
    (s.releaseHeld r).outline = s.outline.hold (s.record r).port (s.record r).dropId none := by
  rw [State.releaseHeld]
  simp only [if_neg h, State.freeDrop_outline, State.enqueue_outline]

theorem State.reenter_outline (p r : Nat) (cause : Cause) (heard : Option Bool) :
    (s.reenter p r cause heard).outline = (s.outline.stand r Standing.renamed).rephase p r (· ++ [.awaitEcho]) := by
  have hshut : (if (s.record r).state = .active then s.enqueue p (.shut r) else s).outline = s.outline := by
    split <;> simp
  simp only [State.reenter]
  rw [State.appendEntry_outline, State.change_outline _ Standing.renamed, State.enqueue_outline, hshut]
  exact fun _ => rfl

theorem State.restart_outline (p r : Nat) (heard : Option Bool) :
    (s.restart p r heard).outline = (s.outline.stand r Standing.renamed).rephase p r (List.map fun _ => .awaitEcho) := by
  simp only [State.restart]
  rw [State.setPhase_outline, State.change_outline _ Standing.renamed, State.enqueue_outline]
  exact fun _ => rfl

theorem State.lose_outline {r : Nat} (h : (s.record r).dropId ≠ 0) (cause : Cause) :
    (s.lose r cause).outline = (s.outline.hold (s.record r).port (s.record r).dropId none).stand r Standing.lost := by
  rw [State.lose, State.change_outline _ Standing.lost, s.releaseHeld_outline h]
  exact fun _ => rfl

theorem State.failActivation_outline {r : Nat} (h : (s.record r).dropId ≠ 0) (p : Nat) (cause : Cause) :
    (s.failActivation p r cause).outline =
      ((s.outline.hold (s.record r).port (s.record r).dropId none).rephase p r (fun _ => [])).stand r Standing.failed := by
  rw [State.failActivation, State.change_outline _ Standing.failed, State.removeEntry_outline, s.releaseHeld_outline h]
  intro c
  by_cases hf : c.failures + 1 = 3
  · rw [if_pos hf]
    simp [Standing.failed, Record.standing, Record.withoutRanging, hf]
  · rw [if_neg hf]
    simp [Standing.failed, Record.standing, Record.withoutRanging, hf]

theorem State.recordRanging_outline (p r : Nat) (g : Ranging) :
    (s.recordRanging p r g).outline = s.outline.stand r (fun c => { c with ranging := some g }) := by
  rw [State.recordRanging, State.fillSetDelay_outline, State.modRecord_outline _ (fun c => { c with ranging := some g })]
  exact fun _ => rfl

theorem State.levellingRound_outline (p r k i : Nat) (first : Bool) :
    (s.levellingRound p r k i first).outline =
      (s.outline.stand r (fun c => { c with state := .levelling })).rephase p r (List.map fun _ => .awaitVerify) := by
  cases first <;> simp only [State.levellingRound, if_true, Bool.false_eq_true, if_false]
  · rw [State.setPhase_outline, State.enqueue_outline, State.modRecord_outline _ (fun c => { c with state := .levelling })]
    exact fun _ => rfl
  · rw [State.setPhase_outline, State.enqueue_outline, State.change_outline _ (fun c => { c with state := .levelling })]
    exact fun _ => rfl

/-! ### A record worked on -/

/-- Record `r` of port `p` holds a drop id and has the entries `phs`; everything else is sound, and of the record all but its state and its
round trip agrees. -/
structure State.Working (s : State) (p r : Nat) (phs : List Phase) : Prop where
  queues : s.queuesSound
  others : s.outline.TiedBut r
  placed : s.outline.Placed r
  port : (s.record r).port = p
  phases : s.outline.phases p r = phs

variable {s} {p r : Nat} {phs : List Phase}

theorem State.Sound.working_of_phaseOf (h : s.Sound) {ph : Phase} (hph : s.phaseOf p r = some ph) : s.Working p r [ph] :=
  have ⟨_, hplaced, hport, _, hphases, _⟩ := h.of_phaseOf hph
  ⟨h.queues, h.tied.but r, hplaced, hport, hphases⟩

theorem State.Sound.working_of_ranged (h : s.Sound) (hst : (s.record r).state.ranged = true) :
    s.Working (s.record r).port r [] := by
  have hr : r < 480 := s.lt_of_state fun hv => by
    rw [hv] at hst
    cases hst
  have ht := h.tied.at_ r
  exact ⟨h.queues, h.tied.but r, ht.placed hr (.inr hst), rfl, ht.entered.idle (RecState.not_activating_of_ranged hst)⟩

theorem State.Working.port_lt (h : s.Working p r phs) : p < 4 := h.port ▸ Nat.lt_succ_of_le h.placed.port

theorem State.Working.dropId (h : s.Working p r phs) : (s.record r).dropId ≠ 0 := h.placed.held

theorem State.Working.teq (h : s.Working p r phs) : s.outline.teq (s.outline.standing r).port = (s.port p).config.teq :=
  congrArg (fun q => (s.port q).config.teq) h.port

/-- The same record worked on, in a part with the same outline. -/
theorem State.Working.congr (h : s.Working p r phs) {t : State} (hq : t.queuesSound) (ho : t.outline = s.outline) :
    t.Working p r phs := by
  have hstanding : (t.record r).standing = (s.record r).standing := congrFun (congrArg Outline.standing ho) r
  refine ⟨hq, ho ▸ h.others, ho ▸ h.placed, ?_, ho ▸ h.phases⟩
  exact (congrArg Standing.port hstanding).trans h.port

theorem State.Working.setLastLevel (h : s.Working p r phs) (k : Nat) : (s.setLastLevel r k).Working p r phs :=
  h.congr (h.queues.setLastLevel r k) (s.setLastLevel_outline r k)

theorem State.Working.setCondition (h : s.Working p r phs) (k : Nat) : (s.setCondition p r k).Working p r phs :=
  h.congr (h.queues.setCondition p r k) (s.setCondition_outline p r k)

theorem State.Working.reenter (h : s.Working p r []) (cause : Cause) (heard : Option Bool) : (s.reenter p r cause heard).Sound where
  queues := h.queues.reenter h.port_lt r cause heard
  tied := by
    obtain ⟨-, hbut, hplaced, rfl, hphases⟩ := h
    rw [s.reenter_outline]
    exact hplaced.tied_underWay hbut (g := Standing.renamed) (fun _ => ⟨rfl, rfl, rfl, rfl, rfl⟩) rfl (ph := .awaitEcho) rfl
      (.inl ⟨rfl, nofun⟩) (by rw [show s.outline.phases (s.outline.standing r).port r = [] from hphases]; rfl)

theorem State.Working.restart {ph : Phase} (h : s.Working p r [ph]) (heard : Option Bool) : (s.restart p r heard).Sound where
  queues := h.queues.restart h.port_lt r heard
  tied := by
    obtain ⟨-, hbut, hplaced, rfl, hphases⟩ := h
    rw [s.restart_outline]
    exact hplaced.tied_underWay hbut (g := Standing.renamed) (fun _ => ⟨rfl, rfl, rfl, rfl, rfl⟩) rfl (ph := .awaitEcho) rfl
      (.inl ⟨rfl, nofun⟩) (by rw [show s.outline.phases (s.outline.standing r).port r = [ph] from hphases]; rfl)

theorem State.Working.lose (h : s.Working p r []) (cause : Cause) : (s.lose r cause).Sound where
  queues := h.queues.lose r cause
  tied := by
    rw [s.lose_outline h.dropId]
    obtain ⟨-, hbut, hplaced, rfl, hphases⟩ := h
    exact hplaced.tied_freed hbut (.inl rfl) hphases Standing.lost (fun _ => ⟨rfl, rfl, rfl, rfl, rfl, rfl⟩)
      (.inl ⟨rfl, hplaced.failures⟩)

theorem State.Working.failActivation (h : s.Working p r phs) (cause : Cause) : (s.failActivation p r cause).Sound where
  queues := h.queues.failActivation p r cause
  tied := by
    rw [s.failActivation_outline h.dropId]
    obtain ⟨-, hbut, hplaced, rfl, -⟩ := h
    have hf := hplaced.failures
    refine hplaced.tied_freed hbut (.inr rfl) (Outline.rephase_self _ (Nat.lt_succ_of_le hplaced.port) _) Standing.failed
      (fun _ => ⟨rfl, rfl, rfl, rfl, rfl, rfl⟩) ?_
    by_cases h3 : (s.outline.standing r).failures + 1 = 3
    · exact .inr ⟨if_pos h3, h3⟩
    · exact .inl ⟨if_neg h3, Nat.lt_of_le_of_ne hf h3⟩

theorem State.Working.attemptFailure {ph : Phase} (h : s.Working p r [ph]) (cause : Cause) : (s.attemptFailure p r cause).Sound := by
  have hattempt : (s.modRecord r (fun c => { c with attempts := c.attempts + 1 })).Working p r [ph] :=
    h.congr (h.queues.kept fun _ => ⟨rfl, rfl, rfl⟩) (s.modRecord_outline_same fun _ => rfl)
  have hqueues := h.queues.attemptFailure h.port_lt r cause
  simp only [State.attemptFailure] at hqueues ⊢
  split
  · next hlt =>
    rw [if_pos hlt] at hqueues
    refine ⟨hqueues, ?_⟩
    rw [State.entryToTail_outline, State.change_outline _ Standing.renamed fun _ => rfl, State.enqueue_outline,
      State.modRecord_outline_same]
    · obtain ⟨-, hbut, hplaced, rfl, -⟩ := h
      exact hplaced.tied_underWay hbut (g := Standing.renamed) (fun _ => ⟨rfl, rfl, rfl, rfl, rfl⟩) rfl (ph := .awaitEcho) rfl
        (.inl ⟨rfl, nofun⟩) rfl
    · exact fun _ => rfl
  · exact hattempt.failActivation cause

/-- A record with a round trip. -/
structure State.WorkingRanged (s : State) (p r : Nat) (phs : List Phase) : Prop extends s.Working p r phs where
  ranged : (s.record r).ranging.isSome = true

theorem State.WorkingRanged.levellingRound {ph : Phase} (h : s.WorkingRanged p r [ph]) (k i : Nat) (first : Bool) :
    (s.levellingRound p r k i first).Sound where
  queues := h.queues.levellingRound h.port_lt r k i first
  tied := by
    obtain ⟨⟨-, hbut, hplaced, rfl, hphases⟩, hranged⟩ := h
    rw [s.levellingRound_outline]
    exact hplaced.tied_underWay hbut (g := fun c => { c with state := .levelling }) (fun _ => ⟨rfl, rfl, rfl, rfl, rfl⟩) rfl
      (ph := .awaitVerify) rfl (.inr ⟨rfl, iff_of_true hranged rfl⟩)
      (by rw [show s.outline.phases (s.outline.standing r).port r = [ph] from hphases]; rfl)

/-- The entry leaves and the record is in service (R125). -/
theorem State.WorkingRanged.tied_ended (h : s.WorkingRanged p r phs) {st : RecState} (hst : st.ranged = true)
    {f : Record → Record} (hf : ∀ c, (f c).standing = { c.standing with failures := 0, state := st }) :
    ((s.removeEntry p r).change r f).outline.Tied := by
  obtain ⟨⟨-, hbut, hplaced, rfl, hphases⟩, hranged⟩ := h
  rw [State.change_outline _ (fun c => { c with failures := 0, state := st }) hf, State.removeEntry_outline]
  refine Outline.Placed.tied_ranged (hplaced.rephase _ rfl) (hbut.rephase _ _) (fun _ => ⟨rfl, rfl, rfl, rfl, rfl⟩)
    (Nat.zero_lt_succ 2) hst ⟨hranged, hplaced.referred.ranging⟩ ?_
  exact Outline.rephase_self _ (Nat.lt_succ_of_le hplaced.port) _

theorem State.WorkingRanged.finish (h : s.WorkingRanged p r phs) (k : Nat) : (s.finish p r k).Sound := by
  have hqueues := h.queues.finish h.port_lt r k
  simp only [State.finish] at hqueues ⊢
  split at hqueues
  · exact (h.toWorking.setCondition k).failActivation _
  · refine ⟨hqueues, ?_⟩
    split
    · exact h.tied_ended (st := .query) rfl fun _ => rfl
    · split
      · rw [State.enqueue_outline]
        exact h.tied_ended (st := .active) rfl fun _ => rfl
      · exact h.tied_ended (st := .ready) rfl fun _ => rfl

theorem State.WorkingRanged.evaluateLevel {ph : Phase} (h : s.WorkingRanged p r [ph]) (k : Nat) (first : Bool) :
    (s.evaluateLevel p r k first).Sound := by
  simp only [State.evaluateLevel]
  split
  · exact h.levellingRound k _ first
  · exact h.finish k

/-! ### Round trips (R101 to R105) -/

/-- What the calculator gives of a round trip in reach (R101 to R103). -/
theorem reachOf_sound {teq : Nat} {x : Int} {g : Ranging} (h : reachOf teq x = .inReach g) :
    g.roundTrip + g.eqd = teq ∧ g.length = (g.roundTrip * 817 + 5000) / 10000 := by
  unfold reachOf at h
  split at h
  · cases h
  · split at h
    · obtain rfl := Reach.inReach.inj h
      refine ⟨?_, rfl⟩
      simp only [rangingOf]
      omega
    · cases h

theorem State.Working.recordRanging (h : s.Working p r phs) {x : Int} {g : Ranging}
    (hg : reachOf (s.port p).config.teq x = .inReach g) : (s.recordRanging p r g).WorkingRanged p r phs := by
  have hp := h.port_lt
  have hstanding : ((s.recordRanging p r g).record r).standing = { (s.record r).standing with ranging := some g } := by
    have ho := congrFun (congrArg Outline.standing (s.recordRanging_outline p r g)) r
    rwa [Outline.stand_self _ h.placed.lt] at ho
  have hplaced : (s.outline.stand r (fun c => { c with ranging := some g })).Placed r := by
    refine h.placed.stand _ (fun _ => ⟨rfl, rfl, rfl, rfl, rfl⟩) h.placed.failures fun y hy => ?_
    obtain rfl := Option.some.inj hy
    rw [h.teq]
    exact reachOf_sound hg
  refine ⟨⟨h.queues.recordRanging hp r g, ?_, ?_, (congrArg Standing.port hstanding).trans h.port, ?_⟩, ?_⟩
  · rw [s.recordRanging_outline]
    exact h.others.stand _
  · rw [s.recordRanging_outline]
    exact hplaced
  · rw [s.recordRanging_outline]
    exact h.phases
  · rw [show ((s.recordRanging p r g).record r).ranging = some g from congrArg Standing.ranging hstanding]
    rfl

end Sys2Proof.Machine
end

section
/-! What every step but an upset keeps, ninth part: the closes of ECHO, VERIFY and UPKEEP windows (R118 to R127, R140 to R146). -/

namespace Sys2Proof.Machine

variable {s : State} {p r : Nat} {phs : List Phase}

/-! ### Captured results (R120 to R123) -/

theorem State.Working.withRanging (h : s.Working p r phs) {g : Ranging} (hg : (s.record r).ranging = some g) :
    s.WorkingRanged p r phs := ⟨h, by rw [hg]; rfl⟩

theorem State.Working.echoCaptured {ph : Phase} (h : s.Working p r [ph]) (e : Captured) : (s.echoCaptured p r e).Sound := by
  have hlevel := h.setLastLevel e.level
  simp only [State.echoCaptured]
  split
  · exact (hlevel.setCondition e.level).attemptFailure _
  · exact (hlevel.setCondition e.level).failActivation _
  · next g hg => exact (hlevel.recordRanging hg).evaluateLevel e.level true

theorem State.Working.verifyCaptured {ph : Phase} (h : s.WorkingRanged p r [ph]) (e : Captured) :
    (s.verifyCaptured p r e).Sound := by
  have hlevel := h.toWorking.setLastLevel e.level
  have hstanding : ((s.setLastLevel r e.level).record r).standing = (s.record r).standing :=
    congrFun (congrArg Outline.standing (s.setLastLevel_outline r e.level)) r
  have hranged : ((s.setLastLevel r e.level).record r).ranging = (s.record r).ranging := congrArg Standing.ranging hstanding
  simp only [State.verifyCaptured]
  split
  · next hnone =>
    have hsome := h.ranged
    rw [← hranged, hnone] at hsome
    cases hsome
  · next g hg =>
    split
    · exact (hlevel.withRanging hg).evaluateLevel e.level false
    · exact (hlevel.setCondition e.level).attemptFailure _
    · split
      · next g' hg' => exact (hlevel.recordRanging hg').evaluateLevel e.level false
      · exact (hlevel.setCondition e.level).failActivation _
      · exact (hlevel.setCondition e.level).attemptFailure _

/-! ### Closes of the activation sequencer (R118) -/

theorem State.takeActivationClose_upholds {w : OpenWindow} {ph : Phase} {st : RecState} {captured : Nat → Captured → State}
    (hv : ∀ r e n, (captured r e).verifies n = s.verifies n)
    (hc : ∀ r e, s.Working p r [ph] → (s.record r).state = st → s.Sound → (captured r e).Sound) :
    s.Upholds (s.takeActivationClose p w ph st captured) := by
  unfold State.takeActivationClose
  split
  · exact .refl s
  · next r _ =>
    split
    · next hv => exact State.damage_upholds (by simpa using hv)
    · split
      · next hph =>
        obtain ⟨hph, hst⟩ := hph
        split
        · exact ⟨fun n hn => by rwa [State.attemptFailure_verifies],
            fun _ hs => (hs.working_of_phaseOf hph).attemptFailure _⟩
        · next e _ => exact ⟨fun n hn => by rwa [hv], fun _ hs => hc r e (hs.working_of_phaseOf hph) hst hs⟩
      · exact .refl s

theorem State.echoClosed_upholds (w : OpenWindow) : s.Upholds (State.echoClosed p s w) :=
  State.takeActivationClose_upholds (fun r e n => s.echoCaptured_verifies p r n e) fun _ e h _ _ => h.echoCaptured e

theorem State.verifyClosed_upholds (w : OpenWindow) : s.Upholds (State.verifyClosed p s w) :=
  State.takeActivationClose_upholds (fun r e n => s.verifyCaptured_verifies p r n e) fun r e h hst hs => by
    refine State.Working.verifyCaptured ⟨h, ?_⟩ e
    exact (hs.tied.at_ r).tidy.ranging.mpr (.inl hst)

/-! ### UPKEEP closes (R140 to R146) -/

theorem State.Working.rerange (h : s.Working p r []) : (s.rerange p r).Sound := by
  unfold State.rerange
  split
  · exact h.reenter _ _
  · exact h.lose _

/-- A record in service that is worked on: nothing of it has to change (R143). -/
structure State.Serving (s : State) (p r : Nat) : Prop extends s.WorkingRanged p r [] where
  state : (s.record r).state.ranged = true

theorem State.Serving.sound (h : s.Serving p r) : s.Sound where
  queues := h.queues
  tied := by
    obtain ⟨⟨⟨-, hbut, hplaced, rfl, hphases⟩, hranged⟩, hst⟩ := h
    exact hbut.tied (hplaced.tiedAt_ranged hst hphases hranged)

theorem State.Serving.congr (h : s.Serving p r) {t : State} (hq : t.queuesSound) (ho : t.outline = s.outline) : t.Serving p r := by
  have hstanding : (t.record r).standing = (s.record r).standing := congrFun (congrArg Outline.standing ho) r
  have hranging : (t.record r).ranging = (s.record r).ranging := congrArg Standing.ranging hstanding
  have hstate : (t.record r).state = (s.record r).state := congrArg Standing.state hstanding
  exact ⟨⟨h.toWorking.congr hq ho, hranging ▸ h.ranged⟩, hstate ▸ h.state⟩

theorem State.Sound.serving (h : s.Sound) (hst : (s.record r).state.ranged = true) : s.Serving (s.record r).port r :=
  ⟨⟨h.working_of_ranged hst, (h.tied.at_ r).tidy.ranging.mpr (.inr hst)⟩, hst⟩

theorem State.Serving.recordRanging (h : s.Serving p r) {x : Int} {g : Ranging}
    (hg : reachOf (s.port p).config.teq x = .inReach g) : (s.recordRanging p r g).Serving p r := by
  have ho := congrFun (congrArg Outline.standing (s.recordRanging_outline p r g)) r
  rw [Outline.stand_self _ h.placed.lt] at ho
  have hstate : ((s.recordRanging p r g).record r).state = (s.record r).state := congrArg Standing.state ho
  exact ⟨h.toWorking.recordRanging hg, hstate ▸ h.state⟩

theorem State.serveLevel_outline (s : State) (p r k : Nat) : (s.serveLevel p r k).outline = s.outline := by
  simp only [State.serveLevel]
  split
  · rfl
  · rw [State.enqueue_outline, State.modRecord_outline_same]
    exact fun _ => rfl

theorem State.Serving.serveLevel (h : s.Serving p r) (k : Nat) : (s.serveLevel p r k).Sound :=
  (h.congr (h.queues.serveLevel h.port_lt r k) (s.serveLevel_outline p r k)).sound

theorem State.Serving.upkeepMiss (h : s.Serving p r) : (s.upkeepMiss r).Sound := by
  unfold State.upkeepMiss
  split
  · refine (h.congr ?_ ?_).sound
    · exact h.queues.kept fun _ => ⟨rfl, rfl, rfl⟩
    · exact s.modRecord_outline_same fun _ => rfl
  · exact h.toWorking.lose _

theorem State.Serving.cleanEcho (h : s.Serving p r) (e : Captured) : (s.cleanEcho p r e).Sound := by
  have hclean : (s.modRecord r (fun c => { c with
      misses := 0
      lastLevel := e.level
      levelCondition := serviceCondition (s.port p).config e.level })).Serving p r :=
    h.congr (h.queues.kept fun _ => ⟨rfl, rfl, rfl⟩) (s.modRecord_outline_same fun _ => rfl)
  simp only [State.cleanEcho]
  split
  · exact hclean.sound
  · split
    · exact hclean.serveLevel e.level
    · exact hclean.toWorking.rerange
    · split
      · next g' hg' => exact (hclean.recordRanging hg').serveLevel e.level
      · exact hclean.toWorking.lose _

theorem State.upkeepClosed_upholds (w : OpenWindow) : s.Upholds (State.upkeepClosed p s w) := by
  unfold State.upkeepClosed
  split
  · exact .refl s
  · next r _ =>
    split
    · next hv => exact State.damage_upholds (by simpa using hv)
    · split
      · next hserves =>
        obtain ⟨rfl, -, hst⟩ := hserves
        split
        · exact ⟨fun n hn => by rwa [State.upkeepMiss_verifies], fun _ hs => (hs.serving hst).upkeepMiss⟩
        · next e _ => exact ⟨fun n hn => by rwa [State.cleanEcho_verifies], fun _ hs => (hs.serving hst).cleanEcho e⟩
      · exact .refl s

end Sys2Proof.Machine
end

section
/-! What every step but an upset keeps, tenth part: work that the agreement does not depend on, abandoned windows, and the changeover
(R66, R152 to R159). -/

namespace Sys2Proof.Machine

variable {s : State}

/-! ### Work that the agreement does not depend on -/

theorem State.upholds_of_outline {t : State} (hv : ∀ n, t.verifies n = s.verifies n) (hq : s.queuesSound → t.queuesSound)
    (ho : t.outline = s.outline) : s.Upholds t :=
  ⟨fun n hn => by rwa [hv], fun _ hs => ⟨hq hs.queues, ho ▸ hs.tied⟩⟩

/-- A port's map, queues and Teq are as before. -/
def Port.Alike (q q' : Port) : Prop :=
  q'.outbound = q.outbound ∧ q'.dropMap = q.dropMap ∧ q'.activation = q.activation ∧ q'.config.teq = q.config.teq

theorem State.modPort_upholds {p : Nat} {f : Port → Port} (hf : (s.port p).Alike (f (s.port p))) : s.Upholds (s.modPort p f) :=
  State.upholds_of_outline (fun _ => rfl) (s.modPort_queues hf.1) (s.modPort_outline hf.2)

theorem State.flag_upholds (p : Nat) (f : Conditions → Conditions) : s.Upholds (s.flag p f) :=
  State.modPort_upholds ⟨rfl, rfl, rfl, rfl⟩

theorem State.modRecord_upholds {n : Nat} {f : Record → Record}
    (hf : ∀ c, (f c).outstanding = c.outstanding ∧ (f c).delaySync = c.delaySync ∧ (f c).ranging = c.ranging)
    (ho : ∀ c, (f c).standing = c.standing) : s.Upholds (s.modRecord n f) :=
  State.upholds_of_outline (fun m => s.modRecord_verifies n m f) (fun h => h.kept hf) (s.modRecord_outline_same ho)

theorem State.change_upholds {n : Nat} {f : Record → Record}
    (hf : ∀ c, (f c).outstanding = c.outstanding ∧ (f c).delaySync = c.delaySync ∧ (f c).ranging = c.ranging)
    (ho : ∀ c, (f c).standing = c.standing) : s.Upholds (s.change n f) :=
  (State.modRecord_upholds hf ho).trans (State.upholds_of_outline (fun _ => rfl) (fun h => h) rfl)

theorem State.fillSetDelay_upholds {p : Nat} (hp : p < 4) : s.Upholds (s.fillSetDelay p) :=
  State.upholds_of_outline (s.fillSetDelay_verifies p) (s.fillSetDelay_queues hp) (s.fillSetDelay_outline p)

/-- Two states with the same records, ports, indexes and strangers. -/
theorem State.upholds_of_same {t : State} (hrec : t.records = s.records) (hport : t.ports = s.ports)
    (hserial : t.serialIndex = s.serialIndex) (hplot : t.plotIndex = s.plotIndex) (hstrangers : t.strangers = s.strangers) :
    s.Upholds t := by
  have hports : ∀ p, t.port p = s.port p := fun p => by rw [State.port, hport, State.port]
  have hstored := State.stored_congr hrec
  refine State.upholds_of_outline (fun n => by rw [State.verifies, hstored, State.verifies])
    (State.queuesSound_congr hrec fun p _ => by rw [hports]) ?_
  exact s.outline_congr (fun n => by rw [State.record, hstored, State.record]) (fun p => by rw [hports]) (fun p => by rw [hports])
    (fun p => by rw [hports]) hserial hplot hstrangers

theorem State.settle_upholds (s : State) : s.Upholds s.settle := State.upholds_of_same rfl rfl rfl rfl rfl

theorem State.verifyOrDamage_upholds (s : State) (n : Nat) : s.Upholds (s.verifyOrDamage n) := by
  unfold State.verifyOrDamage
  split
  · exact .refl s
  · next h => exact State.damage_upholds (by simpa using h)

theorem State.scan_upholds (s : State) (ns : List Nat) : s.Upholds (eachNumber State.verifyOrDamage ns s) :=
  eachNumber_upholds (fun t n _ => t.verifyOrDamage_upholds n) s

/-! ### Abandonment (R66) -/

theorem State.dropWindow_upholds (s : State) (p : Nat) : s.Upholds (s.dropWindow p) := State.modPort_upholds ⟨rfl, rfl, rfl, rfl⟩

/-- The entry of a record in NAMED or RANGING goes to a phase of one of the two, and the record with it (R66, R68, R114). -/
theorem State.Sound.rephased (hs : s.Sound) {p r : Nat} {ph ph' : Phase} (hph : s.phaseOf p r = some ph)
    (hne : ph.recordState ≠ .levelling) (hne' : ph'.recordState ≠ .levelling) :
    ((s.setPhase p r ph').change r (fun c => { c with state := ph'.recordState })).Sound := by
  obtain ⟨-, -, -, -, -, hst⟩ := hs.of_phaseOf hph
  have hw := hs.working_of_phaseOf hph
  refine ⟨(hw.queues.setPhase p r _).changed fun _ => ⟨rfl, rfl, rfl⟩, ?_⟩
  rw [State.change_outline _ (fun c => { c with state := ph'.recordState }) fun _ => rfl, State.setPhase_outline]
  have hranging : ¬ (s.outline.standing r).ranging.isSome = true := fun hsome => by
    rcases (hs.tied.at_ r).tidy.ranging.mp hsome with hc | hc
    · exact hne (hst.symm.trans hc)
    · rw [show (s.outline.standing r).state = _ from hst] at hc
      cases ph <;> cases hc
  obtain ⟨-, hbut, hplaced, rfl, hphases⟩ := hw
  exact hplaced.tied_underWay hbut (g := fun c => { c with state := ph'.recordState }) (fun _ => ⟨rfl, rfl, rfl, rfl, rfl⟩) rfl
    (ph := ph') rfl (.inr ⟨rfl, iff_of_false hranging hne'⟩)
    (by rw [show s.outline.phases (s.outline.standing r).port r = [ph] from hphases]; rfl)

/-- The entry of a record in LEVELLING goes from one of its two phases to the other (R66, R68, R114). -/
theorem State.Sound.levellingPhase (hs : s.Sound) {p r : Nat} {ph ph' : Phase} (hph : s.phaseOf p r = some ph)
    (hst : ph.recordState = .levelling) (hst' : ph'.recordState = .levelling) : (s.setPhase p r ph').Sound := by
  obtain ⟨-, -, -, -, -, hstate⟩ := hs.of_phaseOf hph
  have hw := hs.working_of_phaseOf hph
  refine ⟨hw.queues.setPhase p r _, ?_⟩
  have htidy := (hs.tied.at_ r).tidy
  rw [State.setPhase_outline, ← s.outline.stand_same r (g := id) rfl]
  obtain ⟨-, hbut, hplaced, rfl, hphases⟩ := hw
  refine hplaced.tied_underWay hbut (g := id) (fun _ => ⟨rfl, rfl, rfl, rfl, rfl⟩) rfl (ph := ph') ?_ (.inr ⟨rfl, ?_⟩)
    (by rw [show s.outline.phases (s.outline.standing r).port r = [ph] from hphases]; rfl)
  · exact hstate.trans (hst.trans hst'.symm)
  · exact iff_of_true (htidy.ranging.mpr (.inl (hstate.trans hst))) hst'

theorem State.abandonOwner_upholds (p : Nat) (w : OpenWindow) : s.Upholds (s.abandonOwner p w) := by
  unfold State.abandonOwner
  split
  · exact State.modPort_upholds ⟨rfl, rfl, rfl, rfl⟩
  · split
    · next hph =>
      exact ⟨fun n hn => by rwa [State.change_verifies, State.setPhase_verifies], fun _ hs => hs.rephased (ph' := .awaitEcho) hph nofun nofun⟩
    · exact .refl s
  · split
    · next hph => exact ⟨fun _ => id, fun _ hs => hs.levellingPhase hph rfl rfl⟩
    · exact .refl s
  · exact State.modPort_upholds ⟨rfl, rfl, rfl, rfl⟩
  · exact .refl s

theorem State.abandon_upholds (s : State) (p : Nat) : s.Upholds (s.abandon p) := by
  unfold State.abandon
  split
  · exact .refl s
  · exact (s.dropWindow_upholds p).trans (State.abandonOwner_upholds p _)

/-! ### The changeover's end (R156 to R159) -/

theorem State.failChangeover_upholds (s : State) (p : Nat) : s.Upholds (s.failChangeover p) := by
  rw [s.failChangeover_eq]
  refine State.modPort_upholds ?_
  split
  · exact ⟨rfl, rfl, rfl, rfl⟩
  · exact ⟨rfl, rfl, rfl, rfl⟩

theorem State.failIfReference_upholds (s : State) (r p : Nat) : s.Upholds (s.failIfReference r p) := by
  unfold State.failIfReference
  split
  · exact s.failChangeover_upholds p
  · exact .refl s

/-- A record in service with another round trip in reach of its port (R105, R157). -/
theorem State.Serving.tied_shifted {p r : Nat} (h : s.Serving p r) {x : Int} {g : Ranging}
    (hg : reachOf (s.port p).config.teq x = .inReach g) {f : Record → Record}
    (hf : ∀ c, (f c).standing = { c.standing with ranging := some g }) : (s.change r f).outline.Tied := by
  have hteq := h.teq
  obtain ⟨⟨⟨-, hbut, hplaced, rfl, hphases⟩, -⟩, hst⟩ := h
  rw [State.change_outline _ (fun c => { c with ranging := some g }) hf]
  refine hplaced.tied_ranged hbut (fun _ => ⟨rfl, rfl, rfl, rfl, rfl⟩) hplaced.failures hst ⟨rfl, fun y hy => ?_⟩ hphases
  obtain rfl := Option.some.inj hy
  rw [hteq]
  exact reachOf_sound hg

theorem State.Serving.loseAtChangeover {p r : Nat} (h : s.Serving p r) : (s.loseAtChangeover p r).Sound where
  queues := (h.queues.freeDrop p _).unranged fun _ => ⟨rfl, rfl, rfl⟩
  tied := by
    obtain ⟨⟨⟨-, hbut, hplaced, rfl, hphases⟩, -⟩, -⟩ := h
    rw [State.loseAtChangeover, State.change_outline _ Standing.lost fun _ => rfl, State.freeDrop_outline]
    exact hplaced.tied_freed hbut (.inl rfl) hphases Standing.lost (fun _ => ⟨rfl, rfl, rfl, rfl, rfl, rfl⟩)
      (.inl ⟨rfl, hplaced.failures⟩)

end Sys2Proof.Machine
end

section
/-! What every step but an upset keeps, eleventh part: the registry update of a changeover, and every window's close (R65, R85, R53, R155 to
R159). -/

namespace Sys2Proof.Machine

variable {s : State} {p : Nat}

/-! ### The registry update (R157) -/

theorem State.updateRecord_verifies (acc : State × List Nat) (shift : Int) (r n : Nat) (h : acc.1.verifies n = true) :
    (State.updateRecord p shift acc r).1.verifies n = true := by
  simp only [State.updateRecord]
  split
  · next hv =>
    dsimp only
    exact (State.damage_upholds (by simpa using hv)).verifies n h
  · split
    · exact h
    · split
      · simpa using h
      · simpa [State.loseAtChangeover] using h

/-- One record in service of a sound part is shifted or lost; the others stand as they did (R157, steps 1 to 4). -/
theorem State.Serving.updateRecord {acc : State × List Nat} {r : Nat} (h : acc.1.Serving p r) (hv : acc.1.verifies r = true)
    (shift : Int) :
    (State.updateRecord p shift acc r).1.Sound
      ∧ ∀ n, n ≠ r → (State.updateRecord p shift acc r).1.record n = acc.1.record n := by
  simp only [State.updateRecord, hv, Bool.not_true, Bool.false_eq_true, if_false]
  split
  · exact ⟨h.sound, fun _ _ => rfl⟩
  · split
    · next g' hg' =>
      refine ⟨⟨State.change_queues _ (fun _ => (acc.1.record r).withRanging_owesAs g') h.queues, h.tied_shifted hg' fun _ => rfl⟩,
        fun n hn => ?_⟩
      rw [State.record, State.change_stored_ne _ hn, State.record]
    · refine ⟨h.loseAtChangeover, fun n hn => ?_⟩
      rw [State.record, State.loseAtChangeover, State.change_stored_ne _ hn]
      rfl

theorem State.updateRecords_verifies (shift : Int) (ns : List Nat) (acc : State × List Nat) (n : Nat)
    (h : acc.1.verifies n = true) : (ns.foldl (State.updateRecord p shift) acc).1.verifies n = true := by
  induction ns generalizing acc with
  | nil => exact h
  | cons r ns ih =>
    rw [List.foldl_cons]
    exact ih _ (State.updateRecord_verifies acc shift r n h)

theorem State.updateRecords_sound (shift : Int) {ns : List Nat} (hns : ns.Nodup) (acc : State × List Nat) (hv : acc.1.allVerify)
    (hs : acc.1.Sound) (hserve : ∀ n ∈ ns, (acc.1.record n).port = p ∧ (acc.1.record n).state.ranged = true) :
    (ns.foldl (State.updateRecord p shift) acc).1.Sound := by
  induction ns generalizing acc with
  | nil => exact hs
  | cons r ns ih =>
    obtain ⟨hr, hns⟩ := List.nodup_cons.mp hns
    obtain ⟨rfl, hst⟩ := hserve r List.mem_cons_self
    obtain ⟨hsound, hother⟩ := (hs.serving hst).updateRecord (State.verifies_of_allVerify hv r) shift
    rw [List.foldl_cons]
    refine ih hns _ (fun n hn => State.updateRecord_verifies acc shift r n (hv n hn)) hsound fun n hn => ?_
    rw [hother n (ne_of_mem_of_not_mem hn hr)]
    exact hserve n (List.mem_cons_of_mem _ hn)

theorem State.releases_upholds (s : State) (p : Nat) (ds : List Nat) :
    s.Upholds (eachNumber (fun s d => s.enqueue p (.release p d)) ds s) :=
  eachNumber_upholds (fun t d _ =>
    State.upholds_of_outline (fun n => t.enqueue_verifies p n _) (fun h => h.released p p d) (t.enqueue_outline p _)) s

theorem State.registryUpdate_upholds (hp : p < 4) (s : State) (shift : Int) : s.Upholds (s.registryUpdate p shift) := by
  have hrecords : s.Upholds ((s.rangedOf p).foldl (State.updateRecord p shift) (s, [])).1 :=
    ⟨State.updateRecords_verifies shift _ (s, []), fun hv hs => State.updateRecords_sound shift (s.rangedOf_nodup p) (s, []) hv hs
      fun n hn => by
        rw [State.rangedOf, State.recordsWhere_eq, List.mem_filter] at hn
        simpa using hn.2⟩
  exact (hrecords.trans (State.releases_upholds _ p _)).trans (State.fillSetDelay_upholds hp)

/-! ### REFERENCE closes (R155 to R159) -/

theorem State.setLastLevel_upholds (s : State) (r k : Nat) : s.Upholds (s.setLastLevel r k) :=
  State.modRecord_upholds (fun _ => ⟨rfl, rfl, rfl⟩) fun _ => rfl

theorem State.setCondition_upholds (s : State) (p r k : Nat) : s.Upholds (s.setCondition p r k) :=
  State.modRecord_upholds (fun _ => ⟨rfl, rfl, rfl⟩) fun _ => rfl

theorem State.completeChangeover_upholds (hp : p < 4) (s : State) (r : Nat) (e : Captured) (g : Ranging) :
    s.Upholds (s.completeChangeover p r e g) :=
  (((s.setLastLevel_upholds r e.level).trans (State.setCondition_upholds _ p r e.level)).trans
    (State.registryUpdate_upholds hp _ _)).trans (State.modPort_upholds ⟨rfl, rfl, rfl, rfl⟩)

theorem State.referenceClosed_upholds (hp : p < 4) (s : State) (w : OpenWindow) : s.Upholds (State.referenceClosed p s w) := by
  unfold State.referenceClosed
  split
  · exact s.failChangeover_upholds p
  · next r _ =>
    split
    · next hv => exact (State.damage_upholds (by simpa using hv)).trans (State.failChangeover_upholds _ p)
    · split
      · exact s.failChangeover_upholds p
      · split
        · exact s.completeChangeover_upholds hp r _ _
        · exact s.failChangeover_upholds p
        · split
          · exact .refl s
          · exact s.failChangeover_upholds p

/-! ### The other closes (R53, R85) -/

theorem Port.inviteClosed_alike (q : Port) (w : OpenWindow) : q.Alike (q.inviteClosed w) := by
  simp only [Port.inviteClosed]
  split
  · exact ⟨rfl, rfl, rfl, rfl⟩
  · split
    · split <;> exact ⟨rfl, rfl, rfl, rfl⟩
    · exact ⟨rfl, rfl, rfl, rfl⟩

theorem Port.calibrationEnds_alike (q : Port) (m : Option Nat) : q.Alike (q.calibrationEnds m) := by
  cases m <;> exact ⟨rfl, rfl, rfl, rfl⟩

theorem Port.loopClosed_alike (q : Port) (e : Option Captured) : q.Alike (q.loopClosed e) := by
  cases e with
  | none => exact q.calibrationEnds_alike none
  | some e =>
    simp only [Port.loopClosed]
    split
    · exact ⟨rfl, rfl, rfl, rfl⟩
    · exact q.calibrationEnds_alike _

theorem State.closedBy_upholds (hp : p < 4) (s : State) (w : OpenWindow) : s.Upholds (State.closedBy p s w) := by
  unfold State.closedBy
  split
  · exact State.modPort_upholds (Port.inviteClosed_alike _ w)
  · exact State.echoClosed_upholds w
  · exact State.verifyClosed_upholds w
  · exact State.upkeepClosed_upholds w
  · exact s.referenceClosed_upholds hp w
  · exact State.modPort_upholds (Port.loopClosed_alike _ _)

theorem State.closeOf_upholds (hp : p < 4) (s : State) (k : WindowKind) : s.Upholds (s.closeOf p k (State.closedBy p)) := by
  unfold State.closeOf
  split
  · split
    · exact (s.dropWindow_upholds p).trans (State.closedBy_upholds hp _ _)
    · exact .refl s
  · exact .refl s

end Sys2Proof.Machine
end

section
/-! What every step but an upset keeps, twelfth part: grants, frame starts and the framer's traffic (R31, R63 to R75, R78, R84, R154, R164). -/

namespace Sys2Proof.Machine

variable {s : State} {p : Nat}

/-! ### Grants (R63, R67, R68) -/

/-- An entry of a sound part is the only one of its record. -/
theorem State.Sound.phaseOf_of_mem (h : s.Sound) {e : ActivationEntry} (he : e ∈ (s.port p).activation) :
    s.phaseOf p e.record = some e.phase := by
  have hmem : e.phase ∈ s.outline.phases p e.record := mem_phasesIn.mpr he
  obtain ⟨ph, hph⟩ : ∃ ph, s.phaseOf p e.record = some ph := by
    rw [State.phaseOf_eq, ← Option.isSome_iff_exists, List.isSome_head?, ← List.length_pos_iff_ne_nil]
    exact List.length_pos_of_mem hmem
  obtain ⟨-, -, -, -, hphases, -⟩ := h.of_phaseOf hph
  rw [hphases, List.mem_singleton] at hmem
  rw [hph, hmem]

/-- What a requester of an ECHO or VERIFY window asks for stands in the activation queue (R67). -/
def State.Stands (s : State) (p : Nat) (q : Requester) : Prop :=
  ∀ r, q.target = some r →
    (q.kind = .echo → s.phaseOf p r = some .awaitEcho) ∧ (q.kind = .verify → s.phaseOf p r = some .awaitVerify)

theorem State.Sound.activationRequest (h : s.Sound) {q : Requester} (hq : s.activationRequest p = some q) : s.Stands p q := by
  intro r hr
  obtain ⟨e, he, rfl⟩ := Option.map_eq_some_iff.mp hq
  obtain rfl : e.record = r := Option.some.inj hr
  have hph := h.phaseOf_of_mem (List.mem_of_find?_eq_some he)
  have hsome := List.find?_some he
  rw [hph]
  cases hp : e.phase <;> simp_all

theorem stands_of_kind {q : Requester} (he : q.kind ≠ .echo) (hv : q.kind ≠ .verify) : s.Stands p q :=
  fun _ _ => ⟨fun h => absurd h he, fun h => absurd h hv⟩

theorem upkeepRequest_kind {target : Option Nat} {q : Requester} (h : upkeepRequest target = some q) : q.kind = .upkeep := by
  obtain ⟨r, -, rfl⟩ := Option.map_eq_some_iff.mp h
  rfl

theorem stands_of_upkeep {target : Option Nat} {q : Requester} (h : upkeepRequest target = some q) : s.Stands p q := by
  have hk := upkeepRequest_kind h
  exact stands_of_kind (by rw [hk]; nofun) (by rw [hk]; nofun)

theorem State.Sound.runRequest (h : s.Sound) {q : Requester} (hq : s.runRequest p = some q) : s.Stands p q := by
  rw [State.runRequest, Option.or_eq_some_iff, Option.or_eq_some_iff, Option.or_eq_some_iff, Option.or_eq_some_iff] at hq
  rcases hq with ((hfull | ⟨-, hact⟩) | ⟨-, hmissed⟩) | ⟨-, hinvite | ⟨-, hroutine⟩⟩
  · exact stands_of_upkeep (Option.ite_none_right_eq_some.mp hfull).2
  · exact h.activationRequest hact
  · exact stands_of_upkeep (Option.ite_none_right_eq_some.mp hmissed).2
  · obtain rfl := Option.some.inj (Option.ite_none_right_eq_some.mp hinvite).2
    exact stands_of_kind nofun nofun
  · exact stands_of_upkeep (Option.ite_none_right_eq_some.mp hroutine).2

theorem State.grantEffect_verifies (s : State) (p : Nat) (w : OpenWindow) (n : Nat) :
    (s.grantEffect p w).verifies n = s.verifies n := by
  unfold State.grantEffect
  split <;> simp

theorem Port.inviteGranted_alike (q : Port) (tag : Nat) : q.Alike (q.inviteGranted tag) := by
  simp only [Port.inviteGranted]
  split <;> exact ⟨rfl, rfl, rfl, rfl⟩

theorem State.Sound.grantEffect (h : s.Sound) {w : OpenWindow} (hw : ∀ r, w.target = some r →
      (w.kind = .echo → s.phaseOf p r = some .awaitEcho) ∧ (w.kind = .verify → s.phaseOf p r = some .awaitVerify)) :
    (s.grantEffect p w).Sound := by
  have hport : ∀ f : Port → Port, (s.port p).Alike (f (s.port p)) → (s.modPort p f).Sound := fun f hf =>
    ⟨s.modPort_queues hf.1 h.queues, s.modPort_outline hf.2 ▸ h.tied⟩
  unfold State.grantEffect
  split
  · exact hport _ (Port.inviteGranted_alike _ _)
  · next r hk ht => exact h.rephased (ph' := .echoOpen) ((hw r ht).1 hk) nofun nofun
  · next r hk ht => exact h.levellingPhase ((hw r ht).2 hk) rfl rfl
  · exact hport _ ⟨rfl, rfl, rfl, rfl⟩
  · exact hport _ ⟨rfl, rfl, rfl, rfl⟩
  · exact h

theorem State.grant_upholds {q : Requester} (hq : s.Sound → s.Stands p q) : s.Upholds (s.grant p q) where
  verifies n hn := by rwa [State.grant, State.grantEffect_verifies, State.modPort_verifies]
  sound hv h := by
    have hopened : s.Upholds (s.modPort p (fun x => x.granted (s.openWindow p q))) := State.modPort_upholds ⟨rfl, rfl, rfl, rfl⟩
    have houtline : (s.modPort p (fun x => x.granted (s.openWindow p q))).outline = s.outline :=
      s.modPort_outline ⟨rfl, rfl, rfl⟩
    refine (hopened.sound hv h).grantEffect fun r hr => ?_
    rw [State.phaseOf_eq, houtline, ← State.phaseOf_eq]
    exact hq h r hr

theorem State.grantRun_upholds (fuel : Nat) (s : State) (p : Nat) : s.Upholds (State.grantRun fuel s p) := by
  induction fuel generalizing s with
  | zero => exact .refl s
  | succ fuel ih =>
    unfold State.grantRun
    split
    · exact .refl s
    · next q hq =>
      split
      · exact State.grant_upholds fun h => h.runRequest hq
      · split
        · exact State.grant_upholds fun h => h.runRequest hq
        · next hv => exact (State.damage_upholds (by simpa using hv)).trans (ih _)

theorem State.referenceRequest_kind {q : Requester} (h : s.referenceRequest p = some q) : q.kind = .reference := by
  unfold State.referenceRequest at h
  split at h
  · cases h
  · split at h
    · obtain rfl := Option.some.inj h
      rfl
    · cases h

theorem State.grantReference_upholds (s : State) (p : Nat) : s.Upholds (s.grantReference p) := by
  unfold State.grantReference
  split
  · exact .refl s
  · next q hq =>
    split
    · exact .refl s
    · split
      · have hk := State.referenceRequest_kind hq
        exact State.grant_upholds fun _ => stands_of_kind (by rw [hk]; nofun) (by rw [hk]; nofun)
      · next hv => exact State.damage_upholds (by simpa using hv)

theorem State.grantStep_upholds (s : State) (p : Nat) : s.Upholds (s.grantStep p) := by
  unfold State.grantStep
  split
  · unfold State.considerGrant
    split
    · exact State.grantRun_upholds _ s p
    · exact State.grant_upholds fun _ => stands_of_kind nofun nofun
    · exact s.grantReference_upholds p
    · exact .refl s
    · exact .refl s
  · exact .refl s

/-! ### Frame starts (R64, R69, R70, R164, R175) -/

theorem State.windowStep_upholds (hp : p < 4) (s : State) : s.Upholds (s.windowStep p) := by
  unfold State.windowStep
  split
  · exact State.modPort_upholds ⟨rfl, rfl, rfl, rfl⟩
  · split
    · exact (s.dropWindow_upholds p).trans (State.closedBy_upholds hp _ _)
    · exact State.modPort_upholds ⟨rfl, rfl, rfl, rfl⟩

theorem State.periodEnd_upholds (s : State) (p : Nat) : s.Upholds (s.periodEnd p) := by
  simp only [State.periodEnd]
  refine State.modPort_upholds ?_
  split
  · unfold Port.owe
    split <;> exact ⟨rfl, rfl, rfl, rfl⟩
  · exact ⟨rfl, rfl, rfl, rfl⟩

theorem State.makeDue_upholds (s : State) (p : Nat) : s.Upholds (s.makeDue p) := by
  unfold State.makeDue
  split
  · exact State.modPort_upholds ⟨rfl, rfl, rfl, rfl⟩
  · exact .refl s

theorem State.timerStep_upholds (s : State) (p : Nat) (invite : Bool) : s.Upholds (s.timerStep p invite) := by
  have hperiod : s.Upholds (s.periodStep p) := by
    unfold State.periodStep
    split
    · exact s.periodEnd_upholds p
    · exact State.modPort_upholds ⟨rfl, rfl, rfl, rfl⟩
  have hdiscovery : ∀ t : State, t.Upholds (t.discoveryStep p) := fun t => by
    have hcounted : t.Upholds
        (t.modPort p (fun q => { q with discoveryTimer := min (q.discoveryTimer + 1) Config.discoveryTimerLimit })) :=
      State.modPort_upholds ⟨rfl, rfl, rfl, rfl⟩
    simp only [State.discoveryStep]
    split
    · exact hcounted.trans (State.makeDue_upholds _ p)
    · exact hcounted
  simp only [State.timerStep]
  split
  · split
    · exact hperiod
    · exact hperiod.trans (hdiscovery _)
  · exact .refl s

theorem State.arbiterFrame_upholds (hp : p < 4) (s : State) (n : Nat) : s.Upholds (s.arbiterFrame p n) := by
  have hframe : s.Upholds (s.modPort p (fun q => { q with frame := n })) := State.modPort_upholds ⟨rfl, rfl, rfl, rfl⟩
  exact ((hframe.trans (State.windowStep_upholds hp _)).trans (State.timerStep_upholds _ p _)).trans
    (State.grantStep_upholds _ p)

theorem State.scrub_upholds (s : State) : s.Upholds s.scrub := by
  have hcounters : ∀ (t : State) k c, t.Upholds { t with scrubCounter := k, scrubCursor := c } :=
    fun _ _ _ => State.upholds_of_same rfl rfl rfl rfl rfl
  exact (s.verifyOrDamage_upholds s.scrubCursor).trans (hcounters _ 0 _)

theorem State.scrubCount_upholds (s : State) : s.Upholds s.scrubCount := by
  unfold State.scrubCount
  split
  · exact s.scrub_upholds
  · exact State.upholds_of_same rfl rfl rfl rfl rfl

/-! ### The framer's traffic (R31, R72 to R74, R78, R79) -/

theorem Port.arrival_alike (q : Port) (r : ReportFields) : q.Alike (q.arrival r) := by
  have hinvite : ∀ w k, q.Alike (q.inviteReport w r k) := fun w k => by
    unfold Port.inviteReport
    split <;> exact ⟨rfl, rfl, rfl, rfl⟩
  unfold Port.arrival
  split
  · split
    · unfold Port.handleReport
      split
      · exact hinvite _ _
      · exact hinvite _ _
      · exact ⟨rfl, rfl, rfl, rfl⟩
      · exact ⟨rfl, rfl, rfl, rfl⟩
      · exact ⟨rfl, rfl, rfl, rfl⟩
      · split <;> exact ⟨rfl, rfl, rfl, rfl⟩
      · exact ⟨rfl, rfl, rfl, rfl⟩
    · exact ⟨rfl, rfl, rfl, rfl⟩
  · exact ⟨rfl, rfl, rfl, rfl⟩

theorem Record.taken_standing (c : Record) (d : Descriptor) : (c.taken d).standing = c.standing := by
  cases d <;> rfl

theorem State.handOver_verifies (s : State) (p n : Nat) (d : Descriptor) (hn : s.verifies n = true) :
    (s.handOver p d).verifies n = true := by
  have hanswer : ∀ (t : State) a, (t.answerTake p a).verifies n = t.verifies n := fun _ _ => rfl
  unfold State.handOver
  split
  · exact (hanswer s _).trans hn
  · next r _ =>
    split
    · exact (hanswer _ _).trans ((s.modRecord_verifies r n _).trans hn)
    · next hv =>
      have hdamage : s.Upholds (s.damage r) := State.damage_upholds (by simpa using hv)
      exact (hanswer _ _).trans (hdamage.verifies n hn)

/-- A descriptor leaves the head of its queue and is handed over (R78). -/
theorem State.handOver_upholds (hp : p < 4) {d : Descriptor} {ds : List Descriptor} (hq : (s.port p).outbound = d :: ds) :
    s.Upholds ((s.modPort p (fun q => { q with outbound := ds })).handOver p d) where
  verifies n hn := State.handOver_verifies _ p n d hn
  sound hv h := by
    have hverifies := State.verifies_of_allVerify hv
    refine ⟨s.handOver_queues hp hq hverifies h.queues, ?_⟩
    have hanswer : ∀ (t : State) a, (t.answerTake p a).outline = t.outline := fun t a => t.modPort_outline ⟨rfl, rfl, rfl⟩
    have htaken : (s.modPort p (fun q => { q with outbound := ds })).outline = s.outline := s.modPort_outline ⟨rfl, rfl, rfl⟩
    unfold State.handOver
    split
    · rw [hanswer, htaken]
      exact h.tied
    · next r _ =>
      rw [if_pos (by exact hverifies r), hanswer, State.modRecord_outline_same _ fun c => c.taken_standing d, htaken]
      exact h.tied

theorem State.take_upholds (hp : p < 4) (s : State) : s.Upholds (s.take p) := by
  unfold State.take
  split
  · exact State.modPort_upholds ⟨rfl, rfl, rfl, rfl⟩
  · next hq => exact (State.handOver_upholds hp hq).trans (State.fillSetDelay_upholds hp)

theorem State.lookup_upholds (s : State) (p d : Nat) : s.Upholds (s.lookup p d) := by
  have hanswer : ∀ (t : State) b, t.Upholds (t.answerLookup p b) := fun t b => State.modPort_upholds ⟨rfl, rfl, rfl, rfl⟩
  unfold State.lookup
  split
  · exact hanswer s _
  · split
    · exact hanswer s _
    · split
      · exact hanswer s _
      · split
        · exact hanswer s _
        · next hv => exact (State.damage_upholds (by simpa using hv)).trans (hanswer _ _)

end Sys2Proof.Machine
end

section
/-! What every step but an upset keeps, thirteenth part: records without a drop id, naming, and the registry step of a HELLO (R13, R28, R87 to
R96). -/

namespace Sys2Proof.Machine

variable {s : State} {o : Outline} {p r d : Nat}

/-! ### A record without a drop id changed -/

theorem Outline.Tied.restand (h : o.Tied) (hr : r < 480) (ha : (o.standing r).state.activating = false)
    (hg : (o.standing r).state.ranged = false) {g : Standing → Standing}
    (hserial : (g (o.standing r)).serial = (o.standing r).serial) (hplot : (g (o.standing r)).plot = (o.standing r).plot)
    (hdrop : (g (o.standing r)).dropId = (o.standing r).dropId) (hranging : (g (o.standing r)).ranging = (o.standing r).ranging)
    (ht : (g (o.standing r)).Tidy) : (o.stand r g).Tied := by
  obtain ⟨hd0, hnone, hholder, hphases⟩ := (h.at_ r).resting ha hg
  have hself := o.stand_self hr g
  refine ((h.but r).stand g).tied (Outline.tiedAt_resting (hself ▸ ht) (by rw [hself, hdrop, hd0])
    (by rw [hself, hranging, hnone]) hholder hphases (fun k => ?_) (fun k => ?_))
  · rw [hself, hserial]
    exact (h.at_ r).referred.serial k
  · rw [hself, hplot]
    exact (h.at_ r).referred.plot k

/-- An EXPECTED record takes a free drop id of its port, is NAMED and gets an entry (R13, R89). -/
theorem Outline.Tied.named (h : o.Tied) (hr : r < 480) (hst : (o.standing r).state = .expected)
    (hserial : (o.standing r).serial.isSome = true) (hd : 1 ≤ d ∧ d ≤ Config.maxDropId)
    (hfree : o.holder (o.standing r).port d = none) :
    (((o.hold (o.standing r).port d (some r)).stand r (fun c => { c with dropId := d, state := .named })).rephase
      (o.standing r).port r (· ++ [.awaitEcho])).Tied := by
  have hat := h.at_ r
  obtain ⟨-, hranging, hholder, hphases⟩ := hat.resting (by rw [hst]; rfl) (by rw [hst]; rfl)
  have hp := Nat.lt_succ_of_le hat.tidy.port
  have hself := (o.hold (o.standing r).port d (some r)).stand_self hr (fun c => { c with dropId := d, state := .named })
  have hstanding : (((o.hold (o.standing r).port d (some r)).stand r (fun c => { c with dropId := d, state := .named })).rephase
      (o.standing r).port r (· ++ [.awaitEcho])).standing r = { o.standing r with dropId := d, state := .named } := hself
  have hplaced : (((o.hold (o.standing r).port d (some r)).stand r (fun c => { c with dropId := d, state := .named })).rephase
      (o.standing r).port r (· ++ [.awaitEcho])).Placed r := by
    refine ⟨hr, ?_, ?_, ?_, ?_, ?_, ?_, ?_, ⟨fun q e => ?_, ?_, ?_, ?_⟩, fun q hq => ?_⟩
    · exact hself ▸ hat.tidy.port
    · exact hself ▸ Nat.ne_of_gt hd.1
    · exact hself ▸ hd.2
    · exact hself ▸ hat.tidy.preferred
    · exact hself ▸ hserial
    · exact hself ▸ fun hn => by
        rcases hat.tidy.plot.mp hn with hc | hc <;> rw [hst] at hc <;> cases hc
    · refine hself ▸ Nat.lt_of_le_of_ne hat.tidy.failures fun hf => ?_
      have hb := hat.tidy.barred.mp hf
      rw [hst] at hb
      cases hb
    · rw [hstanding]
      change (if q = (o.standing r).port ∧ e = d ∧ (o.standing r).port < 4 then some r else o.holder q e) = some r ↔ _
      split
      · next hown =>
        obtain ⟨rfl, rfl, -⟩ := hown
        exact iff_of_true rfl ⟨rfl, rfl, Nat.ne_of_gt hd.1⟩
      · next hother =>
        refine iff_of_false (hholder q e) ?_
        rintro ⟨rfl, rfl, -⟩
        exact hother ⟨rfl, rfl, hp⟩
    · exact hself ▸ hat.referred.serial
    · exact hself ▸ hat.referred.plot
    · exact hself ▸ hat.referred.ranging
    · rw [hstanding] at hq
      exact (if_neg fun hc => hq hc.1).trans (hphases q)
  refine ((((h.but r).hold (fun m hm => (Option.some.inj hm).symm) (fun m hm => ?_)).stand _).rephase _ _).tied
    (hplaced.tiedAt_underWay (ph := .awaitEcho) ?_ ?_ ?_)
  · rw [hfree] at hm
    cases hm
  · rw [hstanding, Outline.rephase_self _ hp]
    exact congrArg (· ++ [Phase.awaitEcho]) (hphases _)
  · rw [hstanding]
    rfl
  · rw [hstanding]
    exact iff_of_false (by simp [hranging]) nofun

/-! ### Naming (R13, R28, R89) -/

/-- What allocation chooses is a free drop id (R28). -/
theorem State.allocate_free {pref : Option Nat} (h : s.allocate p pref = some d)
    (hpref : ∀ x, pref = some x → 1 ≤ x ∧ x ≤ Config.maxDropId) :
    (1 ≤ d ∧ d ≤ Config.maxDropId) ∧ s.dropFree p d = true := by
  by_cases hfree : ∃ x, pref = some x ∧ s.dropFree p x = true
  · obtain ⟨x, rfl, hx⟩ := hfree
    rw [State.allocate_preferred s hx] at h
    obtain rfl := Option.some.inj h
    exact ⟨hpref x rfl, hx⟩
  · rw [State.allocate_search s fun x hx => by
      by_contra hc
      exact hfree ⟨x, hx, by simpa using hc⟩] at h
    have hmem := List.mem_of_find?_eq_some h
    rw [List.mem_range'_1] at hmem
    exact ⟨⟨hmem.1, by simp only [Config.maxDropId]; omega⟩, List.find?_some h⟩

theorem State.flag_sound (h : s.Sound) (p : Nat) (f : Conditions → Conditions) : (s.flag p f).Sound :=
  ⟨h.queues.flag p f, (s.flag_outline p f).symm ▸ h.tied⟩

theorem State.Sound.nameExpected (h : s.Sound) (hr : r < 480) (hst : (s.record r).state = .expected)
    (hport : (s.record r).port = p) (hserial : (s.record r).serial.isSome = true) (cause : Cause) (heard : Option Bool) :
    (s.nameExpected p r cause heard).Sound := by
  have htidy := (h.tied.at_ r).tidy
  have hp : p < 4 := hport ▸ Nat.lt_succ_of_le htidy.port
  refine ⟨h.queues.nameExpected hp r cause heard, ?_⟩
  unfold State.nameExpected
  split
  · exact (s.flag_outline p _).symm ▸ h.tied
  · split
    · exact (s.flag_outline p _).symm ▸ h.tied
    · next d hd =>
      obtain ⟨hrange, hfree⟩ := State.allocate_free hd htidy.preferred
      rw [State.appendEntry_outline, State.enqueue_outline,
        State.change_outline _ (fun c => { c with dropId := d, state := .named }), State.holdDrop_outline]
      · subst hport
        exact h.tied.named hr hst hserial hrange (Option.isNone_iff_eq_none.mp hfree)
      · exact fun _ => rfl

theorem State.nameAtOnce_verifies (s : State) (n m : Nat) (cause : Cause) : (s.nameAtOnce n cause).verifies m = s.verifies m := by
  unfold State.nameAtOnce
  split
  · exact State.nameExpected_verifies ..
  · rfl

theorem State.Sound.nameAtOnce (h : s.Sound) (hr : r < 480) (hst : (s.record r).state = .expected)
    (hserial : (s.record r).serial.isSome = true) (cause : Cause) : (s.nameAtOnce r cause).Sound := by
  unfold State.nameAtOnce
  split
  · exact h.nameExpected hr hst rfl hserial cause none
  · exact h

/-! ### HELLOs (R88 to R96) -/

theorem State.Sound.lt_of_serial (h : s.Sound) {k : Nat} (hk : mapGet s.serialIndex k = some r) :
    r < 480 ∧ (s.record r).serial.isSome = true := by
  obtain ⟨x, hx, -⟩ := ((h.tied.at_ r).referred.serial k).mp hk
  refine ⟨?_, by rw [show (s.record r).serial = some x from hx]; rfl⟩
  by_contra hn
  rw [State.vacant_of_le (Nat.le_of_not_lt hn)] at hx
  cases hx

theorem State.helloActivating_verifies (s : State) (p r n : Nat) (b : Bool) :
    (s.helloActivating p r b).verifies n = s.verifies n := by
  simp only [State.helloActivating]
  split <;> simp

theorem State.Sound.phaseOf_of_activating (h : s.Sound) (ha : (s.record r).state.activating = true) :
    ∃ ph, s.phaseOf (s.record r).port r = some ph := by
  obtain ⟨ph, hph, -⟩ := (h.tied.at_ r).entered.underWay ha
  refine ⟨ph, ?_⟩
  rw [State.phaseOf_eq, show s.outline.phases (s.record r).port r = [ph] from hph]
  rfl

theorem State.Sound.helloActivating (h : s.Sound) (ha : (s.record r).state.activating = true) (hport : (s.record r).port = p)
    (b : Bool) : (s.helloActivating p r b).Sound := by
  obtain ⟨ph, hph⟩ := h.phaseOf_of_activating ha
  have hattempt : (s.modRecord r (fun c => { c with attempts := c.attempts + 1 })).Working p r [ph] :=
    (h.working_of_phaseOf (hport ▸ hph)).congr (h.queues.kept fun _ => ⟨rfl, rfl, rfl⟩) (s.modRecord_outline_same fun _ => rfl)
  simp only [State.helloActivating]
  split
  · exact hattempt.restart _
  · exact hattempt.failActivation _

theorem State.Working.helloUnranged (h : s.Working p r []) : (s.helloUnranged p r).Sound := by
  refine State.flag_sound ?_ p _
  refine ⟨(h.queues.freeDrop p _).unranged fun _ => ⟨rfl, rfl, rfl⟩, ?_⟩
  obtain ⟨-, hbut, hplaced, rfl, hphases⟩ := h
  rw [State.change_outline _ Standing.lost fun _ => rfl, State.freeDrop_outline]
  exact hplaced.tied_freed hbut (.inl rfl) hphases Standing.lost (fun _ => ⟨rfl, rfl, rfl, rfl, rfl, rfl⟩)
    (.inl ⟨rfl, hplaced.failures⟩)

theorem State.Working.helloRanged (h : s.Working p r []) (b : Bool) : (s.helloRanged p r b).Sound := by
  unfold State.helloRanged
  split
  · exact h.reenter _ _
  · exact h.helloUnranged

theorem State.helloRanged_verifies (s : State) (p r n : Nat) (b : Bool) : (s.helloRanged p r b).verifies n = s.verifies n := by
  unfold State.helloRanged
  split
  · exact State.reenter_verifies ..
  · simp [State.helloUnranged]

theorem State.helloOwnPort_verifies (s : State) (p r n : Nat) (b : Bool) : (s.helloOwnPort p r b).verifies n = s.verifies n := by
  unfold State.helloOwnPort
  split
  case h_1 => exact State.nameExpected_verifies ..
  case h_2 | h_3 | h_4 => exact State.helloActivating_verifies ..
  case h_5 | h_6 | h_7 => exact State.helloRanged_verifies ..
  case h_8 => rfl

theorem State.Sound.helloOwnPort (h : s.Sound) (hr : r < 480) (hport : (s.record r).port = p)
    (hserial : (s.record r).serial.isSome = true) (b : Bool) : (s.helloOwnPort p r b).Sound := by
  have hranged : (s.record r).state.ranged = true → (s.helloRanged p r b).Sound := fun hst =>
    (hport ▸ h.working_of_ranged hst : s.Working p r []).helloRanged b
  unfold State.helloOwnPort
  split
  case h_1 hst => exact h.nameExpected hr hst hport hserial _ _
  case h_2 hst | h_3 hst | h_4 hst => exact h.helloActivating (by rw [hst]; rfl) hport b
  case h_5 hst | h_6 hst | h_7 hst => exact hranged (by rw [hst]; rfl)
  case h_8 => exact h

/-- An EXPECTED record moves to another port and is named there (R94). -/
theorem State.Sound.helloMove (h : s.Sound) (hp : p < 4) (hr : r < 480) (hst : (s.record r).state = .expected)
    (hserial : (s.record r).serial.isSome = true) (b : Bool) : (s.helloMove p r b).Sound := by
  have hmoved : (s.change r (fun c => { c with port := p, lastHeard := none, cause := .moved })).Sound := by
    refine ⟨h.queues.changed fun _ => ⟨rfl, rfl, rfl⟩, ?_⟩
    rw [State.change_outline _ (fun c => { c with port := p }) fun _ => rfl]
    have ht := (h.tied.at_ r).tidy
    exact h.tied.restand hr (by rw [show (s.outline.standing r).state = _ from hst]; rfl)
      (by rw [show (s.outline.standing r).state = _ from hst]; rfl) rfl rfl rfl rfl { ht with port := Nat.le_of_lt_succ hp }
  have hrecord := s.change_record_self hr (fun c => { c with port := p, lastHeard := none, cause := .moved })
  refine hmoved.nameExpected hr ?_ ?_ ?_ _ _
  all_goals rw [hrecord]
  · exact hst
  · exact hserial

theorem State.helloOtherPort_upholds (hp : p < 4) {k : Nat} (hk : mapGet s.serialIndex k = some r) (b : Bool) :
    s.Upholds (s.helloOtherPort p r b) := by
  simp only [State.helloOtherPort]
  split
  · next hc =>
    refine ⟨fun n hn => by simpa [State.helloMove] using hn, fun _ h => ?_⟩
    obtain ⟨hr, hserial⟩ := h.lt_of_serial hk
    exact h.helloMove hp hr hc.2.1 hserial b
  · exact State.change_upholds (fun _ => ⟨rfl, rfl, rfl⟩) fun _ => rfl

end Sys2Proof.Machine
end

section
/-! What every step but an upset keeps, fourteenth part: strangers, the lookup of a HELLO, and the reports in processing (R86 to R88, R96). -/

namespace Sys2Proof.Machine

variable {s : State} {o : Outline} {p r : Nat}

theorem Outline.Tied.withStrangers (h : o.Tied) {es : List Stranger}
    (hes : ∀ e ∈ es, o.bySerial e.serial.toNat = none ∧ e.port ≤ 3) : ({ o with strangers := es } : Outline).Tied where
  at_ n := (h.at_ n).congr rfl (fun _ _ => Iff.rfl) (fun _ => Iff.rfl) (fun _ => Iff.rfl) (fun _ => rfl) rfl
  strangers := hes

/-- A serial that no record holds is entered among the strangers or heard again (R96). -/
theorem State.helloStranger_upholds (hp : p < 4) {x : Serial} (hx : mapGet s.serialIndex x.toNat = none) (b : Bool) :
    s.Upholds (s.helloStranger p x b) := by
  have hport := Nat.le_of_lt_succ hp
  simp only [State.helloStranger]
  split
  · refine ⟨fun _ => id, fun _ h => ⟨h.queues, h.tied.withStrangers fun e he => ?_⟩⟩
    obtain ⟨e', he', rfl⟩ := List.mem_map.mp he
    split
    · next hserial => exact ⟨by rw [← hserial] at hx; exact hx, hport⟩
    · exact h.tied.strangers e' he'
  · refine ⟨fun _ => id, fun _ h => ⟨h.queues, h.tied.withStrangers fun e he => ?_⟩⟩
    rcases List.mem_append.mp he with hold | hnew
    · refine h.tied.strangers e ?_
      split at hold
      · exact hold
      · exact List.mem_of_mem_drop hold
    · rw [List.mem_singleton.mp hnew]
      exact ⟨hx, hport⟩

theorem State.helloLookup_upholds (hp : p < 4) (s : State) (x : Serial) (b : Bool) : s.Upholds (s.helloLookup p x b) := by
  unfold State.helloLookup
  split
  · next hx => exact State.helloStranger_upholds hp hx b
  · next r hk =>
    split
    · next hv => exact State.damage_upholds (by simpa using hv)
    · split
      · next hport =>
        refine ⟨fun n hn => (s.helloOwnPort_verifies p r n b).trans hn, fun _ h => ?_⟩
        obtain ⟨hr, hserial⟩ := h.lt_of_serial hk
        exact h.helloOwnPort hr hport hserial b
      · exact State.helloOtherPort_upholds hp hk b

theorem State.hello_upholds (hp : p < 4) (s : State) (tag : Nat) (x : Serial) (b : Bool) : s.Upholds (s.hello p tag x b) := by
  have hwindow : s.Upholds (s.modPort p (fun q => q.heardWindow tag)) := by
    refine State.modPort_upholds ?_
    unfold Port.heardWindow
    split <;> exact ⟨rfl, rfl, rfl, rfl⟩
  have hrecord : ∀ t : State, t.Upholds (t.modPort p (fun q => q.recordHeard x)) := fun t => by
    refine State.modPort_upholds ?_
    unfold Port.recordHeard
    split <;> exact ⟨rfl, rfl, rfl, rfl⟩
  simp only [State.hello]
  split
  · exact hwindow
  · exact (hwindow.trans (hrecord _)).trans (State.helloLookup_upholds hp _ x b)

theorem State.registryStep_upholds (hp : p < 4) (s : State) : s.Upholds (s.registryStep p) := by
  have hcleared : s.Upholds (s.modPort p (fun q => { q with processing := none })) := State.modPort_upholds ⟨rfl, rfl, rfl, rfl⟩
  simp only [State.registryStep]
  split
  · exact .refl s
  · split
    · exact hcleared
    · exact hcleared.trans (State.hello_upholds hp _ _ _ _)

theorem Port.beginReport_alike (q : Port) : q.Alike q.beginReport := by
  unfold Port.beginReport
  split
  · split <;> exact ⟨rfl, rfl, rfl, rfl⟩
  · exact ⟨rfl, rfl, rfl, rfl⟩

end Sys2Proof.Machine
end

section
/-! What every step but an upset keeps, fifteenth part: the indexes and the strangers (R6 to R9), and records taken out of all that refers to
them. -/

namespace Sys2Proof.Machine

variable {o : Outline} {r : Nat} {x : Option Serial} {y : Option Nat}

/-! ### A record at rest, with what the indexes say of it -/

/-- The serial index gives record `r` exactly under the serial `x`. -/
def Outline.SerialTied (o : Outline) (r : Nat) (x : Option Serial) : Prop :=
  ∀ k, o.bySerial k = some r ↔ ∃ z, x = some z ∧ z.toNat = k

/-- The plot index gives record `r` exactly under the plot `y`. -/
def Outline.PlotTied (o : Outline) (r : Nat) (y : Option Nat) : Prop := ∀ k, o.byPlot k = some r ↔ y = some k

theorem Outline.SerialTied.unserial (h : o.SerialTied r x) : (o.unserial x).SerialTied r none := by
  intro k
  refine iff_of_false (fun hk => ?_) nofun
  cases x with
  | none =>
    obtain ⟨z, hz, -⟩ := (h k).mp hk
    cases hz
  | some x =>
    obtain ⟨hne, hold⟩ := Option.ite_none_left_eq_some.mp hk
    obtain ⟨z, hz, rfl⟩ := (h k).mp hold
    exact hne (by rw [Option.some.inj hz])

theorem Outline.SerialTied.index (h : o.SerialTied r none) (z : Serial) :
    (o.indexSerial z.toNat (some r)).SerialTied r (some z) := by
  intro k
  change (if k = z.toNat then some r else o.bySerial k) = some r ↔ _
  split
  · next hk => exact iff_of_true rfl ⟨z, rfl, hk.symm⟩
  · next hk =>
    refine iff_of_false (fun hold => ?_) ?_
    · obtain ⟨w, hw, -⟩ := (h k).mp hold
      cases hw
    · rintro ⟨w, hw, rfl⟩
      exact hk (by rw [Option.some.inj hw])

theorem Outline.PlotTied.unplot (h : o.PlotTied r y) : (o.unplot y).PlotTied r none := by
  intro k
  refine iff_of_false (fun hk => ?_) nofun
  cases y with
  | none => cases (h k).mp hk
  | some y =>
    obtain ⟨hne, hold⟩ := Option.ite_none_left_eq_some.mp hk
    exact hne (Option.some.inj ((h k).mp hold)).symm

theorem Outline.PlotTied.index (h : o.PlotTied r none) (k : Nat) : (o.indexPlot k (some r)).PlotTied r (some k) := by
  intro j
  change (if j = k then some r else o.byPlot j) = some r ↔ _
  split
  · next hj => exact iff_of_true rfl (by rw [hj])
  · next hj => exact iff_of_false (fun hold => by cases (h j).mp hold) fun hk => hj (Option.some.inj hk).symm

theorem Outline.unserial_le {k m : Nat} (h : (o.unserial x).bySerial k = some m) : o.bySerial k = some m := by
  cases x with
  | none => exact h
  | some x => exact (Option.ite_none_left_eq_some.mp h).2

theorem Outline.unplot_le {k m : Nat} (h : (o.unplot y).byPlot k = some m) : o.byPlot k = some m := by
  cases y with
  | none => exact h
  | some y => exact (Option.ite_none_left_eq_some.mp h).2

/-- The indexes give record `r` under `x` and `y`, and everything agrees with the other records. -/
structure Outline.Keyed (o : Outline) (r : Nat) (x : Option Serial) (y : Option Nat) : Prop where
  but : o.TiedBut r
  serial : o.SerialTied r x
  plot : o.PlotTied r y

theorem Outline.Tied.keyed (h : o.Tied) (r : Nat) : o.Keyed r (o.standing r).serial (o.standing r).plot :=
  ⟨h.but r, (h.at_ r).referred.serial, (h.at_ r).referred.plot⟩

theorem Outline.Keyed.unserial (h : o.Keyed r x y) : (o.unserial x).Keyed r none y where
  but := by
    cases hx : x with
    | none => exact h.but
    | some z =>
      refine h.but.indexSerial (v := none) nofun (fun _ hm => ?_) (es := o.strangers) fun e he => .inr (.inr ⟨rfl, he⟩)
      rw [(h.serial z.toNat).mpr ⟨z, hx, rfl⟩] at hm
      exact (Option.some.inj hm).symm
  serial := h.serial.unserial
  plot := by cases x <;> exact h.plot

theorem Outline.Keyed.unplot (h : o.Keyed r x y) : (o.unplot y).Keyed r x none where
  but := by
    cases hy : y with
    | none => exact h.but
    | some k =>
      refine h.but.indexPlot (v := none) nofun fun _ hm => ?_
      rw [(h.plot k).mpr hy] at hm
      exact (Option.some.inj hm).symm
  serial := by cases y <;> exact h.serial
  plot := h.plot.unplot

/-- A serial that no other record holds goes to the record, and is a stranger's no more. -/
theorem Outline.Keyed.indexSerial (h : o.Keyed r none y) {z : Serial} (hz : ∀ m, o.bySerial z.toNat = some m → m = r)
    {es : List Stranger} (hes : ∀ e ∈ es, e ∈ o.strangers ∧ e.serial ≠ z) :
    ({ o.indexSerial z.toNat (some r) with strangers := es } : Outline).Keyed r (some z) y where
  but := h.but.indexSerial (fun _ hm => (Option.some.inj hm).symm) hz fun e he =>
    .inl ⟨fun hk => (hes e he).2 (BitVec.eq_of_toNat_eq hk), (hes e he).1⟩
  serial := h.serial.index z
  plot := h.plot

theorem Outline.Keyed.indexPlot (h : o.Keyed r x none) {k : Nat} (hk : ∀ m, o.byPlot k = some m → m = r) :
    (o.indexPlot k (some r)).Keyed r x (some k) where
  but := h.but.indexPlot (fun _ hm => (Option.some.inj hm).symm) hk
  serial := h.serial
  plot := h.plot.index k

/-- Besides, record `r` holds no drop id and has no entry. -/
structure Outline.Resting (o : Outline) (r : Nat) (x : Option Serial) (y : Option Nat) : Prop extends o.Keyed r x y where
  holder : ∀ p d, o.holder p d ≠ some r
  phases : ∀ p, o.phases p r = []

theorem Outline.Tied.resting (h : o.Tied) (ha : (o.standing r).state.activating = false)
    (hg : (o.standing r).state.ranged = false) : o.Resting r (o.standing r).serial (o.standing r).plot :=
  have ⟨_, _, hholder, hphases⟩ := (h.at_ r).resting ha hg
  ⟨h.keyed r, hholder, hphases⟩

theorem Outline.Resting.unserial (h : o.Resting r x y) : (o.unserial x).Resting r none y :=
  ⟨h.toKeyed.unserial, by cases x <;> exact h.holder, by cases x <;> exact h.phases⟩

theorem Outline.Resting.unplot (h : o.Resting r x y) : (o.unplot y).Resting r x none :=
  ⟨h.toKeyed.unplot, by cases y <;> exact h.holder, by cases y <;> exact h.phases⟩

/-- The record takes a standing that goes with its index entries. -/
theorem Outline.Resting.tied (h : o.Resting r x y) (hr : r < 480) {c : Standing} (hc : o.standing r = c) {g : Standing → Standing}
    (hserial : (g c).serial = x) (hplot : (g c).plot = y) (hdrop : (g c).dropId = 0) (hranging : (g c).ranging = none)
    (ht : (g c).Tidy) : (o.stand r g).Tied := by
  subst hc
  have hself := o.stand_self hr g
  refine (h.but.stand g).tied (Outline.tiedAt_resting (hself ▸ ht) (by rw [hself, hdrop]) (by rw [hself, hranging]) h.holder
    h.phases (fun k => ?_) (fun k => ?_))
  · rw [hself, hserial]
    exact h.serial k
  · rw [hself, hplot]
    exact h.plot k

/-! ### Giving up a drop id and an entry (R16, R26, R30, R36) -/

variable {s : State}

theorem State.releaseHeld_same (s : State) (r : Nat) : (s.releaseHeld r).outline.standing = s.outline.standing
    ∧ (s.releaseHeld r).outline.phases = s.outline.phases ∧ (s.releaseHeld r).outline.bySerial = s.outline.bySerial
    ∧ (s.releaseHeld r).outline.byPlot = s.outline.byPlot ∧ (s.releaseHeld r).outline.strangers = s.outline.strangers
    ∧ (s.releaseHeld r).outline.teq = s.outline.teq := by
  by_cases hd : (s.record r).dropId = 0
  · rw [State.releaseHeld]
    simp only [if_pos hd]
    exact ⟨trivial, trivial, trivial, trivial, trivial, trivial⟩
  · rw [s.releaseHeld_outline hd]
    exact ⟨rfl, rfl, rfl, rfl, rfl, rfl⟩

/-- After a record has given up its drop id, nothing but its entries and the indexes refers to it. -/
theorem State.Sound.released (h : s.Sound) (r : Nat) :
    (s.releaseHeld r).outline.TiedBut r ∧ ∀ p d, (s.releaseHeld r).outline.holder p d ≠ some r := by
  have hat := h.tied.at_ r
  by_cases hd : (s.record r).dropId = 0
  · have he : s.releaseHeld r = s := if_pos hd
    rw [he]
    refine ⟨h.tied.but r, fun p d hh => ?_⟩
    obtain ⟨-, rfl, h0⟩ := (hat.referred.holder p d).mp hh
    exact h0 hd
  · have hst := hat.tidy.held.mp hd
    have hr : r < 480 := s.lt_of_state fun hv => by
      rcases hst with hc | hc <;> rw [show (s.outline.standing r).state = _ from hv] at hc <;> cases hc
    have hplaced := hat.placed hr hst
    rw [s.releaseHeld_outline hd]
    exact ⟨(h.tied.but r).hold nofun hplaced.holder_own, hplaced.hold_none⟩

/-- A record without entries that has given up its drop id is at rest. -/
theorem State.Sound.released_resting (h : s.Sound) (hph : ∀ p, s.outline.phases p r = []) :
    (s.releaseHeld r).outline.Resting r (s.record r).serial (s.record r).plot := by
  obtain ⟨hbut, hholder⟩ := h.released r
  obtain ⟨-, hphases, hserial, hplot, -, -⟩ := s.releaseHeld_same r
  have href := (h.tied.at_ r).referred
  refine ⟨⟨hbut, fun k => ?_, fun k => ?_⟩, hholder, fun p => by rw [hphases, hph]⟩
  · rw [hserial]
    exact href.serial k
  · rw [hplot]
    exact href.plot k

/-- So is one whose entry leaves with it. -/
theorem State.Sound.released_removed (h : s.Sound) (r : Nat) :
    ((s.releaseHeld r).removeEntry (s.record r).port r).outline.Resting r (s.record r).serial (s.record r).plot := by
  obtain ⟨hbut, hholder⟩ := h.released r
  obtain ⟨-, hphases, hserial, hplot, -, -⟩ := s.releaseHeld_same r
  have hat := h.tied.at_ r
  rw [State.removeEntry_outline]
  refine ⟨⟨hbut.rephase _ _, fun k => ?_, fun k => ?_⟩, hholder, fun p => ?_⟩
  · change (s.releaseHeld r).outline.bySerial k = some r ↔ _
    rw [hserial]
    exact hat.referred.serial k
  · change (s.releaseHeld r).outline.byPlot k = some r ↔ _
    rw [hplot]
    exact hat.referred.plot k
  · by_cases hp : p = (s.record r).port
    · rw [hp]
      exact Outline.rephase_self _ (Nat.lt_succ_of_le hat.tidy.port) _
    · refine (if_neg fun hc => hp hc.1).trans ?_
      rw [hphases]
      exact hat.entered.elsewhere p hp

end Sys2Proof.Machine
end

section
/-! What every step but an upset keeps, sixteenth part: the record commands that leave the indexes (R18, R20, R35, R37, R38, R129). -/

namespace Sys2Proof.Machine

variable {s : State} {n : Nat}

/-! ### The checks (R10) -/

/-- A record command does its effect, where its checks pass, or handles damage, or nothing. -/
theorem recordCommand_upholds {l : Link} {k : Permit} {argsOk : Bool} {check : State → Record → Option Status}
    {apply : State → State} (h : n < 480 → argsOk = true → check s (s.record n) = none → s.Upholds (apply s)) :
    s.Upholds (recordCommand l k n argsOk check apply s).1 := by
  unfold recordCommand
  split
  · exact .refl s
  · split
    · exact .refl s
    · next hn =>
      split
      · exact .refl s
      · next ha =>
        split
        · next hv =>
          dsimp only
          exact State.damage_upholds (by simpa using hv)
        · split
          · exact .refl s
          · next hc => exact h (Nat.lt_of_not_le hn) (by simpa using ha) hc

theorem heldByOther_eq_false {m : NumMap} {k : Nat} (h : heldByOther m k n = false) (x : Nat) (hx : mapGet m k = some x) :
    x = n := by
  unfold heldByOther at h
  rw [hx] at h
  simpa using h

/-! ### PIN, UNPIN, RETRY (R18, R20) -/

theorem doPin_upholds (l : Link) (r : Half) : s.Upholds (doPin l r s).1 :=
  recordCommand_upholds fun _ _ _ => State.modRecord_upholds (fun _ => ⟨rfl, rfl, rfl⟩) fun _ => rfl

theorem doUnpin_upholds (l : Link) (r : Half) : s.Upholds (doUnpin l r s).1 :=
  recordCommand_upholds fun _ _ _ => State.modRecord_upholds (fun _ => ⟨rfl, rfl, rfl⟩) fun _ => rfl

theorem state_of_needState {l : Link} {st : RecState} {c : Record} (h : needState l st s c = none) : c.state = st := by
  unfold needState at h
  split at h
  · cases h
  · next hc => simpa using hc

/-- The fields of a record in EXPECTED (R2, R3). -/
theorem Standing.Tidy.expected {c : Standing} (h : c.Tidy) (hst : c.state = .expected) :
    c.dropId = 0 ∧ c.ranging = none ∧ c.plot ≠ none ∧ c.failures < 3 := by
  obtain ⟨-, -, -, hheld, hranging, hplot, -, -, hfailures, hbarred⟩ := h
  rw [hst] at hheld hranging hplot hbarred
  simp [RecState.activating, RecState.ranged] at hheld hranging hplot hbarred
  exact ⟨hheld, hranging, hplot, by omega⟩

theorem doRetry_upholds (l : Link) (r : Half) : s.Upholds (doRetry l r s).1 := by
  refine recordCommand_upholds fun hr _ hc => ⟨fun m hm => by rwa [State.change_verifies], fun _ h => ?_⟩
  have hst : (s.outline.standing r.toNat).state = .barred := state_of_needState hc
  refine ⟨h.queues.changed fun _ => ⟨rfl, rfl, rfl⟩, ?_⟩
  rw [State.change_outline _ (fun c => { c with state := .expected, failures := 0 }) fun _ => rfl]
  refine h.tied.restand hr (by rw [hst]; rfl) (by rw [hst]; rfl) rfl rfl rfl rfl ?_
  obtain ⟨hport, hdrop, hpref, hheld, hranging, hplot, -, -, -, -⟩ := (h.tied.at_ r.toNat).tidy
  rw [hst] at hheld hranging hplot
  exact ⟨hport, hdrop, hpref, by simpa [RecState.activating, RecState.ranged] using hheld,
    by simpa [RecState.ranged] using hranging, by simpa using hplot, by simp, by simp [RecState.activating, RecState.ranged],
    Nat.zero_le _, by simp⟩

/-! ### CONFIRM, ADMIT, SUSPEND, REDISCOVER (R35, R37, R38, R129) -/

/-- A record in service changes its state for another of QUERY, READY and ACTIVE. -/
theorem State.Sound.restate (h : s.Sound) {st : RecState} (hst : (s.record n).state.ranged = true) (hst' : st.ranged = true)
    (cause : Cause) : (s.change n (fun c => { c with state := st, cause := cause })).Sound := by
  refine ⟨h.queues.changed fun _ => ⟨rfl, rfl, rfl⟩, ?_⟩
  rw [State.change_outline _ (fun c => { c with state := st }) fun _ => rfl]
  obtain ⟨⟨⟨-, hbut, hplaced, -, hphases⟩, hranged⟩, -⟩ := h.serving hst
  exact hplaced.tied_ranged hbut (fun _ => ⟨rfl, rfl, rfl, rfl, rfl⟩) hplaced.failures hst' ⟨hranged, hplaced.referred.ranging⟩
    hphases

/-- Then a descriptor is queued for it on its port. -/
theorem State.restateAndQueue_upholds {st : RecState} {d : Descriptor} (hd : ∀ m, d.isSetDelayOf m = false)
    (hst : (s.record n).state.ranged = true) (hst' : st.ranged = true) (cause : Cause) :
    s.Upholds ((s.change n (fun c => { c with state := st, cause := cause })).enqueue (s.record n).port d) where
  verifies m hm := by rwa [State.enqueue_verifies, State.change_verifies]
  sound _ h := by
    have hrestated := h.restate hst hst' cause
    exact ⟨State.enqueue_queues _ (Nat.lt_succ_of_le (h.tied.at_ n).tidy.port) hd hrestated.queues,
      (State.enqueue_outline _ _ d).symm ▸ hrestated.tied⟩

theorem State.restate_upholds {st : RecState} (hst : (s.record n).state.ranged = true) (hst' : st.ranged = true) (cause : Cause) :
    s.Upholds (s.change n (fun c => { c with state := st, cause := cause })) :=
  ⟨fun m hm => by rwa [State.change_verifies], fun _ h => h.restate hst hst' cause⟩

theorem doConfirm_upholds (l : Link) (r : Half) : s.Upholds (doConfirm l r s).1 := by
  refine recordCommand_upholds fun _ _ hc => ?_
  have hst : (s.record r.toNat).state.ranged = true := by rw [state_of_needState hc]; rfl
  split
  · exact State.restateAndQueue_upholds (fun _ => rfl) hst rfl _
  · exact State.restate_upholds hst rfl _

theorem doAdmit_upholds (l : Link) (r : Half) : s.Upholds (doAdmit l r s).1 :=
  recordCommand_upholds fun _ _ hc => State.restateAndQueue_upholds (fun _ => rfl) (by rw [state_of_needState hc]; rfl) rfl _

theorem doSuspend_upholds (l : Link) (r : Half) : s.Upholds (doSuspend l r s).1 :=
  recordCommand_upholds fun _ _ hc => State.restateAndQueue_upholds (fun _ => rfl) (by rw [state_of_needState hc]; rfl) rfl _

theorem doRediscover_upholds (l : Link) (r : Half) : s.Upholds (doRediscover l r s).1 := by
  refine recordCommand_upholds fun _ _ hc => ⟨fun m hm => by rwa [State.reenter_verifies], fun _ h => ?_⟩
  refine (h.working_of_ranged ?_).reenter _ _
  unfold rediscoverCheck at hc
  split at hc
  · cases hc
  · next hst => simpa using hst

/-! ### PLAN and RESTORE (R12, R13, R19) -/

theorem State.Sound.not_waiting (h : s.Sound) (hn : n < 480) (hr : (s.record n).ranging = none) :
    (s.record n).delaySync ≠ .waiting := fun hw => by
  have hsome := h.queues.2 n hn hw
  rw [hr] at hsome
  cases hsome

/-- What an empty record takes on when it is planned (R12). -/
def Standing.planned (a : PlanArgs) (port : Nat) : Standing where
  state := .expected
  port := port
  dropId := 0
  preferred := givenPreferred a
  serial := givenSerial a
  plot := some a.plot.toNat
  ranging := none
  failures := 0

theorem planArgs_ranges {a : PlanArgs} (h : planArgsOk a = true) :
    a.port.toNat ≤ 3 ∧ ∀ d, givenPreferred a = some d → 1 ≤ d ∧ d ≤ Config.maxDropId := by
  simp only [planArgsOk, Bool.and_eq_true, decide_eq_true_eq] at h
  obtain ⟨⟨⟨⟨⟨⟨-, hport⟩, -⟩, -⟩, -⟩, hpref⟩, -⟩ := h
  refine ⟨hport, fun d hd => ?_⟩
  rw [hd] at hpref
  simpa [preferredOk] using hpref

theorem Standing.planned_tidy {a : PlanArgs} (h : planArgsOk a = true) {port : Nat} (hp : port ≤ 3) : (Standing.planned a port).Tidy := by
  refine ⟨hp, Nat.zero_le _, (planArgs_ranges h).2, ?_, ?_, ?_, ?_, ?_, Nat.zero_le _, ?_⟩ <;>
    simp [Standing.planned, RecState.activating, RecState.ranged]

end Sys2Proof.Machine
end

section
/-! What every step but an upset keeps, seventeenth part: PLAN and RESTORE (R12, R13, R19). -/

namespace Sys2Proof.Machine

variable {s : State} {n : Nat}

/-! ### Strangers and keys (R6 to R9) -/

theorem State.not_stranger {x : Serial} (h : s.stranger x = none) (e : Stranger) (he : e ∈ s.strangers) : e.serial ≠ x := by
  have hne := List.find?_eq_none.mp h e he
  simpa using hne

theorem State.stranger_spec {x : Serial} {e : Stranger} (h : s.stranger x = some e) : e ∈ s.strangers ∧ e.serial = x :=
  ⟨List.mem_of_find?_eq_some h, by simpa using List.find?_some h⟩

/-- The serial of a stranger goes to record `n`, which has none (R9). -/
theorem Outline.Keyed.adopt {o : Outline} {y : Option Nat} (h : o.Keyed n none y) {x : Serial}
    (hx : ∀ m, o.bySerial x.toNat = some m → m = n) :
    ({ o.indexSerial x.toNat (some n) with strangers := o.strangers.filter (fun e => e.serial != x) } : Outline).Keyed n (some x) y :=
  h.indexSerial hx fun e he => by simpa using List.mem_filter.mp he

/-! ### PLAN and RESTORE (R12, R13, R19) -/

theorem planCheck_passed {a : PlanArgs} {needed : RecState} {c : Record} (h : planCheck a needed s c = none) :
    c.state = needed ∧ (∀ m, mapGet s.plotIndex a.plot.toNat = some m → m = a.record.toNat)
      ∧ ∀ x, givenSerial a = some x → ∀ m, mapGet s.serialIndex x.toNat = some m → m = a.record.toNat := by
  unfold planCheck at h
  split at h
  · cases h
  · next hst =>
    split at h
    · cases h
    · next hplot =>
      refine ⟨by simpa using hst, heldByOther_eq_false (by simpa using hplot), fun x hx => ?_⟩
      rw [hx] at h
      simp only [ite_eq_right_iff, reduceCtorEq, imp_false, Bool.not_eq_true] at h
      exact heldByOther_eq_false h

/-- A record in VACANT or DAMAGED is at rest, in no index, and waits for nothing. -/
theorem State.Sound.empty (h : s.Sound) (hst : (s.record n).state = .vacant ∨ (s.record n).state = .damaged) :
    s.outline.Resting n none none ∧ (s.record n).ranging = none := by
  have htidy := (h.tied.at_ n).tidy
  have hact : (s.outline.standing n).state.activating = false ∧ (s.outline.standing n).state.ranged = false := by
    rcases hst with hc | hc <;> rw [show (s.outline.standing n).state = _ from hc] <;> exact ⟨rfl, rfl⟩
  have hrest := h.tied.resting hact.1 hact.2
  rw [htidy.noSerial hst, htidy.plot.mpr hst] at hrest
  exact ⟨hrest, ((h.tied.at_ n).resting hact.1 hact.2).2.1⟩

theorem State.Sound.planned_queues (h : s.Sound) (hst : (s.record n).state = .vacant ∨ (s.record n).state = .damaged)
    (a : PlanArgs) (port : Nat) (b : Option Bool) (cause : Cause) :
    (s.change n (plannedContent a port b cause)).queuesSound :=
  s.change_queues (fun hn => ⟨rfl, Iff.rfl, fun _ hw => absurd hw (h.not_waiting hn (h.empty hst).2)⟩) h.queues

theorem State.planned_outline (s : State) (a : PlanArgs) (port : Nat) (b : Option Bool) (cause : Cause) :
    (s.change n (plannedContent a port b cause)).outline = s.outline.stand n (fun _ => Standing.planned a port) :=
  s.change_outline _ fun _ => rfl

theorem State.Sound.planPlain (h : s.Sound) {a : PlanArgs} {needed : RecState} (hn : a.record.toNat < 480)
    (ha : planArgsOk a = true) (hneed : needed = .vacant ∨ needed = .damaged)
    (hc : planCheck a needed s (s.record a.record.toNat) = none) (hs : (givenSerial a).bind s.stranger = none) (cause : Cause) :
    (s.planPlain a cause).Sound := by
  obtain ⟨hst, hplot, hserial⟩ := planCheck_passed hc
  have hempty : (s.record a.record.toNat).state = .vacant ∨ (s.record a.record.toNat).state = .damaged := hst ▸ hneed
  have hqueues := h.planned_queues hempty a a.port.toNat none cause
  have htidy := Standing.planned_tidy ha (planArgs_ranges ha).1
  have hrest := (h.empty hempty).1
  have hkeyed := hrest.toKeyed.indexPlot hplot
  simp only [State.planPlain]
  split
  · next hnone =>
    refine ⟨hqueues, ?_⟩
    rw [State.indexPlot_outline, State.planned_outline]
    have hrest' : (s.outline.indexPlot a.plot.toNat (some a.record.toNat)).Resting a.record.toNat none (some a.plot.toNat) :=
      ⟨hkeyed, hrest.holder, hrest.phases⟩
    exact hrest'.tied (g := fun _ => Standing.planned a a.port.toNat) hn rfl hnone rfl rfl rfl htidy
  · next x hx =>
    refine ⟨hqueues, ?_⟩
    rw [State.indexSerial_outline, State.indexPlot_outline, State.planned_outline]
    have hfree : ∀ e ∈ s.strangers, e.serial ≠ x := State.not_stranger (by rw [hx] at hs; exact hs)
    have hrest' : ((s.outline.indexPlot a.plot.toNat (some a.record.toNat)).indexSerial x.toNat (some a.record.toNat)).Resting
        a.record.toNat (some x) (some a.plot.toNat) :=
      ⟨hkeyed.indexSerial (hserial x hx) (es := s.strangers) fun e he => ⟨he, hfree e he⟩, hrest.holder, hrest.phases⟩
    exact hrest'.tied (g := fun _ => Standing.planned a a.port.toNat) hn rfl hx rfl rfl rfl htidy

theorem State.Sound.planAdopting (h : s.Sound) {a : PlanArgs} {needed : RecState} (hn : a.record.toNat < 480)
    (ha : planArgsOk a = true) (hneed : needed = .vacant ∨ needed = .damaged)
    (hc : planCheck a needed s (s.record a.record.toNat) = none) {x : Serial} {e : Stranger} (hx : givenSerial a = some x)
    (he : s.stranger x = some e) (cause causeNamed : Cause) : (s.planAdopting a e cause causeNamed).Sound := by
  obtain ⟨hst, hplot, hserial⟩ := planCheck_passed hc
  obtain ⟨hmem, rfl⟩ := State.stranger_spec he
  have hempty : (s.record a.record.toNat).state = .vacant ∨ (s.record a.record.toNat).state = .damaged := hst ▸ hneed
  have hrest := (h.empty hempty).1
  have hkeyed := (hrest.toKeyed.indexPlot hplot).adopt (hserial _ hx)
  have hrest' := Outline.Resting.mk hkeyed hrest.holder hrest.phases
  have htied := hrest'.tied (g := fun _ => Standing.planned a e.port) hn rfl hx rfl rfl rfl
    (Standing.planned_tidy ha (h.tied.strangers e hmem).2)
  have hadopted : ((((s.change a.record.toNat (plannedContent a e.port (some e.levelable) cause)).indexPlot a.plot.toNat
      a.record.toNat).indexSerial e.serial a.record.toNat).removeStranger e.serial).Sound := by
    refine ⟨h.planned_queues hempty a e.port (some e.levelable) cause, ?_⟩
    have houtline := s.planned_outline (n := a.record.toNat) a e.port (some e.levelable) cause
    change ({ (((s.change a.record.toNat (plannedContent a e.port (some e.levelable) cause)).indexPlot a.plot.toNat
      a.record.toNat).indexSerial e.serial a.record.toNat).outline with
        strangers := s.strangers.filter (fun e' => e'.serial != e.serial) } : Outline).Tied
    rw [State.indexSerial_outline, State.indexPlot_outline, houtline]
    exact htied
  have hrecord := s.change_record_self hn (plannedContent a e.port (some e.levelable) cause)
  refine hadopted.nameAtOnce hn ?_ ?_ causeNamed
  · exact congrArg Record.state hrecord
  · have hgiven : (givenSerial a).isSome = true := by rw [hx]; rfl
    exact (congrArg (fun c : Record => c.serial.isSome) hrecord).trans hgiven

theorem State.planRecord_verifies (s : State) (a : PlanArgs) (c1 c2 c3 : Cause) (m : Nat) :
    (s.planRecord a c1 c2 c3).verifies m = s.verifies m := by
  have hchange : ∀ port b cause, (s.change a.record.toNat (plannedContent a port b cause)).verifies m = s.verifies m :=
    fun _ _ _ => s.change_verifies _ m _
  unfold State.planRecord
  split
  · exact (State.nameAtOnce_verifies _ _ m c3).trans (hchange _ _ _)
  · simp only [State.planPlain]
    split <;> exact hchange _ _ _

theorem State.planRecord_upholds {a : PlanArgs} {needed : RecState} (hn : a.record.toNat < 480) (ha : planArgsOk a = true)
    (hneed : needed = .vacant ∨ needed = .damaged) (hc : planCheck a needed s (s.record a.record.toNat) = none) (c1 c2 c3 : Cause) :
    s.Upholds (s.planRecord a c1 c2 c3) := by
  refine ⟨fun m hm => (s.planRecord_verifies a c1 c2 c3 m).trans hm, fun _ h => ?_⟩
  unfold State.planRecord
  split
  · next e he =>
    obtain ⟨x, hx, he⟩ := Option.bind_eq_some_iff.mp he
    exact h.planAdopting hn ha hneed hc hx he c2 c3
  · next hs => exact h.planPlain hn ha hneed hc hs c1

theorem doPlan_upholds (l : Link) (a : PlanArgs) : s.Upholds (doPlan l a s).1 :=
  recordCommand_upholds fun hn ha hc => State.planRecord_upholds hn ha (.inl rfl) hc _ _ _

theorem doRestore_upholds (l : Link) (a : PlanArgs) : s.Upholds (doRestore l a s).1 :=
  recordCommand_upholds fun hn ha hc => State.planRecord_upholds hn ha (.inr rfl) hc _ _ _

end Sys2Proof.Machine
end

section
/-! What every step but an upset keeps, eighteenth part: ADOPT, RETIRE and REJECT (R16, R17, R36). -/

namespace Sys2Proof.Machine

variable {s : State} {n : Nat}

/-! ### ADOPT (R17) -/

theorem State.adoptRecord_verifies (s : State) (n m : Nat) (x : Serial) : (s.adoptRecord n x).verifies m = s.verifies m := by
  unfold State.adoptRecord
  split
  · rfl
  · simp only [State.nameAtOnce_verifies, State.change_verifies]
    cases (s.record n).serial <;> rfl

theorem State.unindexSerial_record (s : State) (x : Option Serial) (n : Nat) : (s.unindexSerial x).record n = s.record n := by
  cases x <;> rfl

theorem State.queuesSound.unindexSerial (h : s.queuesSound) (x : Option Serial) : (s.unindexSerial x).queuesSound := by
  cases x <;> exact h

theorem State.queuesSound.unindexPlot (h : s.queuesSound) (y : Option Nat) : (s.unindexPlot y).queuesSound := by
  cases y <;> exact h

/-- What adoption makes of an EXPECTED record (R17). -/
def Standing.adopted (e : Stranger) (c : Standing) : Standing := { c with serial := some e.serial, port := e.port }

theorem Standing.adopted_tidy {c : Standing} (h : c.Tidy) (hst : c.state = .expected) {e : Stranger} (he : e.port ≤ 3) :
    (c.adopted e).Tidy := by
  obtain ⟨hport, hdrop, hpref, hheld, hranging, hplot, hno, hser, hfail, hbarred⟩ := h
  refine ⟨he, hdrop, hpref, hheld, hranging, hplot, fun hc => ?_, fun _ => rfl, hfail, hbarred⟩
  rcases hc with hc | hc <;> rw [show c.state = _ from hc] at hst <;> cases hst

theorem State.Sound.adoptRecord (h : s.Sound) (hn : n < 480) (hst : (s.record n).state = .expected) (x : Serial) :
    (s.adoptRecord n x).Sound := by
  unfold State.adoptRecord
  split
  · exact h
  · next e he =>
    obtain ⟨hmem, rfl⟩ := State.stranger_spec he
    obtain ⟨hnone, hport⟩ := h.tied.strangers e hmem
    have hst' : (s.outline.standing n).state = .expected := hst
    have hrest := (h.tied.resting (r := n) (by rw [hst']; rfl) (by rw [hst']; rfl)).unserial
    have hkeyed := hrest.toKeyed.adopt (x := e.serial) fun m hm => by
      rw [Outline.unserial_le hm] at hnone
      cases hnone
    have hrest' := Outline.Resting.mk hkeyed hrest.holder hrest.phases
    have hstanding : (s.outline.unserial (s.record n).serial).standing = s.outline.standing := by
      cases (s.record n).serial <;> rfl
    have hstrangers : (s.outline.unserial (s.record n).serial).strangers = s.strangers := by
      cases (s.record n).serial <;> rfl
    have hself : (s.outline.unserial (s.record n).serial).standing n = s.outline.standing n := congrFun hstanding n
    have htidy := (h.tied.at_ n).tidy
    obtain ⟨hd0, hranging, -, -⟩ := htidy.expected hst'
    have htied := hrest'.tied (g := Standing.adopted e) hn hself rfl rfl hd0 hranging (Standing.adopted_tidy htidy hst' hport)
    have houtline : (((s.unindexSerial (s.record n).serial).indexSerial e.serial n).removeStranger e.serial).outline =
        { (s.outline.unserial (s.record n).serial).indexSerial e.serial.toNat (some n) with
          strangers := (s.outline.unserial (s.record n).serial).strangers.filter (fun e' => e'.serial != e.serial) } := by
      rw [← State.unindexSerial_outline, ← State.indexSerial_outline]
      cases (s.record n).serial <;> rfl
    have hrecord := State.change_record_self
      (((s.unindexSerial (s.record n).serial).indexSerial e.serial n).removeStranger e.serial) hn (fun c => { c with
        serial := some e.serial
        port := e.port
        levelable := some e.levelable
        lastHeard := none
        cause := .adopted })
    have hbefore : (((s.unindexSerial (s.record n).serial).indexSerial e.serial n).removeStranger e.serial).record n = s.record n :=
      s.unindexSerial_record _ n
    refine State.Sound.nameAtOnce ⟨?_, ?_⟩ hn ?_ ?_ _
    · have hindexed : (((s.unindexSerial (s.record n).serial).indexSerial e.serial n).removeStranger e.serial).queuesSound :=
        h.queues.unindexSerial _
      exact hindexed.changed fun _ => ⟨rfl, rfl, rfl⟩
    · rw [State.change_outline _ (Standing.adopted e) fun _ => rfl, houtline]
      exact htied
    · rw [hrecord, hbefore]
      exact hst
    · rw [hrecord]
      rfl

theorem doAdopt_upholds (l : Link) (r : Half) (x : Serial) : s.Upholds (doAdopt l r x s).1 := by
  refine recordCommand_upholds fun hn _ hc => ⟨fun m hm => (s.adoptRecord_verifies _ m x).trans hm, fun _ h => ?_⟩
  refine h.adoptRecord hn ?_ x
  unfold adoptCheck at hc
  split at hc
  · cases hc
  · next hst => simpa using hst

/-! ### RETIRE (R16, R159) -/

theorem State.clearTargets_queues (h : s.queuesSound) (r : Nat) : (s.clearTargets r).queuesSound :=
  eachNumber_keeps (f := fun s p => s.clearTarget r p) (fun t p _ (ht : t.queuesSound) => t.modPort_queues (p := p) rfl ht) h

/-- A record that owes nothing but what the queues hold for it (R16, R36). -/
theorem State.queuesSound.idle (h : s.queuesSound) {f : DelaySync → Record → Record}
    (hf : ∀ sync c, (f sync c).outstanding = c.outstanding ∧ (f sync c).delaySync = sync) :
    (s.change n (f (s.idleSync n))).queuesSound :=
  s.change_queues (fun hn => by
    obtain ⟨ho, hd⟩ := hf (s.idleSync n) (s.record n)
    exact Record.owesAs_of_idle ho hd (h.1.1 n hn).2) h

theorem State.retired_verifies (s : State) (n m : Nat) : (s.retireRecord n).verifies m = s.verifies m := by
  rw [s.retireRecord_eq, State.verifies, State.stored_congr (State.failIfReferences_records _ n)]
  refine (State.change_verifies _ n m _).trans ?_
  rw [State.verifies, State.stored_congr (s.retireDetached_records n), State.verifies]

theorem Record.retired_standing (c : Record) (sync : DelaySync) : (c.retired sync).standing = Record.vacant.standing := rfl

theorem State.Sound.retireRecord (h : s.Sound) (hn : n < 480) (hv : s.allVerify) : (s.retireRecord n).Sound := by
  have hqueues : (s.retireDetached n).queuesSound :=
    State.clearTargets_queues ((((h.queues.releaseHeld n).unindexSerial _).unindexPlot _).removeEntry _ n) n
  have hdetached : ((s.retireDetached n).change n (fun c => c.retired ((s.retireDetached n).idleSync n))).Sound := by
    refine ⟨hqueues.idle (f := fun sync c => c.retired sync) fun _ _ => ⟨rfl, rfl⟩, ?_⟩
    · rw [State.change_outline _ (fun _ => Record.vacant.standing) fun c => c.retired_standing _, State.retireDetached,
        State.clearTargets_outline, State.removeEntry_outline, State.unindexPlot_outline, State.unindexSerial_outline]
      have hcomm : ∀ (o : Outline) x y p f, ((o.unserial x).unplot y).rephase p n f = ((o.rephase p n f).unserial x).unplot y := by
        intro o x y p f
        cases x <;> cases y <;> rfl
      rw [hcomm, ← State.removeEntry_outline]
      exact (h.released_removed n).unserial.unplot.tied hn rfl rfl rfl rfl rfl Standing.vacant_tidy
  rw [s.retireRecord_eq]
  refine (eachNumber_upholds (fun t p _ => t.failIfReference_upholds n p) _).sound (fun m hm => ?_) hdetached
  rw [State.change_verifies, State.verifies, State.stored_congr (s.retireDetached_records n)]
  exact hv m hm

theorem doRetire_upholds (l : Link) (r : Half) : s.Upholds (doRetire l r s).1 :=
  recordCommand_upholds fun hn _ _ => ⟨fun m hm => (s.retired_verifies _ m).trans hm, fun hv h => h.retireRecord hn hv⟩

/-! ### REJECT (R36) -/

theorem Outline.Keyed.disown {o : Outline} {x : Serial} {y : Option Nat} (h : o.Keyed n (some x) y) {es : List Stranger} {e : Stranger}
    (hes : ∀ e' ∈ es, e' ∈ o.strangers) (he : e.serial = x) (hp : e.port ≤ 3) :
    ({ o.unserial (some x) with strangers := es ++ [e] } : Outline).Keyed n none y where
  but := by
    refine h.but.indexSerial (v := none) nofun (fun _ hm => ?_) fun e' he' => ?_
    · rw [(h.serial x.toNat).mpr ⟨x, rfl, rfl⟩] at hm
      exact (Option.some.inj hm).symm
    · rcases List.mem_append.mp he' with hold | hnew
      · exact .inr (.inr ⟨rfl, hes e' hold⟩)
      · rw [List.mem_singleton.mp hnew]
        exact .inr (.inl ⟨rfl, by rw [he], hp⟩)
  serial := h.serial.unserial
  plot := h.plot

theorem State.disown_outline (s : State) {c : Record} {x : Serial} (h : c.serial = some x) :
    (s.disown c).outline = { s.outline.unserial (some x) with
      strangers := (if s.strangers.length < 16 then s.strangers else s.strangers.drop 1) ++
        [{ serial := x, port := c.port, levelable := c.levelable.getD false, sightings := 1,
           lastFrame := (s.port c.port).frame }] } := by
  rw [s.disown_some h, ← State.unindexSerial_outline]
  rfl

/-- What REJECT makes of a record in QUERY (R36). -/
def Standing.rejected (c : Standing) : Standing := { c with state := .expected, dropId := 0, serial := none, ranging := none }

theorem Record.rejected_standing (c : Record) (sync : DelaySync) : (c.rejected sync).standing = c.standing.rejected := rfl

theorem Standing.rejected_tidy {c : Standing} (h : c.Tidy) (hst : c.state = .query) : c.rejected.Tidy := by
  obtain ⟨hport, -, hpref, -, -, hplot, -, -, hfail, hbarred⟩ := h
  rw [hst] at hplot hbarred
  refine ⟨hport, Nat.zero_le _, hpref, ?_, ?_, ?_, fun _ => rfl, ?_, hfail, ?_⟩
  · simp [Standing.rejected, RecState.activating, RecState.ranged]
  · simp [Standing.rejected, RecState.ranged]
  · simpa [Standing.rejected] using hplot
  · simp [Standing.rejected, RecState.activating, RecState.ranged]
  · simpa [Standing.rejected] using hbarred

theorem State.Sound.rejectRecord (h : s.Sound) (hst : (s.record n).state = .query) : (s.rejectRecord n).Sound := by
  have hranged : (s.outline.standing n).state.ranged = true := by rw [show (s.outline.standing n).state = _ from hst]; rfl
  have hserving := h.serving hranged
  have hat := h.tied.at_ n
  have hphases : ∀ p, s.outline.phases p n = [] := fun p => by
    by_cases hp : p = (s.outline.standing n).port
    · rw [hp]
      exact hat.entered.idle (RecState.not_activating_of_ranged hranged)
    · exact hat.entered.elsewhere p hp
  have hrest := h.released_resting hphases
  obtain ⟨x, hx⟩ := Option.isSome_iff_exists.mp (hat.tidy.serial (.inr hranged))
  obtain ⟨hstanding, -, -, -, hstrangers, -⟩ := s.releaseHeld_same n
  have hlist : (s.releaseHeld n).strangers = s.strangers := hstrangers
  have hdisowned : ((s.releaseHeld n).disown (s.record n)).queuesSound :=
    State.queuesSound_congr (State.disown_records _ _) (fun p _ => by rw [State.disown_port]) (h.queues.releaseHeld n)
  have hqueues : (s.rejectDetached n).queuesSound := State.clearTargets_queues hdisowned n
  rw [s.rejectRecord_eq]
  refine ⟨hqueues.idle (f := fun sync c => c.rejected sync) fun _ _ => ⟨rfl, rfl⟩, ?_⟩
  · rw [State.change_outline _ Standing.rejected fun c => c.rejected_standing _, State.rejectDetached, State.clearTargets_outline,
      State.disown_outline _ hx]
    rw [show (s.record n).serial = some x from hx] at hrest
    have hkeyed := hrest.toKeyed.disown (es := if (s.releaseHeld n).strangers.length < 16 then (s.releaseHeld n).strangers
        else (s.releaseHeld n).strangers.drop 1)
      (e := { serial := x, port := (s.record n).port, levelable := (s.record n).levelable.getD false, sightings := 1,
              lastFrame := ((s.releaseHeld n).port (s.record n).port).frame }) (fun e he => by
        split at he
        · exact he
        · exact List.mem_of_mem_drop he) rfl hat.tidy.port
    exact (Outline.Resting.mk hkeyed hrest.holder hrest.phases).tied hserving.placed.lt (congrFun hstanding n) rfl rfl rfl rfl
      (Standing.rejected_tidy hat.tidy hst)

theorem State.rejected_verifies (s : State) (n m : Nat) : (s.rejectRecord n).verifies m = s.verifies m := by
  rw [s.rejectRecord_eq, State.change_verifies, State.verifies, State.stored_congr (s.rejectDetached_records n), State.verifies]

theorem doReject_upholds (l : Link) (r : Half) : s.Upholds (doReject l r s).1 := by
  refine recordCommand_upholds fun _ _ hc => ⟨fun m hm => (s.rejected_verifies _ m).trans hm, fun _ h => h.rejectRecord ?_⟩
  unfold rejectCheck at hc
  split at hc
  · cases hc
  · next hst => simpa using hst

end Sys2Proof.Machine
end

section
/-! What every step but an upset keeps, nineteenth part: AMEND (R14, R15). -/

namespace Sys2Proof.Machine

variable {s : State} {a : AmendArgs}

/-! ### The checks (R10, R14) -/

theorem amendCheck_passed {c : Record} (h : amendCheck a s c = none) :
    amendStateOk a c.state = true
      ∧ (selects a 4 = true → ∀ m, mapGet s.plotIndex a.plan.plot.toNat = some m → m = a.plan.record.toNat)
      ∧ (selects a 5 = true → ∀ x, givenSerial a.plan = some x → ∀ m, mapGet s.serialIndex x.toNat = some m →
        m = a.plan.record.toNat) := by
  simp only [amendCheck] at h
  split at h
  · cases h
  · next hst =>
    split at h
    · cases h
    · split at h
      · cases h
      · next hplot =>
        refine ⟨by simpa using hst, fun h4 => heldByOther_eq_false ?_, fun h5 x hx => heldByOther_eq_false ?_⟩
        · simpa [h4] using hplot
        · simpa [h5, hx] using h

theorem amendArgs_ranges (h : amendArgsOk a = true) :
    (selects a 6 = true → a.plan.port.toNat ≤ 3)
      ∧ (selects a 3 = true → ∀ d, givenPreferred a.plan = some d → 1 ≤ d ∧ d ≤ Config.maxDropId) := by
  simp only [amendArgsOk, Bool.and_eq_true, Bool.or_eq_true, Bool.not_eq_true', decide_eq_true_eq] at h
  obtain ⟨⟨⟨⟨⟨⟨⟨⟨-, -⟩, -⟩, -⟩, -⟩, hpref⟩, -⟩, -⟩, hport⟩ := h
  refine ⟨fun h6 => hport.resolve_left (by simp [h6]), fun h3 d hd => ?_⟩
  have hok := hpref.resolve_left (by simp [h3])
  rw [hd] at hok
  simpa [preferredOk] using hok

/-! ### The record's standing and its index entries -/

/-- What AMEND makes of a record's standing (R14, R15). -/
def Standing.amended (a : AmendArgs) (c : Standing) : Standing :=
  { c with
    preferred := if selects a 3 then givenPreferred a.plan else c.preferred
    plot := if selects a 4 then some a.plan.plot.toNat else c.plot
    serial := if selects a 5 then givenSerial a.plan else c.serial
    port := if selects a 6 then a.plan.port.toNat else c.port }

theorem Standing.amended_tidy {c : Standing} (h : c.Tidy) (ha : amendArgsOk a = true) (hv : c.state ≠ .vacant) (hd : c.state ≠ .damaged)
    (hserial : c.state.activating = true ∨ c.state.ranged = true → (c.amended a).serial.isSome = true) : (c.amended a).Tidy := by
  obtain ⟨hport, hdrop, hpref, hheld, hranging, hplot, -, -, hfail, hbarred⟩ := h
  obtain ⟨hport', hpref'⟩ := amendArgs_ranges ha
  refine ⟨?_, hdrop, ?_, hheld, hranging, iff_of_false ?_ (not_or.mpr ⟨hv, hd⟩), fun hc => (hc.elim hv hd).elim, hserial, hfail,
    hbarred⟩
  · simp only [Standing.amended]
    split
    · next h6 => exact hport' h6
    · exact hport
  · simp only [Standing.amended]
    split
    · next h3 => exact hpref' h3
    · exact hpref
  · simp only [Standing.amended]
    split
    · exact nofun
    · exact fun hn => (hplot.mp hn).elim hv hd

/-- The indexes and the stranger list follow an AMEND (R7, R9, R15). -/
def State.amendIndexes (s : State) (a : AmendArgs) (c : Record) : State := (s.amendPlot a c.plot).amendSerial a c.serial

theorem State.amendIndexes_change (s : State) (a : AmendArgs) (c : Record) (n : Nat) (f : Record → Record) :
    (s.change n f).amendIndexes a c = (s.amendIndexes a c).change n f := by
  simp only [State.amendIndexes, State.amendSerial_eq, State.amendPlot_eq]
  rfl

theorem State.amendIndexes_records (s : State) (a : AmendArgs) (c : Record) : (s.amendIndexes a c).records = s.records := by
  rw [State.amendIndexes, State.amendSerial_eq, State.amendPlot_eq]

theorem State.amendIndexes_port (s : State) (a : AmendArgs) (c : Record) (p : Nat) : (s.amendIndexes a c).port p = s.port p := by
  rw [State.amendIndexes, State.amendSerial_eq, State.amendPlot_eq]
  rfl

theorem State.amendIndexes_same (s : State) (a : AmendArgs) (c : Record) :
    (s.amendIndexes a c).outline.standing = s.outline.standing ∧ (s.amendIndexes a c).outline.holder = s.outline.holder
      ∧ (s.amendIndexes a c).outline.phases = s.outline.phases ∧ (s.amendIndexes a c).outline.teq = s.outline.teq := by
  rw [State.amendIndexes, State.amendSerial_eq, State.amendPlot_eq]
  exact ⟨rfl, rfl, rfl, rfl⟩

theorem State.amendPlot_keyed {x : Option Serial} {y : Option Nat} (h : s.outline.Keyed a.plan.record.toNat x y)
    (hfree : selects a 4 = true → ∀ m, mapGet s.plotIndex a.plan.plot.toNat = some m → m = a.plan.record.toNat) :
    (s.amendPlot a y).outline.Keyed a.plan.record.toNat x (if selects a 4 then some a.plan.plot.toNat else y) := by
  unfold State.amendPlot
  split
  · next h4 =>
    rw [State.indexPlot_outline, State.unindexPlot_outline]
    exact h.unplot.indexPlot fun m hm => hfree h4 m (Outline.unplot_le hm)
  · exact h

theorem State.amendSerial_keyed {x : Option Serial} {y : Option Nat} (h : s.outline.Keyed a.plan.record.toNat x y)
    (hfree : selects a 5 = true → ∀ z, givenSerial a.plan = some z → ∀ m, mapGet s.serialIndex z.toNat = some m →
      m = a.plan.record.toNat) :
    (s.amendSerial a x).outline.Keyed a.plan.record.toNat (if selects a 5 then givenSerial a.plan else x) y := by
  unfold State.amendSerial
  split
  · next h5 =>
    split
    · next z hz =>
      rw [hz]
      have hkeyed := h.unserial.adopt fun m hm => hfree h5 z hz m (Outline.unserial_le hm)
      have houtline : (((s.unindexSerial x).indexSerial z a.plan.record.toNat).removeStranger z).outline =
          { (s.outline.unserial x).indexSerial z.toNat (some a.plan.record.toNat) with
            strangers := (s.outline.unserial x).strangers.filter (fun e => e.serial != z) } := by
        rw [← State.unindexSerial_outline, ← State.indexSerial_outline]
        rfl
      rw [houtline]
      exact hkeyed
    · next hz =>
      rw [hz, State.unindexSerial_outline]
      exact h.unserial
  · exact h

theorem State.amendIndexes_keyed (h : s.Sound) {c : Record} (hc : s.record a.plan.record.toNat = c)
    (hcheck : amendCheck a s c = none) :
    (s.amendIndexes a c).outline.Keyed a.plan.record.toNat (c.standing.amended a).serial (c.standing.amended a).plot := by
  subst hc
  obtain ⟨-, hplot, hserial⟩ := amendCheck_passed hcheck
  refine State.amendSerial_keyed (State.amendPlot_keyed (h.tied.keyed _) hplot) ?_
  rw [State.amendPlot_eq]
  exact hserial

/-- A record under activation or in service keeps its port and its serial through an AMEND. -/
theorem Outline.TiedAt.amended {o o' : Outline} {n : Nat} {c : Standing} (h : o.TiedAt n) (hn : n < 480) (hc : o.standing n = c)
    (hsame : o'.standing = o.standing ∧ o'.holder = o.holder ∧ o'.phases = o.phases ∧ o'.teq = o.teq)
    (hkeyed : o'.Keyed n (c.amended a).serial (c.amended a).plot) (hport : (c.amended a).port = c.port)
    (ht : (c.amended a).Tidy) : (o'.stand n (Standing.amended a)).Tied := by
  subst hc
  obtain ⟨hstanding, hholder, hphases, hteq⟩ := hsame
  have hself : (o'.stand n (Standing.amended a)).standing n = (o.standing n).amended a := by
    rw [o'.stand_self hn, hstanding]
  refine (hkeyed.but.stand _).tied ⟨hself ▸ ht, ⟨fun p d => ?_, fun k => ?_, fun k => ?_, ?_⟩, ⟨?_, ?_, ?_⟩⟩
  · rw [hself, hport]
    change o'.holder p d = some n ↔ _
    rw [hholder]
    exact h.referred.holder p d
  · rw [hself]
    exact hkeyed.serial k
  · rw [hself]
    exact hkeyed.plot k
  · rw [hself, hport]
    change ∀ g : Ranging, _ → g.roundTrip + g.eqd = o'.teq _ ∧ _
    rw [hteq]
    exact h.referred.ranging
  · rw [hself, hport]
    change ∀ p, p ≠ _ → o'.phases p n = []
    rw [hphases]
    exact h.entered.elsewhere
  · rw [hself, hport]
    change _ → o'.phases _ n = []
    rw [hphases]
    exact h.entered.idle
  · rw [hself, hport]
    change _ → ∃ ph, o'.phases _ n = [ph] ∧ _
    rw [hphases]
    exact h.entered.underWay

theorem State.Sound.amended (h : s.Sound) (hn : a.plan.record.toNat < 480) (ha : amendArgsOk a = true)
    (hcheck : amendCheck a s (s.record a.plan.record.toNat) = none) :
    ((s.amendIndexes a (s.record a.plan.record.toNat)).change a.plan.record.toNat (amendedContent a)).Sound := by
  have hqueues : (s.amendIndexes a (s.record a.plan.record.toNat)).queuesSound :=
    State.queuesSound_congr (s.amendIndexes_records a _) (fun p _ => by rw [s.amendIndexes_port]) h.queues
  refine ⟨hqueues.changed fun _ => ⟨rfl, rfl, rfl⟩, ?_⟩
  rw [State.change_outline _ (Standing.amended a) fun _ => rfl]
  obtain ⟨hv, hd, hst⟩ := amendStateOk_iff.mp (amendCheck_passed hcheck).1
  have hat := h.tied.at_ a.plan.record.toNat
  have hkeyed := State.amendIndexes_keyed h rfl hcheck
  have hsame := s.amendIndexes_same a (s.record a.plan.record.toNat)
  have hrest : (s.record a.plan.record.toNat).state = .expected ∨ (s.record a.plan.record.toNat).state = .barred →
      ((s.amendIndexes a (s.record a.plan.record.toNat)).outline.stand a.plan.record.toNat (Standing.amended a)).Tied := by
    intro hst
    have hact : (s.outline.standing a.plan.record.toNat).state.activating = false
        ∧ (s.outline.standing a.plan.record.toNat).state.ranged = false := by
      rcases hst with hc | hc <;> rw [show (s.outline.standing a.plan.record.toNat).state = _ from hc] <;> exact ⟨rfl, rfl⟩
    obtain ⟨hd0, hranging, hholder, hphases⟩ := hat.resting hact.1 hact.2
    obtain ⟨hstanding, hholder', hphases', -⟩ := hsame
    have htidy := Standing.amended_tidy hat.tidy ha hv hd fun hc => by simp [hact] at hc
    exact (Outline.Resting.mk hkeyed (hholder' ▸ hholder) (hphases' ▸ hphases)).tied hn (congrFun hstanding _) rfl rfl hd0 hranging
      htidy
  rcases hst with hst | hst | ⟨h5, h6⟩
  · exact hrest (.inl hst)
  · exact hrest (.inr hst)
  · have hserial : ((s.outline.standing a.plan.record.toNat).amended a).serial = (s.outline.standing a.plan.record.toNat).serial := by
      simp [Standing.amended, h5]
    have hport : ((s.outline.standing a.plan.record.toNat).amended a).port = (s.outline.standing a.plan.record.toNat).port := by
      simp [Standing.amended, h6]
    have htidy := Standing.amended_tidy hat.tidy ha hv hd fun hc => by rw [hserial]; exact hat.tidy.serial hc
    exact hat.amended hn rfl hsame hkeyed hport htidy

/-! ### AMEND as a whole -/

theorem State.resolveQuery_upholds {n : Nat} (hst : (s.record n).state = .query) : s.Upholds (s.resolveQuery n) := by
  have hranged : (s.record n).state.ranged = true := by rw [hst]; rfl
  simp only [State.resolveQuery]
  split
  · exact State.restateAndQueue_upholds (fun _ => rfl) hranged rfl _
  · exact State.restate_upholds hranged rfl _

theorem State.amendRecord_upholds (hn : a.plan.record.toNat < 480) (ha : amendArgsOk a = true)
    (hcheck : amendCheck a s (s.record a.plan.record.toNat) = none) : s.Upholds (s.amendRecord a) := by
  have hamended : s.Upholds
      ((s.amendIndexes a (s.record a.plan.record.toNat)).change a.plan.record.toNat (amendedContent a)) := by
    refine ⟨fun m hm => ?_, fun _ h => h.amended hn ha hcheck⟩
    rw [State.change_verifies, State.verifies, State.stored_congr (s.amendIndexes_records a _)]
    exact hm
  have hbase : ((s.change a.plan.record.toNat (amendedContent a)).amendPlot a (s.record a.plan.record.toNat).plot).amendSerial a
      (s.record a.plan.record.toNat).serial =
        (s.amendIndexes a (s.record a.plan.record.toNat)).change a.plan.record.toNat (amendedContent a) :=
    s.amendIndexes_change a _ _ _
  simp only [State.amendRecord]
  rw [hbase]
  split
  · next hq =>
    refine hamended.trans (State.resolveQuery_upholds ?_)
    rw [State.change_record_self _ hn]
    have hrecord : (s.amendIndexes a (s.record a.plan.record.toNat)).record a.plan.record.toNat = s.record a.plan.record.toNat := by
      rw [State.record, State.stored_congr (s.amendIndexes_records a _), State.record]
    rw [hrecord]
    exact hq.2.1
  · exact hamended

theorem doAmend_upholds (l : Link) (a : AmendArgs) : s.Upholds (doAmend l a s).1 :=
  recordCommand_upholds fun hn ha hc => State.amendRecord_upholds hn ha hc

end Sys2Proof.Machine
end

section
/-! What every step but an upset keeps, twentieth part: the port commands but PORT DISABLE (R43, R44, R46 to R52, R55, R71, R152, R153). -/

namespace Sys2Proof.Machine

variable {s : State}

theorem portCommand_upholds {l : Link} {p : Nat} {check : Port → Option Status} {apply : State → State}
    (h : p < 4 → s.Upholds (apply s)) : s.Upholds (portCommand l p check apply s).1 := by
  unfold portCommand
  split
  · exact .refl s
  · split
    · exact .refl s
    · next hp =>
      split
      · exact .refl s
      · exact h (Nat.lt_of_not_le hp)

theorem doPortEnable_upholds (l : Link) (p : Byte) : s.Upholds (doPortEnable l p s).1 :=
  portCommand_upholds fun _ => State.modPort_upholds ⟨rfl, rfl, rfl, rfl⟩

theorem doStart_upholds (l : Link) (p : Byte) : s.Upholds (doStart l p s).1 :=
  portCommand_upholds fun _ => State.modPort_upholds ⟨rfl, rfl, rfl, rfl⟩

theorem doCalibrate_upholds (l : Link) (p : Byte) : s.Upholds (doCalibrate l p s).1 :=
  portCommand_upholds fun _ => State.modPort_upholds ⟨rfl, rfl, rfl, rfl⟩

theorem doStop_upholds (l : Link) (p : Byte) : s.Upholds (doStop l p s).1 :=
  portCommand_upholds fun _ => (s.abandon_upholds _).trans (State.modPort_upholds ⟨rfl, rfl, rfl, rfl⟩)

theorem doSweep_upholds (l : Link) (p : Byte) : s.Upholds (doSweep l p s).1 := by
  dsimp only [doSweep]
  split
  · exact .refl s
  · split
    · exact .refl s
    · split
      · exact .refl s
      · dsimp only
        exact State.modPort_upholds ⟨rfl, rfl, rfl, rfl⟩

/-! ### PORT CONFIGURE (R49) -/

/-- A Teq that no round trip stands against may change. -/
theorem Outline.Tied.reTeq {o : Outline} (h : o.Tied) {teq : Nat → Nat}
    (ht : ∀ n g, (o.standing n).ranging = some g → teq (o.standing n).port = o.teq (o.standing n).port) :
    ({ o with teq := teq } : Outline).Tied where
  at_ n := by
    obtain ⟨htidy, ⟨hholder, hserial, hplot, hranging⟩, ⟨helse, hidle, hunder⟩⟩ := h.at_ n
    refine ⟨htidy, ⟨hholder, hserial, hplot, fun g hg => ?_⟩, ⟨helse, hidle, hunder⟩⟩
    have hg' := hranging g hg
    rw [← ht n g hg] at hg'
    exact hg'
  strangers := h.strangers

theorem State.Sound.configured (h : s.Sound) (a : ConfigArgs)
    (hc : (configApplied a (s.port a.port.toNat).config).teq = (s.port a.port.toNat).config.teq
      ∨ s.rangedPresent a.port.toNat = false) : (s.modPort a.port.toNat (Port.configured a)).Sound := by
  rcases hc with hteq | hnone
  · refine ⟨h.queues.portKept fun _ => rfl, ?_⟩
    rw [s.modPort_outline (f := Port.configured a) ⟨rfl, rfl, hteq⟩]
    exact h.tied
  · have hkept := s.modPort_each (p := a.port.toNat) (f := Port.configured a)
      (R := fun x y => y.dropMap = x.dropMap ∧ y.activation = x.activation) (fun _ => ⟨rfl, rfl⟩) ⟨rfl, rfl⟩
    have hmaps : (s.modPort a.port.toNat (Port.configured a)).outline =
        { s.outline with teq := fun q => ((s.modPort a.port.toNat (Port.configured a)).port q).config.teq } := by
      simp only [State.outline, (hkept _).1, (hkept _).2]
      rfl
    refine ⟨h.queues.portKept fun _ => rfl, hmaps ▸ h.tied.reTeq fun n g hg => ?_⟩
    have hg' : (s.record n).ranging = some g := hg
    have hn : n < 480 := s.lt_of_state fun hv => by
      have := (h.tied.at_ n).tidy.ranging.mp (by rw [hg]; rfl)
      rw [show (s.outline.standing n).state = _ from hv] at this
      rcases this with hc | hc <;> cases hc
    have hne : (s.record n).port ≠ a.port.toNat := fun hp => by
      have := s.rangedPresent_iff.mpr ⟨n, hn, hp, by rw [hg']; rfl⟩
      rw [hnone] at this
      cases this
    exact congrArg (fun q : Port => q.config.teq) (s.modPort_port_ne hne _)

theorem teq_of_changesReach_false {a : ConfigArgs} {q : Port} (h : changesReach a q = false) :
    (configApplied a q.config).teq = q.config.teq := by
  simp only [changesReach, Bool.or_eq_false_iff, bne_eq_false_iff_eq] at h
  exact h.1.1

theorem doPortConfigure_upholds (l : Link) (a : ConfigArgs) : s.Upholds (doPortConfigure l a s).1 := by
  dsimp only [doPortConfigure]
  split
  · exact .refl s
  · split
    · exact .refl s
    · split
      · exact .refl s
      · split
        · exact .refl s
        · split
          · exact .refl s
          · next hc =>
            have hc' : changesReach a (s.port a.port.toNat) = false ∨ s.rangedPresent a.port.toNat = false := by
              simpa only [Bool.and_eq_true, not_and_or, Bool.not_eq_true] using hc
            dsimp only
            exact ⟨fun _ => id, fun _ h => h.configured a (hc'.imp_left teq_of_changesReach_false)⟩

/-! ### CHANGEOVER (R153) -/

/-- Every record of `rs` has an entry on port `p`. -/
def State.Entered (s : State) (p : Nat) (rs : List Nat) : Prop := ∀ r ∈ rs, (s.phaseOf p r).isSome = true

theorem State.restart_entered {p r : Nat} {rs : List Nat} (h : s.Entered p rs) (heard : Option Bool) :
    (s.restart p r heard).Entered p rs := by
  intro m hm
  have hm' := h m hm
  rw [State.phaseOf_eq, List.isSome_head?] at hm' ⊢
  rw [s.restart_outline]
  change (if _ then List.map _ (s.outline.phases p m) else s.outline.phases p m) ≠ []
  split
  · simpa using hm'
  · exact hm'

theorem State.Sound.restartEach {p : Nat} {rs : List Nat} (h : s.Sound) (hrs : s.Entered p rs) :
    (eachNumber (fun t r => t.restart p r none) rs s).Sound := by
  refine (eachNumber_keeps (P := fun t => t.Sound ∧ t.Entered p rs) (fun t r hr ht => ?_) ⟨h, hrs⟩).1
  obtain ⟨hsound, hentered⟩ := ht
  obtain ⟨ph, hph⟩ := Option.isSome_iff_exists.mp (hentered r hr)
  exact ⟨(hsound.working_of_phaseOf hph).restart none, State.restart_entered hentered none⟩

theorem State.restartEntries_upholds (s : State) (p : Nat) : s.Upholds (s.restartEntries p) where
  verifies n hn := eachNumber_keeps (P := fun t => t.verifies n = true) (fun t r _ ht => by rwa [t.restarted_verifies]) hn
  sound _ h := by
    refine h.restartEach fun r hr => ?_
    obtain ⟨e, he, rfl⟩ := List.mem_map.mp hr
    rw [State.phaseOf_eq, List.isSome_head?]
    exact List.ne_nil_of_mem (mem_phasesIn.mpr he)

theorem State.startChangeover_upholds (s : State) (p r : Nat) : s.Upholds (s.startChangeover p r) :=
  ((s.abandon_upholds p).trans (State.restartEntries_upholds _ p)).trans (State.modPort_upholds ⟨rfl, rfl, rfl, rfl⟩)

theorem doChangeover_upholds (l : Link) (p : Byte) (ref : Half) : s.Upholds (doChangeover l p ref s).1 := by
  dsimp only [doChangeover]
  split
  · exact .refl s
  · split
    · exact .refl s
    · split
      · exact .refl s
      · split
        · exact .refl s
        · exact .refl s
        · exact .refl s
        · exact .refl s
        · split
          · next hv =>
            dsimp only
            exact State.damage_upholds (by simpa using hv)
          · split
            · exact .refl s
            · dsimp only
              exact s.startChangeover_upholds _ _

end Sys2Proof.Machine
end

section
/-! What every step but an upset keeps, twenty-first part: records that lose their drop ids all at once, and PORT DISABLE (R26, R45). -/

namespace Sys2Proof.Machine

/-! ### Drop ids, round trips and entries lost -/

/-- The records that `P` picks lose their drop ids, their round trips and their entries (R26, R45). -/
def Outline.forsake (o : Outline) (P : Nat → Bool) : Outline :=
  { o with
    standing := fun n => if P n then (o.standing n).lost else o.standing n
    holder := fun p d => (o.holder p d).filter (fun n => !P n)
    phases := fun p n => if P n then [] else o.phases p n }

theorem Standing.lost_tidy {c : Standing} (h : c.Tidy) (hst : c.state.activating = true ∨ c.state.ranged = true) : c.lost.Tidy := by
  obtain ⟨hvacant, hdamaged, hbarred⟩ := RecState.not_resting hst
  obtain ⟨hport, -, hpref, -, -, hplot, -, -, hfailures, hbarred'⟩ := h
  refine ⟨hport, Nat.zero_le _, hpref, ?_, ?_, iff_of_false (fun hc => (hplot.mp hc).elim hvacant hdamaged) ?_, ?_, ?_, hfailures,
    iff_of_false (fun hc => hbarred (hbarred'.mp hc)) nofun⟩
  · simp [Standing.lost, RecState.activating, RecState.ranged]
  · simp [Standing.lost, RecState.ranged]
  · simp [Standing.lost]
  · simp [Standing.lost]
  · simp [Standing.lost, RecState.activating, RecState.ranged]

theorem Outline.Tied.forsake {o : Outline} (h : o.Tied) {P : Nat → Bool}
    (hP : ∀ n, P n = true → (o.standing n).state.activating = true ∨ (o.standing n).state.ranged = true) : (o.forsake P).Tied where
  at_ n := by
    have hat := h.at_ n
    cases hn : P n with
    | false =>
      refine hat.congr (if_neg (by simp [hn])) (fun p d => ?_) (fun _ => Iff.rfl) (fun _ => Iff.rfl) (fun p => if_neg (by simp [hn]))
        rfl
      change (o.holder p d).filter _ = some n ↔ _
      simp [Option.filter_eq_some_iff, hn]
    | true =>
      have hself : (o.forsake P).standing n = (o.standing n).lost := if_pos hn
      refine Outline.tiedAt_resting (hself ▸ Standing.lost_tidy hat.tidy (hP n hn)) (by rw [hself]; rfl) (by rw [hself]; rfl)
        (fun p d hh => ?_) (fun p => if_pos hn) (fun k => hself ▸ hat.referred.serial k) (fun k => hself ▸ hat.referred.plot k)
      have hh' : (o.holder p d).filter (fun n => !P n) = some n := hh
      simp [Option.filter_eq_some_iff, hn] at hh'
  strangers := h.strangers

/-! ### The part before the records left WAITING are served (R45) -/

variable {s : State} {p : Nat}

theorem mapGet_isSome_of_mem {m : NumMap} {e : Nat × Nat} (h : e ∈ m) : (mapGet m e.1).isSome = true := by
  induction m with
  | nil => cases h
  | cons x m ih =>
    simp only [mapGet]
    split
    · rfl
    · next hne =>
      rcases List.mem_cons.mp h with rfl | hm
      · exact absurd rfl hne
      · exact ih hm

/-- A number above 479 reads as a vacant record. -/
theorem State.record_of_le {n : Nat} (h : 480 ≤ n) : s.record n = Record.vacant := by
  rw [State.record, s.stored_of_le h]
  rfl

/-- Record `n` holds a drop id on port `p`. -/
def State.drops (s : State) (p n : Nat) : Bool := decide (s.dropsOn p n)

theorem State.drops_iff {n : Nat} : s.drops p n = true ↔ s.dropsOn p n := decide_eq_true_iff

theorem State.Sound.dropsOn_of_holder (h : s.Sound) {d n : Nat} (hh : mapGet (s.port p).dropMap d = some n) :
    n < 480 ∧ s.dropsOn p n ∧ (s.record n).dropId = d := by
  obtain ⟨hport, hdrop, hd⟩ := ((h.tied.at_ n).referred.holder p d).mp hh
  have hdrop' : (s.record n).dropId = d := hdrop
  refine ⟨?_, ⟨hport, hdrop' ▸ hd⟩, hdrop⟩
  by_contra hn
  rw [State.record_of_le (Nat.le_of_not_lt hn)] at hdrop'
  exact hd hdrop'.symm

section
variable (hp : p < 4)
include hp

theorem State.Sound.portDisabled_port_self (h : s.Sound) :
    ((s.portDisabled p).port p).dropMap = [] ∧ ((s.portDisabled p).port p).activation = []
      ∧ ((s.portDisabled p).port p).outbound = [] ∧ ((s.portDisabled p).port p).config = (s.port p).config := by
  have hd := State.emptyOutbound_disabled (s := s) hp
  have hself := State.emptyOutbound_port_self (s := s) hp
  rw [State.portDisabled, State.modPort_port_self _ hp]
  refine ⟨?_, rfl, rfl, ?_⟩
  · change (State.port _ p).dropMap = []
    rw [List.eq_nil_iff_forall_not_mem]
    intro e he
    obtain ⟨hes, hne⟩ := hd.dropMap e he
    rw [hself] at hes
    obtain ⟨n, hn⟩ := Option.isSome_iff_exists.mp (mapGet_isSome_of_mem hes)
    obtain ⟨hlt, hdrops, hdrop⟩ := h.dropsOn_of_holder hn
    refine hne n (State.mem_disableSet.mpr ⟨hlt, .inr (.inl hdrops)⟩) ((State.emptyOutbound_dropsOn hlt).mpr hdrops) ?_
    rw [State.emptyOutbound_record_eq hlt]
    exact hdrop.symm
  · change (State.port _ p).config = _
    rw [hd.port_self, hself]

theorem State.portDisabled_standing (n : Nat) :
    ((s.portDisabled p).record n).standing = if s.drops p n then (s.record n).standing.lost else (s.record n).standing := by
  by_cases hn : n < 480
  · rw [State.portDisabled_record hp hn, if_congr State.drops_iff rfl rfl]
    split <;> rfl
  · rw [State.record_of_le (Nat.le_of_not_lt hn), State.record_of_le (Nat.le_of_not_lt hn), if_neg]
    rw [State.drops_iff, State.dropsOn, State.record_of_le (Nat.le_of_not_lt hn)]
    exact fun hc => hc.2 rfl

theorem State.Sound.portDisabled_outline (h : s.Sound) : (s.portDisabled p).outline = s.outline.forsake (s.drops p) := by
  obtain ⟨hmap, hact, -, hconfig⟩ := h.portDisabled_port_self hp
  have hne : ∀ q, q ≠ p → (s.portDisabled p).port q = s.port q := fun q hq => State.portDisabled_port_ne hp hq
  have hholder : ∀ q d, mapGet ((s.portDisabled p).port q).dropMap d = (mapGet (s.port q).dropMap d).filter (fun n => !s.drops p n) := by
    intro q d
    by_cases hq : q = p
    · subst hq
      rw [hmap]
      refine (Option.filter_eq_none_iff.mpr fun n hn => ?_).symm
      simpa using State.drops_iff.mpr (h.dropsOn_of_holder hn).2.1
    · rw [hne q hq]
      cases hm : mapGet (s.port q).dropMap d with
      | none => rfl
      | some n =>
        obtain ⟨-, ⟨hport, -⟩, -⟩ := h.dropsOn_of_holder hm
        have hn : s.drops p n = false := by
          rw [← Bool.not_eq_true, State.drops_iff]
          exact fun hc => hq (hport.symm.trans hc.1)
        simp [Option.filter, hn]
  have hphases : ∀ q n, phasesIn ((s.portDisabled p).port q).activation n =
      if s.drops p n then [] else phasesIn (s.port q).activation n := by
    intro q n
    have hent := (h.tied.at_ n).entered
    have htidy := (h.tied.at_ n).tidy
    by_cases hq : q = p
    · subst hq
      rw [hact]
      split
      · rfl
      · next hn =>
        rw [State.drops_iff] at hn
        by_cases hpn : (s.record n).port = q
        · have hidle : (s.outline.standing n).state.activating = false :=
            Bool.eq_false_iff.mpr fun ha => hn ⟨hpn, htidy.held.mpr (.inl ha)⟩
          have := hent.idle hidle
          rw [show (s.outline.standing n).port = q from hpn] at this
          exact this.symm
        · exact (hent.elsewhere q (Ne.symm hpn)).symm
    · rw [hne q hq]
      split
      · next hn => exact hent.elsewhere q (fun hc => hq (hc.trans (State.drops_iff.mp hn).1))
      · rfl
  have hteq : ∀ q, ((s.portDisabled p).port q).config = (s.port q).config := by
    intro q
    by_cases hq : q = p
    · rw [hq, hconfig]
    · rw [hne q hq]
  have hsame := State.portDisabled_sameOutside (s := s) hp
  have hserial : (s.portDisabled p).serialIndex = s.serialIndex := by rw [hsame]
  have hplot : (s.portDisabled p).plotIndex = s.plotIndex := by rw [hsame]
  have hstrangers : (s.portDisabled p).strangers = s.strangers := by rw [hsame]
  simp only [State.outline, Outline.forsake, State.portDisabled_standing hp, hserial, hplot, hstrangers, hteq, ← hholder, ← hphases]

/-- A port whose queue is empty adds nothing to what is queued on the others. -/
theorem State.queues_of_empty {t : State} (ho : (t.port p).outbound = []) (n : Nat) :
    t.queuedNaming allPorts n = t.queuedNaming (otherPorts p) n
      ∧ t.setDelayQueued allPorts n = t.setDelayQueued (otherPorts p) n := by
  interval_cases p <;> simp [State.queuedNaming, State.setDelayQueued, otherPorts, allPorts, countNaming, ho]

theorem State.Sound.portDisabled_queues (h : s.Sound) : (s.portDisabled p).queuesSound := by
  have hempty := State.emptyOutbound_queues s hp h.queues
  have hself := State.emptyOutbound_port_self (s := s) hp
  refine State.queuesSound_of_owesAs (s := s.emptyOutbound p) (fun n hn => ?_) (fun q _ => ?_) hempty
  · rw [State.portDisabled_record hp hn]
    split
    · obtain ⟨⟨hcount, -⟩, -⟩ := hempty
      obtain ⟨ho, hq⟩ := hcount n hn
      have hothers : ∀ q ∈ otherPorts p, ((s.emptyOutbound p).port q).outbound = (s.port q).outbound :=
        fun q hq => by rw [s.emptyOutbound_port_ne (ne_of_mem_otherPorts hq)]
      obtain ⟨hnaming, hdelays⟩ := State.queues_of_empty hp (t := s.emptyOutbound p) (by rw [hself]) n
      rw [hnaming, State.queuedNaming_congr hothers] at ho
      rw [hdelays, State.setDelayQueued_congr_on hothers] at hq
      exact Record.owesAs_of_idle ho.symm rfl hq
    · rw [State.emptyOutbound_record_eq hn]
      exact ⟨rfl, Iff.rfl, id⟩
  · by_cases hq : q = p
    · obtain ⟨-, -, hout, -⟩ := h.portDisabled_port_self hp
      rw [hq, hout, hself]
    · rw [State.portDisabled_port_ne hp hq, s.emptyOutbound_port_ne hq]

end

/-! ### PORT DISABLE as a whole (R45, R79) -/

theorem State.serveWaiting_upholds (s : State) (r : Nat) : s.Upholds (s.serveWaiting r) := by
  unfold State.serveWaiting
  split
  · refine ⟨fun n hn => by rwa [State.queueSetDelay_verifies], fun _ h => ⟨?_, ?_⟩⟩
    · exact s.queueSetDelay_queues (Nat.lt_succ_of_le (h.tied.at_ r).tidy.port) h.queues
    · rw [State.queueSetDelay_outline]
      exact h.tied
  · exact .refl s

theorem State.disableRecord_verifies (s : State) (p r n : Nat) : (s.disableRecord p r).verifies n = s.verifies n := by
  dsimp only [State.disableRecord]
  split <;> simp

theorem State.disablePort_verifies_kept {n : Nat} (h : s.verifies n = true) : (s.disablePort p).verifies n = true := by
  have hscan := (s.scan_upholds (s.disableSet p)).verifies n h
  rw [State.disablePort]
  refine (eachNumber_upholds (fun t r _ => t.serveWaiting_upholds r) _).verifies n ?_
  rw [State.modPort_verifies, eachNumber_field (fun t => t.verifies n) (fun t r _ => t.disableRecord_verifies p r n),
    State.emptyOutbound_verifies]
  exact hscan

theorem State.disablePort_upholds (hp : p < 4) : s.Upholds (s.disablePort p) where
  verifies _ := State.disablePort_verifies_kept
  sound hv h := by
    have hdisabled : (s.portDisabled p).Sound := by
      refine ⟨h.portDisabled_queues hp, ?_⟩
      rw [h.portDisabled_outline hp]
      exact h.tied.forsake fun n hn => (h.tied.at_ n).tidy.held.mp (State.drops_iff.mp hn).2
    rw [State.disablePort_eq hv]
    refine (eachNumber_upholds (fun t r _ => t.serveWaiting_upholds r) _).sound (fun n hn => ?_) hdisabled
    rw [State.portDisabled_verifies hp]
    exact hv n hn

theorem doPortDisable_upholds (l : Link) (p : Byte) : s.Upholds (doPortDisable l p s).1 :=
  portCommand_upholds fun hp => State.disablePort_upholds hp

end Sys2Proof.Machine
end

section
/-! What every step but an upset keeps, twenty-second part: the reads and the device commands but SOFT RESET (chapters 1, 2, 3, 7, 10, 11). -/

namespace Sys2Proof.Machine

variable {s : State}

/-! ### The reads (R21 to R24, R40, R58, R135, R180) -/

theorem doReadRecord_upholds (r : Half) : s.Upholds (doReadRecord r s).1 := by
  simp only [doReadRecord]
  split
  · exact .refl s
  · split
    · exact .refl s
    · next hv =>
      dsimp only
      exact State.damage_upholds (by simpa using hv)

theorem State.lookedUp_upholds (n : Nat) (items : State → List Byte) : s.Upholds (s.lookedUp n items).1 := by
  unfold State.lookedUp
  split
  · exact .refl s
  · next hv =>
    dsimp only
    exact State.damage_upholds (by simpa using hv)

theorem doFindSerial_upholds (x : Serial) : s.Upholds (doFindSerial x s).1 := by
  unfold doFindSerial
  split
  · exact State.lookedUp_upholds _ _
  · exact .refl s

theorem doFindPlot_upholds (plot : Half) : s.Upholds (doFindPlot plot s).1 := by
  unfold doFindPlot
  split
  · exact .refl s
  · split
    · exact State.lookedUp_upholds _ _
    · exact .refl s

theorem doSilenceMap_upholds (b : Byte) (start : Half) : s.Upholds (doSilenceMap b start s).1 := by
  dsimp only [doSilenceMap]
  split
  · exact .refl s
  · split
    · exact .refl s
    · exact s.scan_upholds _

theorem doDropMap_upholds (b : Byte) : s.Upholds (doDropMap b s).1 := by
  dsimp only [doDropMap]
  split
  · exact .refl s
  · exact s.scan_upholds _

theorem doActivationQueue_upholds (b : Byte) : s.Upholds (doActivationQueue b s).1 := by
  dsimp only [doActivationQueue]
  split
  · exact .refl s
  · exact s.scan_upholds _

theorem doPortStatus_upholds (l : Link) (b : Byte) : s.Upholds (doPortStatus l b s).1 := by
  dsimp only [doPortStatus]
  split
  · exact .refl s
  · dsimp only
    split
    · exact State.flag_upholds _ _
    · exact .refl s

/-! ### The device commands (R164, R170, R171, R179) -/

theorem State.clearFlags_upholds (s : State) : s.Upholds s.clearFlags :=
  State.Upholds.trans (t := { s with newStranger := false }) (State.upholds_of_same rfl rfl rfl rfl rfl)
    (eachNumber_upholds (fun _ p _ => State.flag_upholds p _) _)

theorem State.withoutChanged_upholds (s : State) (ns : List Nat) : s.Upholds (s.withoutChanged ns) :=
  State.upholds_of_same rfl rfl rfl rfl rfl

theorem doChanges_upholds (l : Link) : s.Upholds (doChanges l s).1 := by
  dsimp only [doChanges]
  split
  · exact .refl s
  · dsimp only
    exact ((s.scan_upholds s.chosenChanges).trans (State.withoutChanged_upholds _ _)).trans (State.clearFlags_upholds _)

theorem doScrubConfigure_upholds (l : Link) (i : Byte) : s.Upholds (doScrubConfigure l i s).1 := by
  unfold doScrubConfigure
  split
  · exact .refl s
  · split
    · exact .refl s
    · exact State.upholds_of_same rfl rfl rfl rfl rfl

theorem doIntegrity_upholds (l : Link) : s.Upholds (doIntegrity l s).1 := by
  unfold doIntegrity
  split
  · exact .refl s
  · exact State.upholds_of_same rfl rfl rfl rfl rfl

theorem doPhaseService_upholds (l : Link) : s.Upholds (doPhaseService l s).1 := by
  unfold doPhaseService
  split
  · exact .refl s
  · exact State.upholds_of_same rfl rfl rfl rfl rfl

end Sys2Proof.Machine
end

section
/-! What every step but an upset keeps, twenty-third part: SOFT RESET (R26, R82, R181). -/

namespace Sys2Proof.Machine

variable {s : State}

/-! ### What is quiet when the registry is reset -/

theorem State.Sound.echoesRange (h : s.Sound) : s.echoesRange := by
  intro p w r _ _ _ _ hph
  obtain ⟨-, -, -, -, -, hst⟩ := h.of_phaseOf hph
  exact hst

/-- Queues in which no descriptor names a record agree with records that count none (R4, R76). -/
theorem State.queuesSound_of_unnamed (hd : ∀ p < 4, ∀ d ∈ (s.port p).outbound, ∀ n, d.names ≠ some n)
    (hrec : ∀ n, n < 480 → (s.record n).outstanding = 0 ∧ (s.record n).delaySync ≠ .queued
      ∧ ((s.record n).delaySync = .waiting → (s.record n).ranging.isSome = true)) : s.queuesSound := by
  have hnaming : ∀ p < 4, ∀ n, countNaming (s.port p).outbound n = 0 := fun p hp n =>
    List.countP_eq_zero.mpr fun d hm => by simpa using hd p hp d hm n
  have hdelays : ∀ p < 4, ∀ n, setDelays (s.port p).outbound n = 0 := fun p hp n =>
    List.countP_eq_zero.mpr fun d hm hs => hd p hp d hm n (by rw [beq_iff_eq.mp hs]; rfl)
  refine ⟨⟨fun n hn => ?_, fun n => ?_⟩, fun n hn => (hrec n hn).2.2⟩
  · obtain ⟨ho, hq, -⟩ := hrec n hn
    refine ⟨?_, iff_of_false hq ?_⟩
    · rw [ho]
      simp [State.queuedNaming, allPorts, hnaming]
    · rw [Bool.not_eq_true, State.setDelayQueued_false_iff]
      exact fun p hp hm => hd p hp _ hm n rfl
  · simp only [setDelays] at hdelays
    simp [allPorts, hdelays]

theorem Port.givingUp_dropMap (q : Port) (p : Nat) (ds : List Nat) : (q.givingUp p ds).dropMap = ds.foldl mapErase q.dropMap := rfl

theorem Record.restarted_standing (c : Record) : c.restarted.standing = c.standing.lost := rfl

section
variable (h : s.Sound) (hv : s.allVerify)
include h hv

theorem State.Sound.registryReset_standing (n : Nat) :
    (s.registryReset.record n).standing =
      if (s.record n).state.activating then (s.record n).standing.lost else (s.record n).standing := by
  by_cases hn : n < 480
  · cases ha : (s.record n).state.activating with
    | true => rw [State.registryReset_activating h.echoesRange hv hn ha, if_pos rfl, Record.restarted_standing]
    | false =>
      cases hr : (s.record n).state.ranged with
      | true =>
        rw [State.registryReset_ranged h.echoesRange hv hn hr]
        rfl
      | false =>
        rw [State.registryReset_other h.echoesRange hv hn ha hr]
        rfl
  · rw [State.record_of_le (Nat.le_of_not_lt hn), State.record_of_le (Nat.le_of_not_lt hn)]
    rfl

theorem State.Sound.registryReset_holder (p d : Nat) :
    mapGet (s.registryReset.port p).dropMap d =
      (mapGet (s.port p).dropMap d).filter (fun n => !(s.record n).state.activating) := by
  by_cases hp : p < 4
  · have hmap : (s.registryReset.port p).dropMap = (s.quieted.idsHeld p s.softResetSet).foldl mapErase (s.port p).dropMap := by
      rw [State.registryReset_port h.echoesRange hv hp, Port.givingUp_dropMap]
      rfl
    rw [hmap, mapGet_erased]
    by_cases hd : d ∈ s.quieted.idsHeld p s.softResetSet
    · obtain ⟨n, -, ha, hport, hdrop, hd0⟩ := (State.mem_idsHeld h.echoesRange).mp hd
      have hholder : mapGet (s.port p).dropMap d = some n := ((h.tied.at_ n).referred.holder p d).mpr ⟨hport, hdrop, hd0⟩
      rw [if_pos hd, hholder]
      simp [Option.filter, ha]
    · rw [if_neg hd]
      cases hm : mapGet (s.port p).dropMap d with
      | none => rfl
      | some n =>
        obtain ⟨hport, hdrop, hd0⟩ := ((h.tied.at_ n).referred.holder p d).mp hm
        have ha : (s.record n).state.activating = false := by
          rw [← Bool.not_eq_true]
          intro ha
          have hlt : n < 480 := (h.dropsOn_of_holder hm).1
          exact hd ((State.mem_idsHeld h.echoesRange).mpr ⟨n, hlt, ha, hport, hdrop, hd0⟩)
        simp [Option.filter, ha]
  · rw [State.port_of_le (Nat.le_of_not_lt hp), State.port_of_le (Nat.le_of_not_lt hp)]
    rfl

theorem State.Sound.registryReset_phases (p n : Nat) :
    phasesIn (s.registryReset.port p).activation n =
      if (s.record n).state.activating then [] else phasesIn (s.port p).activation n := by
  have hempty : (s.registryReset.port p).activation = [] := by
    by_cases hp : p < 4
    · rw [State.registryReset_port h.echoesRange hv hp]
      rfl
    · rw [State.port_of_le (Nat.le_of_not_lt hp)]
      rfl
  rw [hempty]
  cases ha : (s.record n).state.activating with
  | true => rfl
  | false =>
    have hent := (h.tied.at_ n).entered
    by_cases hp : p = (s.record n).port
    · rw [hp]
      exact (hent.idle ha).symm
    · exact (hent.elsewhere p hp).symm

theorem State.Sound.registryReset_outline :
    s.registryReset.outline = s.outline.forsake (fun n => (s.record n).state.activating) := by
  have hteq : ∀ p, (s.registryReset.port p).config = (s.port p).config := by
    intro p
    by_cases hp : p < 4
    · rw [State.registryReset_port h.echoesRange hv hp]
      rfl
    · rw [State.port_of_le (Nat.le_of_not_lt hp), State.port_of_le (Nat.le_of_not_lt hp)]
  have hsame := (State.quieted_sameOutside h.echoesRange).trans (State.registryReset_spec h.echoesRange hv).same
  have hserial : s.registryReset.serialIndex = s.serialIndex := by rw [hsame]
  have hplot : s.registryReset.plotIndex = s.plotIndex := by rw [hsame]
  have hstrangers : s.registryReset.strangers = s.strangers := by rw [hsame]
  simp only [State.outline, Outline.forsake, h.registryReset_standing hv, hserial, hplot, hstrangers, hteq,
    ← h.registryReset_holder hv, ← h.registryReset_phases hv]

theorem State.Sound.registryReset_owes {n : Nat} (hn : n < 480) :
    (s.registryReset.record n).outstanding = 0 ∧ (s.registryReset.record n).delaySync ≠ .queued
      ∧ ((s.registryReset.record n).delaySync = .waiting → (s.registryReset.record n).ranging.isSome = true) := by
  have htidy := (h.tied.at_ n).tidy
  cases ha : (s.record n).state.activating with
  | true =>
    rw [State.registryReset_activating h.echoesRange hv hn ha]
    exact ⟨rfl, nofun, nofun⟩
  | false =>
    cases hr : (s.record n).state.ranged with
    | true =>
      rw [State.registryReset_ranged h.echoesRange hv hn hr]
      refine ⟨rfl, ?_, fun _ => htidy.ranging.mpr (.inr hr)⟩
      simp only [State.rangedSync]
      generalize (if s.setDelayQueued allPorts n then (s.record n).queueEmptied else (s.record n).delaySync) = d
      cases d <;> simp
    | false =>
      obtain ⟨-, hnone, -⟩ := (h.tied.at_ n).resting ha hr
      have hnone' : (s.record n).ranging = none := hnone
      have hwait : (s.record n).delaySync ≠ .waiting := fun hw => by
        have := h.queues.2 n hn hw
        rw [hnone'] at this
        cases this
      rw [State.registryReset_other h.echoesRange hv hn ha hr, State.idleResetSync_eq hnone']
      by_cases hd : s.setDelayQueued allPorts n = true ∨ (s.record n).delaySync = .queued
      · rw [if_pos hd]
        exact ⟨rfl, nofun, nofun⟩
      · rw [if_neg hd]
        exact ⟨rfl, fun hq => hd (.inr hq), fun hw => absurd hw hwait⟩

theorem State.Sound.registryReset_queues : s.registryReset.queuesSound := by
  refine State.queuesSound_of_unnamed (fun p hp d hd n => ?_) fun n hn => h.registryReset_owes hv hn
  rw [State.registryReset_outbound h.echoesRange hv hp] at hd
  obtain ⟨e, -, rfl⟩ := List.mem_map.mp (List.mem_of_mem_take hd)
  exact nofun

theorem State.Sound.registryReset : s.registryReset.Sound where
  queues := h.registryReset_queues hv
  tied := by
    rw [h.registryReset_outline hv]
    exact h.tied.forsake fun _ ha => .inl ha

end

/-! ### SOFT RESET as a whole -/

theorem State.softResetRecord_verifies {r n : Nat} (hn : s.verifies n = true) : (s.softResetRecord r).verifies n = true := by
  unfold State.softResetRecord
  split
  · next hv => exact (State.damage_upholds (by simpa using hv)).verifies n hn
  · split <;> simpa using hn

theorem State.registryReset_verifies {n : Nat} (hn : s.verifies n = true) : s.registryReset.verifies n = true := by
  refine eachNumber_keeps (P := fun t => t.verifies n = true) (fun t r _ ht => State.softResetRecord_verifies ht) ?_
  rw [State.quieted, eachNumber_field (fun t => t.verifies n) (f := fun t p => t.modPort p Port.softReset) (fun _ _ _ => rfl),
    eachNumber_field (fun t => t.verifies n) (fun t p _ => t.emptyOutbound_verifies p n)]
  exact (eachNumber_upholds (fun t p _ => t.abandon_upholds p) s).verifies n hn

theorem State.registryReset_upholds (s : State) : s.Upholds s.registryReset :=
  ⟨fun _ => State.registryReset_verifies, fun hv h => h.registryReset hv⟩

theorem State.listsCleared_upholds (s : State) : s.Upholds s.listsCleared := by
  refine s.clearFlags_upholds.trans ⟨fun _ => id, fun _ h => ⟨h.queues, ?_⟩⟩
  exact h.tied.withStrangers (es := []) nofun

theorem State.softReset_upholds (s : State) : s.Upholds s.softReset := by
  rw [State.softReset_eq]
  refine (s.registryReset_upholds.trans ?_).trans (State.listsCleared_upholds _)
  exact eachNumber_upholds (fun t p hp => State.fillSetDelay_upholds (mem_allPorts.mp hp)) _

theorem doSoftReset_upholds (l : Link) : s.Upholds (doSoftReset l s).1 := by
  unfold doSoftReset
  split
  · exact .refl s
  · exact s.softReset_upholds

end Sys2Proof.Machine
end

section
/-! What every step but an upset keeps, last part: the links, the rows of the table, and the step (R173 to R177; log entry 1). -/

namespace Sys2Proof.Machine

variable {s : State}

/-! ### The links (R173 to R177) -/

theorem State.modLink_upholds (s : State) (l : Link) (f : LinkState → LinkState) : s.Upholds (s.modLink l f) := by
  cases l with
  | host => exact State.upholds_of_same rfl rfl rfl rfl rfl
  | craft => exact State.upholds_of_same rfl rfl rfl rfl rfl

theorem State.appendReply_upholds (s : State) (l : Link) (f : ReplyFrame) : s.Upholds (s.appendReply l f) := s.modLink_upholds l _

theorem State.immediate_upholds (s : State) (l : Link) (tag : Byte) (st : Status) : s.Upholds (s.immediate l tag st) := by
  unfold State.immediate
  split
  · exact s.appendReply_upholds l _
  · exact .refl s

theorem State.queueCommand_upholds (s : State) (l : Link) (tag : Byte) (c : Command) : s.Upholds (s.queueCommand l tag c) := by
  unfold State.queueCommand
  split
  · exact s.modLink_upholds l _
  · exact s.immediate_upholds l tag _

theorem State.checkFrame_upholds (s : State) (l : Link) (bs : List Byte) : s.Upholds (s.checkFrame l bs) := by
  unfold State.checkFrame
  split
  · exact s.immediate_upholds l _ _
  · unfold State.checkCommand
    split
    · split
      · exact s.queueCommand_upholds l _ _
      · exact s.immediate_upholds l _ _
    · exact s.immediate_upholds l _ _

theorem State.hostPeriod_upholds (s : State) (bs : List Byte) : s.Upholds (s.hostPeriod bs).endPeriod := by
  have hend : ∀ t : State, t.Upholds t.endPeriod := fun _ => State.upholds_of_same rfl rfl rfl rfl rfl
  unfold State.hostPeriod
  split
  · exact (s.checkFrame_upholds _ _).trans (hend _)
  · exact hend s

theorem State.shiftReplyOut_upholds (s : State) : s.Upholds s.shiftReplyOut := by
  unfold State.shiftReplyOut
  split
  · exact .refl s
  · have hread : ∀ t : State, t.Upholds { t with hostRead := true } := fun _ => State.upholds_of_same rfl rfl rfl rfl rfl
    exact (s.modLink_upholds .host _).trans (hread _)

theorem State.endAssembly_upholds (s : State) : s.Upholds s.endAssembly := State.upholds_of_same rfl rfl rfl rfl rfl

theorem State.incomplete_upholds (s : State) (bs : List Byte) : s.Upholds (s.incomplete bs) := by
  unfold State.incomplete
  split
  · exact s.endAssembly_upholds.trans (State.immediate_upholds _ _ _ _)
  · exact s.endAssembly_upholds

theorem State.assemble_upholds (s : State) (bs : List Byte) : s.Upholds (s.assemble bs) := by
  unfold State.assemble
  split
  · exact s.endAssembly_upholds.trans (State.checkFrame_upholds _ _ _)
  · exact State.upholds_of_same rfl rfl rfl rfl rfl

theorem State.craftByte_upholds (s : State) (b : Byte) (stopError : Bool) : s.Upholds (s.craftByte b stopError) := by
  unfold State.craftByte
  split
  · split
    · exact s.assemble_upholds _
    · exact .refl s
  · split
    · exact s.incomplete_upholds _
    · exact s.assemble_upholds _

theorem State.craftTimeout_upholds (s : State) : s.Upholds s.craftTimeout := by
  unfold State.craftTimeout
  split
  · exact .refl s
  · exact s.incomplete_upholds _

theorem State.craftIdleCount_upholds (s : State) : s.Upholds s.craftIdleCount := by
  unfold State.craftIdleCount
  split
  · exact .refl s
  · split
    · exact s.incomplete_upholds _
    · exact State.upholds_of_same rfl rfl rfl rfl rfl

theorem State.frameStart_upholds {p : Nat} (hp : p < 4) (s : State) (n : Nat) : s.Upholds (s.frameStart p n) := by
  have harbiter := State.arbiterFrame_upholds hp s n
  unfold State.frameStart
  split
  · exact (harbiter.trans (State.scrubCount_upholds _)).trans (State.craftIdleCount_upholds _)
  · exact harbiter

/-! ### Link commands (R177) -/

theorem runCommand_upholds (l : Link) (c : Command) : s.Upholds (runCommand l c s).1 := by
  cases c with
  | plan a => exact doPlan_upholds l a
  | amend a => exact doAmend_upholds l a
  | retire r => exact doRetire_upholds l r
  | adopt r x => exact doAdopt_upholds l r x
  | retry r => exact doRetry_upholds l r
  | restore a => exact doRestore_upholds l a
  | pin r => exact doPin_upholds l r
  | unpin r => exact doUnpin_upholds l r
  | confirm r => exact doConfirm_upholds l r
  | reject r => exact doReject_upholds l r
  | admitDrop r => exact doAdmit_upholds l r
  | suspend r => exact doSuspend_upholds l r
  | rediscover r => exact doRediscover_upholds l r
  | portEnable p => exact doPortEnable_upholds l p
  | portDisable p => exact doPortDisable_upholds l p
  | calibrate p => exact doCalibrate_upholds l p
  | start p => exact doStart_upholds l p
  | stop p => exact doStop_upholds l p
  | portConfigure a => exact doPortConfigure_upholds l a
  | sweep p => exact doSweep_upholds l p
  | changeover p r => exact doChangeover_upholds l p r
  | readRecord r => exact doReadRecord_upholds r
  | findSerial x => exact doFindSerial_upholds x
  | findPlot plot => exact doFindPlot_upholds plot
  | strangers | deviceStatus => exact .refl s
  | silenceMap p r => exact doSilenceMap_upholds p r
  | dropMap p => exact doDropMap_upholds p
  | activationQueue p => exact doActivationQueue_upholds p
  | portStatus p => exact doPortStatus_upholds l p
  | changes => exact doChanges_upholds l
  | scrubConfigure i => exact doScrubConfigure_upholds l i
  | integrity => exact doIntegrity_upholds l
  | phaseService => exact doPhaseService_upholds l
  | softReset => exact doSoftReset_upholds l

theorem State.answer_upholds (s : State) (l : Link) (tag : Byte) (c : Command) : s.Upholds (s.answer l tag (runCommand l c)) := by
  have hserved : ∀ t : State, t.Upholds { t with lastServed := l } := fun _ => State.upholds_of_same rfl rfl rfl rfl rfl
  exact ((runCommand_upholds l c).trans (hserved _)).trans (State.appendReply_upholds _ l _)

theorem State.arbitrate_upholds (s : State) : s.Upholds s.arbitrate := by
  unfold State.arbitrate
  split
  · exact .refl s
  · unfold State.takeCommand
    split
    · exact .refl s
    · exact (s.modLink_upholds _ _).trans (State.answer_upholds _ _ _ _)

/-! ### The rows of the table -/

/-- The asserted pin puts a reset part in place, in which everything verifies and agrees (R162, R182). -/
theorem State.hardReset_upholds (s : State) : s.Upholds s.hardReset := by
  have hreset := State.reset.upholds_of_same (t := s.hardReset) rfl rfl rfl rfl rfl
  refine ⟨fun n _ => hreset.verifies n (State.reset_verifies n), fun _ _ => ?_⟩
  obtain ⟨hqueues, htied⟩ := State.tied_iff.mp State.reset_tied
  exact hreset.sound (fun n _ => State.reset_verifies n) ⟨hqueues, htied⟩

section
variable {t u : State}

/-- What a row that has its effect upholds once the attention output has followed. -/
theorem State.Upholds.row (h : s.Upholds u) (ht : (.next u.settle : Result) = .next t) : s.Upholds t := by
  cases ht
  exact h.trans u.settle_upholds

/-- A row that has its effect where no condition rules it out. -/
theorem State.Upholds.unless (h : s.Upholds u) {c : Prop} [Decidable c] (ht : (.next (if c then s else u).settle : Result) = .next t) :
    s.Upholds t := by
  refine State.Upholds.row ?_ ht
  split
  · exact .refl s
  · exact h

theorem linkCommand_upholds {l : Link} {tag : Byte} {c : Command} (ht : linkCommand l tag c (runCommand l c) s = .next t) :
    s.Upholds t := by
  refine State.Upholds.unless ?_ ht
  split
  · exact s.answer_upholds l tag c
  · exact s.queueCommand_upholds l tag c

/-- A row that closes a window of one kind. -/
theorem closeRow_upholds {p : Lane} {k : WindowKind}
    (ht : (.next (if s.resetHeld then s else s.closeOf p.val k (State.closedBy p.val)).settle : Result) = .next t) : s.Upholds t :=
  (State.closeOf_upholds p.isLt s k).unless ht

/-- Every row of the table but the storage upset upholds what R162 and R163 ask for. -/
theorem exec_upholds {i : Instr} (hi : ∀ r image check, i ≠ .storageUpset r image check) (ht : exec i s = .next t) : s.Upholds t := by
  cases i with
  | plan | amend | retire | adopt | retry | restore | pin | unpin | confirm | reject | admitDrop | suspend | rediscover
  | portEnable | portDisable | calibrate | start | stop | portConfigure | sweep | changeover | readRecord | findSerial
  | findPlot | strangers | silenceMap | dropMap | activationQueue | portStatus | deviceStatus | changes | scrubConfigure
  | integrity | phaseService | softReset => exact linkCommand_upholds ht
  | hardResetAssert => exact s.hardReset_upholds.row ht
  | hardResetRelease =>
    have hreleased : s.Upholds { s with resetHeld := false } := State.upholds_of_same rfl rfl rfl rfl rfl
    exact hreleased.row ht
  | storageUpset r image check => exact absurd rfl (hi r image check)
  | frameStart p n => exact (State.frameStart_upholds p.isLt s n.toNat).unless ht
  | windowGrant p => exact (s.grantStep_upholds p.val).unless ht
  | inviteClose p => exact closeRow_upholds ((exec_closeRow s p .invite).symm.trans ht)
  | echoClose p => exact closeRow_upholds ((exec_closeRow s p .echo).symm.trans ht)
  | verifyClose p => exact closeRow_upholds ((exec_closeRow s p .verify).symm.trans ht)
  | upkeepClose p => exact closeRow_upholds ((exec_closeRow s p .upkeep).symm.trans ht)
  | referenceClose p => exact closeRow_upholds ((exec_closeRow s p .reference).symm.trans ht)
  | loopClose p => exact closeRow_upholds ((exec_closeRow s p .loop).symm.trans ht)
  | upkeepPeriodEnd p => exact (s.periodEnd_upholds p.val).unless ht
  | discoveryDue p => exact (s.makeDue_upholds p.val).unless ht
  | scrubVerify => exact s.scrub_upholds.unless ht
  | arrivalReport p r => exact (State.modPort_upholds (Port.arrival_alike _ r)).unless ht
  | reportProcessingStart p => exact (State.modPort_upholds (Port.beginReport_alike _)).unless ht
  | reportRegistryStep p => exact (State.registryStep_upholds p.isLt s).unless ht
  | messageTake p =>
    refine State.Upholds.row ?_ ht
    split
    · exact State.modPort_upholds ⟨rfl, rfl, rfl, rfl⟩
    · exact State.take_upholds p.isLt s
  | setDelayQueue p => exact (State.fillSetDelay_upholds p.isLt).unless ht
  | admissionLookup p d =>
    refine State.Upholds.row ?_ ht
    split
    · exact State.modPort_upholds ⟨rfl, rfl, rfl, rfl⟩
    · exact s.lookup_upholds p.val d.toNat
  | hostSelectEnd bs => exact (s.hostPeriod_upholds _).unless ht
  | hostReplyShiftedOut => exact s.shiftReplyOut_upholds.unless ht
  | craftByteReceived b stopError => exact (s.craftByte_upholds b stopError).unless ht
  | craftIdleTimeout => exact s.craftTimeout_upholds.unless ht
  | craftReplySent => exact (s.modLink_upholds .craft _).unless ht
  | commandTake => exact s.arbitrate_upholds.unless ht

end

/-- Settles O60: a step takes the front row, and every row but the upset spoils no record's verification and leaves a sound part sound. -/
theorem recordsVerifyUntilAnUpset : Obligations.RecordsVerifyUntilAnUpset := by
  intro s t hv ht hupset
  have hupholds : s.Upholds t := by
    unfold step at ht
    split at ht
    · cases ht
      exact .refl s
    · next c rest hpending =>
      have htaken : s.Upholds { s with pending := rest } := State.upholds_of_same rfl rfl rfl rfl rfl
      refine htaken.trans (exec_upholds (fun r image check hc => ?_) ht)
      rw [hc] at hpending
      exact hupset r image check rest hpending
  refine ⟨fun n hn => hupholds.verifies n (hv n hn), fun _ htied => ?_⟩
  obtain ⟨hqueues, houtline⟩ := State.tied_iff.mp htied
  obtain ⟨hqueues', houtline'⟩ := hupholds.sound hv ⟨hqueues, houtline⟩
  exact State.tied_iff.mpr ⟨hqueues', houtline'⟩

end Sys2Proof.Machine
end

section
/-! What the attention output, the integrity record and the site phase keep, first part: the operations that touch neither the integrity
count nor the phase, and damage handling, which counts (R169, R171). -/

namespace Sys2Proof.Machine

variable (s : State)

/-! ### The integrity count, the first damaged record and the phase -/

/-- What R169 and R171 speak of. -/
def State.latch : Nat × Option Nat × SitePhase := (s.integrityCount, s.firstDamaged, s.phase)

/-- A step's work keeps the integrity count and its latch in agreement (R169), and SERVICE (R171). -/
structure State.Guards (s t : State) : Prop where
  latched : s.integrityLatched → t.integrityLatched
  service : s.phase = .service → t.phase = .service

section
variable {s} {t u : State}

theorem State.Guards.refl (s : State) : s.Guards s := ⟨id, id⟩

theorem State.Guards.trans (h : s.Guards t) (h' : t.Guards u) : s.Guards u :=
  ⟨fun hs => h'.latched (h.latched hs), fun hs => h'.service (h.service hs)⟩

/-- Work that leaves the three alone. -/
theorem State.guards_of_latch (h : t.latch = s.latch) : s.Guards t := by
  simp only [State.latch, Prod.mk.injEq] at h
  obtain ⟨hcount, hfirst, hphase⟩ := h
  exact ⟨fun hs => by rwa [State.integrityLatched, hcount, hfirst], fun hs => hphase.trans hs⟩

theorem State.sameOutside.latch (h : s.sameOutside t) : t.latch = s.latch := by
  rw [h]
  rfl

theorem eachNumber_guards {f : State → Nat → State} (h : ∀ (t : State) n, t.Guards (f t n)) (ns : List Nat) :
    s.Guards (eachNumber f ns s) :=
  eachNumber_keeps (P := fun t => s.Guards t) (fun t n _ ht => ht.trans (h t n)) (.refl s)
end

@[simp] theorem eachNumber_latch {f : State → Nat → State} (h : ∀ (t : State) n, (f t n).latch = t.latch) (ns : List Nat) :
    (eachNumber f ns s).latch = s.latch :=
  eachNumber_field State.latch (fun t n _ => h t n) s

/-! ### Records, ports, maps and lists -/

@[simp] theorem State.modRecord_latch (n : Nat) (f : Record → Record) : (s.modRecord n f).latch = s.latch := rfl
@[simp] theorem State.change_latch (n : Nat) (f : Record → Record) : (s.change n f).latch = s.latch := rfl
@[simp] theorem State.modPort_latch (p : Nat) (f : Port → Port) : (s.modPort p f).latch = s.latch := rfl
@[simp] theorem State.flag_latch (p : Nat) (f : Conditions → Conditions) : (s.flag p f).latch = s.latch := rfl
@[simp] theorem State.holdDrop_latch (p d r : Nat) : (s.holdDrop p d r).latch = s.latch := rfl
@[simp] theorem State.freeDrop_latch (p d : Nat) : (s.freeDrop p d).latch = s.latch := rfl
@[simp] theorem State.setPhase_latch (p r : Nat) (ph : Phase) : (s.setPhase p r ph).latch = s.latch := rfl
@[simp] theorem State.removeEntry_latch (p r : Nat) : (s.removeEntry p r).latch = s.latch := rfl
@[simp] theorem State.appendEntry_latch (p r : Nat) : (s.appendEntry p r).latch = s.latch := rfl
@[simp] theorem State.entryToTail_latch (p r : Nat) : (s.entryToTail p r).latch = s.latch := rfl
@[simp] theorem State.clearTargets_latch (r : Nat) : (s.clearTargets r).latch = s.latch :=
  eachNumber_latch s (fun t p => t.modPort_latch p _) _
@[simp] theorem State.dropWindow_latch (p : Nat) : (s.dropWindow p).latch = s.latch := rfl
@[simp] theorem State.answerTake_latch (p : Nat) (a : TakeAnswer) : (s.answerTake p a).latch = s.latch := rfl
@[simp] theorem State.answerLookup_latch (p : Nat) (b : Byte) : (s.answerLookup p b).latch = s.latch := rfl
@[simp] theorem State.indexSerial_latch (x : Serial) (n : Nat) : (s.indexSerial x n).latch = s.latch := rfl
@[simp] theorem State.indexPlot_latch (x n : Nat) : (s.indexPlot x n).latch = s.latch := rfl
@[simp] theorem State.removeStranger_latch (x : Serial) : (s.removeStranger x).latch = s.latch := rfl
@[simp] theorem State.appendStranger_latch (e : Stranger) : (s.appendStranger e).latch = s.latch := rfl
@[simp] theorem State.withoutChanged_latch (ns : List Nat) : (s.withoutChanged ns).latch = s.latch := rfl
@[simp] theorem State.clearFlags_latch : s.clearFlags.latch = s.latch :=
  eachNumber_latch { s with newStranger := false } (fun t p => t.flag_latch p _) _

@[simp] theorem State.unindexSerial_latch (x : Option Serial) : (s.unindexSerial x).latch = s.latch := by
  cases x <;> rfl

@[simp] theorem State.unindexPlot_latch (x : Option Nat) : (s.unindexPlot x).latch = s.latch := by
  cases x <;> rfl

/-! ### The outbound queue -/

@[simp] theorem State.push_latch (p : Nat) (d : Descriptor) : (s.push p d).latch = s.latch := (s.push_sameOutside p d).latch

@[simp] theorem State.enqueue_latch (p : Nat) (d : Descriptor) : (s.enqueue p d).latch = s.latch :=
  (s.enqueue_sameOutside p d).latch

@[simp] theorem State.queueSetDelay_latch (p r : Nat) : (s.queueSetDelay p r).latch = s.latch := by
  unfold State.queueSetDelay
  split <;> simp

@[simp] theorem State.fillSetDelay_latch (p : Nat) : (s.fillSetDelay p).latch = s.latch :=
  eachNumber_latch s (fun t r => t.queueSetDelay_latch p r) _

@[simp] theorem State.emptyOutbound_latch (p : Nat) : (s.emptyOutbound p).latch = s.latch := (s.emptyOutbound_sameOutside p).latch

/-! ### Windows and changeovers (R66, R159) -/

@[simp] theorem State.abandon_latch (p : Nat) : (s.abandon p).latch = s.latch := by
  have howner : ∀ (t : State) w, (t.abandonOwner p w).latch = t.latch := by
    intro t w
    unfold State.abandonOwner
    split
    · simp
    · split <;> simp
    · split <;> simp
    · simp
    · rfl
  unfold State.abandon
  split
  · rfl
  · simp [howner]

@[simp] theorem State.failChangeover_latch (p : Nat) : (s.failChangeover p).latch = s.latch := by
  rw [s.failChangeover_eq, s.modPort_latch]

@[simp] theorem State.failIfReference_latch (r p : Nat) : (s.failIfReference r p).latch = s.latch :=
  (s.failIfReference_sameOutside r p).latch

/-! ### Damage handling (R165, R169) -/

/-- Damage handling counts up to 15 and latches the first record found (R169). -/
theorem State.damage_guards (r : Nat) : s.Guards (s.damage r) := by
  rw [s.damage_frame]
  refine ⟨fun ⟨hle, hlatch⟩ => ⟨?_, ?_⟩, id⟩ <;> dsimp only [Config.integrityLimit] at hle ⊢
  · split <;> omega
  · by_cases hzero : s.integrityCount = 0
    · simp [hzero]
    · have hfirst : s.firstDamaged ≠ none := fun h => hzero (hlatch.mpr h)
      simp only [hzero, hfirst, if_false, iff_false]
      split <;> omega

theorem State.verifyOrDamage_guards (r : Nat) : s.Guards (s.verifyOrDamage r) := by
  unfold State.verifyOrDamage
  split
  · exact .refl s
  · exact s.damage_guards r

/-- A scan that verifies what it reads. -/
theorem State.scan_guards (ns : List Nat) : s.Guards (eachNumber State.verifyOrDamage ns s) :=
  eachNumber_guards (fun t n => t.verifyOrDamage_guards n) ns

/-! ### Naming and giving up drop ids -/

@[simp] theorem State.releaseHeld_latch (r : Nat) : (s.releaseHeld r).latch = s.latch := (s.releaseHeld_sameOutside r).latch

@[simp] theorem State.nameExpected_latch (p r : Nat) (cause : Cause) (heard : Option Bool) :
    (s.nameExpected p r cause heard).latch = s.latch := by
  unfold State.nameExpected
  split
  · simp
  · split <;> simp

@[simp] theorem State.reenter_latch (p r : Nat) (cause : Cause) (heard : Option Bool) :
    (s.reenter p r cause heard).latch = s.latch := by
  unfold State.reenter
  split <;> simp

@[simp] theorem State.restart_latch (p r : Nat) (heard : Option Bool) : (s.restart p r heard).latch = s.latch :=
  (s.restart_sameOutside p r heard).latch

@[simp] theorem State.lose_latch (r : Nat) (cause : Cause) : (s.lose r cause).latch = s.latch := by
  simp [State.lose]

@[simp] theorem State.failActivation_latch (p r : Nat) (cause : Cause) : (s.failActivation p r cause).latch = s.latch := by
  simp [State.failActivation]

/-! ### The activation sequencer -/

@[simp] theorem State.setCondition_latch (p r code : Nat) : (s.setCondition p r code).latch = s.latch := rfl

@[simp] theorem State.setLastLevel_latch (r code : Nat) : (s.setLastLevel r code).latch = s.latch := rfl

@[simp] theorem State.recordRanging_latch (p r : Nat) (g : Ranging) : (s.recordRanging p r g).latch = s.latch := by
  simp [State.recordRanging]

@[simp] theorem State.attemptFailure_latch (p r : Nat) (cause : Cause) : (s.attemptFailure p r cause).latch = s.latch := by
  dsimp only [State.attemptFailure]
  split <;> simp

@[simp] theorem State.evaluateLevel_latch (p r code : Nat) (first : Bool) : (s.evaluateLevel p r code first).latch = s.latch := by
  have hround : ∀ index, (s.levellingRound p r code index first).latch = s.latch := by
    intro index
    unfold State.levellingRound
    cases first <;> simp
  have hfinish : (s.finish p r code).latch = s.latch := by
    unfold State.finish
    split
    · simp
    · dsimp only
      split_ifs <;> simp
  unfold State.evaluateLevel
  dsimp only
  split
  · exact hround _
  · exact hfinish

@[simp] theorem State.echoCaptured_latch (p r : Nat) (e : Captured) : (s.echoCaptured p r e).latch = s.latch := by
  unfold State.echoCaptured
  dsimp only
  split <;> simp

@[simp] theorem State.verifyCaptured_latch (p r : Nat) (e : Captured) : (s.verifyCaptured p r e).latch = s.latch := by
  unfold State.verifyCaptured
  dsimp only
  split
  · simp
  · split
    · simp
    · simp
    · split <;> simp

theorem State.takeActivationClose_guards (p : Nat) (w : OpenWindow) (phase : Phase) (st : RecState)
    {captured : Nat → Captured → State} (h : ∀ r e, (captured r e).latch = s.latch) :
    s.Guards (s.takeActivationClose p w phase st captured) := by
  unfold State.takeActivationClose
  split
  · exact .refl s
  · split
    · exact s.damage_guards _
    · split
      · split
        · exact State.guards_of_latch (s.attemptFailure_latch _ _ _)
        · exact State.guards_of_latch (h _ _)
      · exact .refl s

theorem State.echoClosed_guards (p : Nat) (w : OpenWindow) : s.Guards (State.echoClosed p s w) :=
  s.takeActivationClose_guards p w _ _ fun r e => s.echoCaptured_latch p r e

theorem State.verifyClosed_guards (p : Nat) (w : OpenWindow) : s.Guards (State.verifyClosed p s w) :=
  s.takeActivationClose_guards p w _ _ fun r e => s.verifyCaptured_latch p r e

/-! ### Upkeep -/

@[simp] theorem State.serveLevel_latch (p r code : Nat) : (s.serveLevel p r code).latch = s.latch := by
  unfold State.serveLevel
  dsimp only
  split <;> simp

@[simp] theorem State.upkeepMiss_latch (r : Nat) : (s.upkeepMiss r).latch = s.latch := by
  unfold State.upkeepMiss
  split <;> simp

@[simp] theorem State.rerange_latch (p r : Nat) : (s.rerange p r).latch = s.latch := by
  unfold State.rerange
  split <;> simp

@[simp] theorem State.cleanEcho_latch (p r : Nat) (e : Captured) : (s.cleanEcho p r e).latch = s.latch := by
  unfold State.cleanEcho
  dsimp only
  split
  · simp
  · split
    · simp
    · simp
    · split <;> simp

theorem State.upkeepClosed_guards (p : Nat) (w : OpenWindow) : s.Guards (State.upkeepClosed p s w) := by
  unfold State.upkeepClosed
  split
  · exact .refl s
  · split
    · exact s.damage_guards _
    · split
      · split
        · exact State.guards_of_latch (s.upkeepMiss_latch _)
        · exact State.guards_of_latch (s.cleanEcho_latch p _ _)
      · exact .refl s

/-! ### The changeover's close (R155 to R159) -/

theorem State.updateRecord_guards (p : Nat) (shift : Int) (acc : State × List Nat) (r : Nat) :
    acc.1.Guards (State.updateRecord p shift acc r).1 := by
  unfold State.updateRecord
  dsimp only
  split
  · dsimp only
    exact acc.1.damage_guards r
  · split
    · exact .refl _
    · split
      · exact State.guards_of_latch (acc.1.change_latch r _)
      · exact State.guards_of_latch ((State.change_latch _ r _).trans (acc.1.freeDrop_latch p _))

theorem State.registryUpdate_guards (p : Nat) (shift : Int) : s.Guards (s.registryUpdate p shift) := by
  have hupdated : ∀ (rs : List Nat) (acc : State × List Nat), acc.1.Guards (rs.foldl (State.updateRecord p shift) acc).1 := by
    intro rs
    induction rs with
    | nil => exact fun acc => .refl _
    | cons r rs ih =>
      intro acc
      rw [List.foldl_cons]
      exact (State.updateRecord_guards p shift acc r).trans (ih _)
  refine (hupdated (s.rangedOf p) (s, [])).trans (State.guards_of_latch ?_)
  exact (State.fillSetDelay_latch _ p).trans (eachNumber_latch _ (fun t d => t.enqueue_latch p (.release p d)) _)

theorem State.referenceClosed_guards (p : Nat) (w : OpenWindow) : s.Guards (State.referenceClosed p s w) := by
  have hfails : ∀ t : State, t.Guards (t.failChangeover p) := fun t => State.guards_of_latch (t.failChangeover_latch p)
  unfold State.referenceClosed
  split
  · exact hfails s
  · next r _ =>
    split
    · exact (s.damage_guards r).trans (hfails _)
    · split
      · exact hfails s
      · split
        · next e g _ _ =>
          have hheard : s.Guards ((s.setLastLevel r e.level).setCondition p r e.level) := State.guards_of_latch rfl
          exact (hheard.trans (State.registryUpdate_guards _ p _)).trans (State.guards_of_latch (State.modPort_latch _ p _))
        · exact hfails s
        · split
          · exact .refl s
          · exact hfails s

/-- What the owner of a closed window does (R65). -/
theorem State.closedBy_guards (p : Nat) (w : OpenWindow) : s.Guards (State.closedBy p s w) := by
  unfold State.closedBy
  split
  · exact State.guards_of_latch rfl
  · exact s.echoClosed_guards p w
  · exact s.verifyClosed_guards p w
  · exact s.upkeepClosed_guards p w
  · exact s.referenceClosed_guards p w
  · exact State.guards_of_latch rfl

theorem State.closeOf_guards (p : Nat) (k : WindowKind) : s.Guards (s.closeOf p k (State.closedBy p)) := by
  have hdropped : ∀ w, s.Guards (State.closedBy p (s.dropWindow p) w) := fun w =>
    (State.guards_of_latch (s.dropWindow_latch p)).trans (State.closedBy_guards _ p w)
  unfold State.closeOf
  split
  · split
    · exact hdropped _
    · exact .refl s
  · exact .refl s

end Sys2Proof.Machine
end

section
/-! What the attention output, the integrity record and the site phase keep, second part: grants and frame starts, the framer's traffic,
discovery, and the commands (R169, R171). -/

namespace Sys2Proof.Machine

variable (s : State)

/-! ### Grants and frame starts (R64, R67 to R70, R164) -/

@[simp] theorem State.grant_latch (p : Nat) (q : Requester) : (s.grant p q).latch = s.latch := by
  have heffect : ∀ (t : State) w, (t.grantEffect p w).latch = t.latch := by
    intro t w
    unfold State.grantEffect
    split <;> simp
  exact heffect _ _

/-- Damage found at a grant is handled, and the arbiter goes on (R68; log entry 31). -/
theorem State.grantRun_guards (fuel p : Nat) : s.Guards (State.grantRun fuel s p) := by
  induction fuel generalizing s with
  | zero => exact .refl s
  | succ fuel ih =>
    unfold State.grantRun
    split
    · exact .refl s
    · split
      · exact State.guards_of_latch (s.grant_latch p _)
      · split
        · exact State.guards_of_latch (s.grant_latch p _)
        · exact (s.damage_guards _).trans (ih _)

theorem State.grantReference_guards (p : Nat) : s.Guards (s.grantReference p) := by
  unfold State.grantReference
  split
  · exact .refl s
  · split
    · exact .refl s
    · split
      · exact State.guards_of_latch (s.grant_latch p _)
      · exact s.damage_guards _

theorem State.grantStep_guards (p : Nat) : s.Guards (s.grantStep p) := by
  unfold State.grantStep
  split
  · unfold State.considerGrant
    split
    · exact s.grantRun_guards _ p
    · exact State.guards_of_latch (s.grant_latch p _)
    · exact s.grantReference_guards p
    · exact .refl s
    · exact .refl s
  · exact .refl s

theorem State.windowStep_guards (p : Nat) : s.Guards (s.windowStep p) := by
  unfold State.windowStep
  split
  · exact State.guards_of_latch (s.modPort_latch p _)
  · split
    · exact (State.guards_of_latch (s.dropWindow_latch p)).trans (State.closedBy_guards _ p _)
    · exact State.guards_of_latch (s.modPort_latch p _)

@[simp] theorem State.periodEnd_latch (p : Nat) : (s.periodEnd p).latch = s.latch := rfl

@[simp] theorem State.makeDue_latch (p : Nat) : (s.makeDue p).latch = s.latch := by
  unfold State.makeDue
  split <;> simp

@[simp] theorem State.timerStep_latch (p : Nat) (invite : Bool) : (s.timerStep p invite).latch = s.latch := by
  have hperiod : (s.periodStep p).latch = s.latch := by
    unfold State.periodStep
    split <;> simp
  have hdiscovery : ∀ t : State, (t.discoveryStep p).latch = t.latch := by
    intro t
    dsimp only [State.discoveryStep]
    split <;> simp
  dsimp only [State.timerStep]
  split
  · split
    · exact hperiod
    · exact (hdiscovery _).trans hperiod
  · rfl

theorem State.arbiterFrame_guards (p n : Nat) : s.Guards (s.arbiterFrame p n) :=
  (((State.guards_of_latch (s.modPort_latch p (fun q => { q with frame := n }))).trans (State.windowStep_guards _ p)).trans
    (State.guards_of_latch (State.timerStep_latch _ p _))).trans (State.grantStep_guards _ p)

/-- The scrubber's cursor and counter stand in neither (R164). -/
theorem State.scrubCounters_guards (cursor counter : Nat) : s.Guards { s with scrubCounter := counter, scrubCursor := cursor } :=
  State.guards_of_latch rfl

theorem State.scrub_guards : s.Guards s.scrub :=
  (s.verifyOrDamage_guards s.scrubCursor).trans (State.scrubCounters_guards _ _ _)

theorem State.scrubCount_guards : s.Guards s.scrubCount := by
  unfold State.scrubCount
  split
  · exact s.scrub_guards
  · exact s.scrubCounters_guards s.scrubCursor _

/-! ### Message takes and admission lookups (R31, R78) -/

theorem State.take_guards (p : Nat) : s.Guards (s.take p) := by
  have hhanded : ∀ (t : State) d, t.Guards (t.handOver p d) := by
    intro t d
    unfold State.handOver
    split
    · exact State.guards_of_latch (t.answerTake_latch p _)
    · split
      · exact State.guards_of_latch (State.answerTake_latch _ p _)
      · exact (t.damage_guards _).trans (State.guards_of_latch (State.answerTake_latch _ p _))
  unfold State.take
  split
  · exact State.guards_of_latch (s.answerTake_latch p _)
  · next ds _ =>
    exact ((State.guards_of_latch (s.modPort_latch p (fun q => { q with outbound := ds }))).trans (hhanded _ _)).trans
      (State.guards_of_latch (State.fillSetDelay_latch _ p))

theorem State.lookup_guards (p d : Nat) : s.Guards (s.lookup p d) := by
  have hanswered : ∀ b, s.Guards (s.answerLookup p b) := fun b => State.guards_of_latch (s.answerLookup_latch p b)
  unfold State.lookup
  split
  · exact hanswered _
  · split
    · exact hanswered _
    · split
      · exact hanswered _
      · split
        · exact hanswered _
        · exact (s.damage_guards _).trans (State.guards_of_latch (State.answerLookup_latch _ p _))

/-! ### HELLOs (R86 to R96) -/

@[simp] theorem State.helloOwnPort_latch (p r : Nat) (levelable : Bool) : (s.helloOwnPort p r levelable).latch = s.latch := by
  have hactivating : (s.helloActivating p r levelable).latch = s.latch := by
    dsimp only [State.helloActivating]
    split <;> simp
  have hranged : (s.helloRanged p r levelable).latch = s.latch := by
    unfold State.helloRanged State.helloUnranged
    split <;> simp
  unfold State.helloOwnPort
  split <;> simp [hactivating, hranged]

@[simp] theorem State.helloOtherPort_latch (p r : Nat) (levelable : Bool) : (s.helloOtherPort p r levelable).latch = s.latch := by
  dsimp only [State.helloOtherPort, State.helloMove]
  split <;> simp

@[simp] theorem State.helloStranger_latch (p : Nat) (x : Serial) (levelable : Bool) :
    (s.helloStranger p x levelable).latch = s.latch := by
  dsimp only [State.helloStranger]
  split <;> rfl

theorem State.hello_guards (p tag : Nat) (x : Serial) (levelable : Bool) : s.Guards (s.hello p tag x levelable) := by
  have hlookup : ∀ t : State, t.Guards (t.helloLookup p x levelable) := by
    intro t
    unfold State.helloLookup
    split
    · exact State.guards_of_latch (t.helloStranger_latch p x levelable)
    · split
      · exact t.damage_guards _
      · split
        · exact State.guards_of_latch (t.helloOwnPort_latch p _ levelable)
        · exact State.guards_of_latch (t.helloOtherPort_latch p _ levelable)
  dsimp only [State.hello]
  split
  · exact State.guards_of_latch (s.modPort_latch p _)
  · have hheard : s.Guards ((s.modPort p (fun q => q.heardWindow tag)).modPort p (fun q => q.recordHeard x)) :=
      State.guards_of_latch rfl
    exact hheard.trans (hlookup _)

theorem State.registryStep_guards (p : Nat) : s.Guards (s.registryStep p) := by
  dsimp only [State.registryStep]
  split
  · exact .refl s
  · split
    · exact State.guards_of_latch (s.modPort_latch p _)
    · exact (State.guards_of_latch (s.modPort_latch p (fun q => { q with processing := none }))).trans
        (State.hello_guards _ p _ _ _)

/-! ### The effects of the record commands -/

@[simp] theorem State.nameAtOnce_latch (n : Nat) (cause : Cause) : (s.nameAtOnce n cause).latch = s.latch := by
  unfold State.nameAtOnce
  split <;> simp

@[simp] theorem State.planRecord_latch (a : PlanArgs) (cause causeAdopted causeNamed : Cause) :
    (s.planRecord a cause causeAdopted causeNamed).latch = s.latch := by
  dsimp only [State.planRecord, State.planAdopting, State.planPlain]
  split
  · simp
  · split <;> simp

@[simp] theorem State.amendRecord_latch (a : AmendArgs) : (s.amendRecord a).latch = s.latch := by
  have hresolved : ∀ (t : State) n, (t.resolveQuery n).latch = t.latch := by
    intro t n
    dsimp only [State.resolveQuery]
    split <;> simp
  have hplot : ∀ (t : State) old, (t.amendPlot a old).latch = t.latch := by
    intro t old
    unfold State.amendPlot
    split <;> simp
  have hserial : ∀ (t : State) old, (t.amendSerial a old).latch = t.latch := by
    intro t old
    unfold State.amendSerial
    split
    · split <;> simp
    · rfl
  dsimp only [State.amendRecord]
  split <;> simp [hresolved, hplot, hserial]

@[simp] theorem State.retireRecord_latch (n : Nat) : (s.retireRecord n).latch = s.latch := by
  simp [State.retireRecord]

@[simp] theorem State.adoptRecord_latch (n : Nat) (x : Serial) : (s.adoptRecord n x).latch = s.latch := by
  unfold State.adoptRecord
  split <;> simp

@[simp] theorem State.activate_latch (n : Nat) (cause : Cause) : (s.activate n cause).latch = s.latch := by
  simp [State.activate]

@[simp] theorem State.rejectRecord_latch (n : Nat) : (s.rejectRecord n).latch = s.latch := by
  have hdisowned : ∀ (t : State) c, (t.disown c).latch = t.latch := by
    intro t c
    unfold State.disown
    split <;> simp
  simp [State.rejectRecord, hdisowned]

section
variable {s}

/-- A record command does its effect, where its checks pass, or handles damage, or nothing (R10). -/
theorem recordCommand_guards {l : Link} {k : Permit} {n : Nat} {argsOk : Bool} {check : State → Record → Option Status}
    {apply : State → State} (h : ∀ u : State, (apply u).latch = u.latch) :
    s.Guards (recordCommand l k n argsOk check apply s).1 := by
  unfold recordCommand
  split
  · exact .refl s
  · split
    · exact .refl s
    · split
      · exact .refl s
      · split
        · dsimp only
          exact s.damage_guards n
        · split
          · exact .refl s
          · exact State.guards_of_latch (h s)

/-- A port command does its effect where its checks pass, or nothing (R43). -/
theorem portCommand_guards {l : Link} {p : Nat} {check : Port → Option Status} {apply : State → State}
    (h : ∀ u : State, u.Guards (apply u)) : s.Guards (portCommand l p check apply s).1 := by
  unfold portCommand
  split
  · exact .refl s
  · split
    · exact .refl s
    · split
      · exact .refl s
      · exact h s
end

theorem doPlan_guards (l : Link) (a : PlanArgs) : s.Guards (doPlan l a s).1 :=
  recordCommand_guards fun u => u.planRecord_latch a _ _ _

theorem doAmend_guards (l : Link) (a : AmendArgs) : s.Guards (doAmend l a s).1 :=
  recordCommand_guards fun u => u.amendRecord_latch a

theorem doRetire_guards (l : Link) (r : Half) : s.Guards (doRetire l r s).1 :=
  recordCommand_guards fun u => u.retireRecord_latch _

theorem doAdopt_guards (l : Link) (r : Half) (x : Serial) : s.Guards (doAdopt l r x s).1 :=
  recordCommand_guards fun u => u.adoptRecord_latch _ x

theorem doRetry_guards (l : Link) (r : Half) : s.Guards (doRetry l r s).1 :=
  recordCommand_guards fun u => u.change_latch _ _

theorem doRestore_guards (l : Link) (a : PlanArgs) : s.Guards (doRestore l a s).1 :=
  recordCommand_guards fun u => u.planRecord_latch a _ _ _

theorem doPin_guards (l : Link) (r : Half) : s.Guards (doPin l r s).1 :=
  recordCommand_guards fun u => u.modRecord_latch _ _

theorem doUnpin_guards (l : Link) (r : Half) : s.Guards (doUnpin l r s).1 :=
  recordCommand_guards fun u => u.modRecord_latch _ _

theorem doConfirm_guards (l : Link) (r : Half) : s.Guards (doConfirm l r s).1 :=
  recordCommand_guards fun u => by split <;> simp

theorem doReject_guards (l : Link) (r : Half) : s.Guards (doReject l r s).1 :=
  recordCommand_guards fun u => u.rejectRecord_latch _

theorem doAdmit_guards (l : Link) (r : Half) : s.Guards (doAdmit l r s).1 :=
  recordCommand_guards fun u => u.activate_latch _ _

theorem doSuspend_guards (l : Link) (r : Half) : s.Guards (doSuspend l r s).1 :=
  recordCommand_guards fun u => by simp

theorem doRediscover_guards (l : Link) (r : Half) : s.Guards (doRediscover l r s).1 :=
  recordCommand_guards fun u => u.reenter_latch _ _ _ _

/-! ### The port commands -/

theorem State.disablePort_guards (p : Nat) : s.Guards (s.disablePort p) := by
  have hdisabled : ∀ (t : State) r, (State.disableRecord p t r).latch = t.latch := by
    intro t r
    dsimp only [State.disableRecord]
    split <;> simp
  have hserved : ∀ (t : State) r, (t.serveWaiting r).latch = t.latch := by
    intro t r
    unfold State.serveWaiting
    split <;> simp
  refine (s.scan_guards (s.disableSet p)).trans (State.guards_of_latch ?_)
  dsimp only [State.disablePort]
  simp [eachNumber_latch _ hdisabled, eachNumber_latch _ hserved]

theorem doPortEnable_guards (l : Link) (p : Byte) : s.Guards (doPortEnable l p s).1 :=
  portCommand_guards fun u => State.guards_of_latch (u.modPort_latch _ _)

theorem doPortDisable_guards (l : Link) (p : Byte) : s.Guards (doPortDisable l p s).1 :=
  portCommand_guards fun u => u.disablePort_guards _

theorem doCalibrate_guards (l : Link) (p : Byte) : s.Guards (doCalibrate l p s).1 :=
  portCommand_guards fun u => State.guards_of_latch (u.modPort_latch _ _)

theorem doStart_guards (l : Link) (p : Byte) : s.Guards (doStart l p s).1 :=
  portCommand_guards fun u => State.guards_of_latch (u.modPort_latch _ _)

theorem doStop_guards (l : Link) (p : Byte) : s.Guards (doStop l p s).1 :=
  portCommand_guards fun u => State.guards_of_latch ((State.modPort_latch _ _ _).trans (u.abandon_latch _))

theorem doPortConfigure_guards (l : Link) (a : ConfigArgs) : s.Guards (doPortConfigure l a s).1 := by
  dsimp only [doPortConfigure]
  split_ifs
  any_goals exact .refl s
  exact State.guards_of_latch (s.modPort_latch _ _)

theorem doSweep_guards (l : Link) (p : Byte) : s.Guards (doSweep l p s).1 := by
  dsimp only [doSweep]
  split_ifs
  any_goals exact .refl s
  exact State.guards_of_latch (s.modPort_latch _ _)

theorem doChangeover_guards (l : Link) (p : Byte) (ref : Half) : s.Guards (doChangeover l p ref s).1 := by
  have hstarted : ∀ q r, (s.startChangeover q r).latch = s.latch := by
    intro q r
    simp [State.startChangeover, State.restartEntries]
  dsimp only [doChangeover]
  split
  · exact .refl s
  · split
    · exact .refl s
    · split
      · exact .refl s
      · split
        · exact .refl s
        · exact .refl s
        · exact .refl s
        · exact .refl s
        · split
          · dsimp only
            exact s.damage_guards _
          · split
            · exact .refl s
            · exact State.guards_of_latch (hstarted _ _)

/-! ### The reads -/

theorem State.lookedUp_guards (n : Nat) (items : State → List Byte) : s.Guards (s.lookedUp n items).1 := by
  unfold State.lookedUp
  split
  · exact .refl s
  · dsimp only
    exact s.damage_guards n

theorem doReadRecord_guards (r : Half) : s.Guards (doReadRecord r s).1 := by
  dsimp only [doReadRecord]
  split
  · exact .refl s
  · split
    · exact .refl s
    · dsimp only
      exact s.damage_guards _

theorem doFindSerial_guards (x : Serial) : s.Guards (doFindSerial x s).1 := by
  unfold doFindSerial
  split
  · exact s.lookedUp_guards _ _
  · exact .refl s

theorem doFindPlot_guards (plot : Half) : s.Guards (doFindPlot plot s).1 := by
  unfold doFindPlot
  split
  · exact .refl s
  · split
    · exact s.lookedUp_guards _ _
    · exact .refl s

theorem doSilenceMap_guards (p : Byte) (first : Half) : s.Guards (doSilenceMap p first s).1 := by
  dsimp only [doSilenceMap]
  split
  · exact .refl s
  · split
    · exact .refl s
    · exact s.scan_guards _

theorem doDropMap_guards (p : Byte) : s.Guards (doDropMap p s).1 := by
  dsimp only [doDropMap]
  split
  · exact .refl s
  · exact s.scan_guards _

theorem doActivationQueue_guards (p : Byte) : s.Guards (doActivationQueue p s).1 := by
  dsimp only [doActivationQueue]
  split
  · exact .refl s
  · exact s.scan_guards _

theorem doPortStatus_guards (l : Link) (p : Byte) : s.Guards (doPortStatus l p s).1 := by
  dsimp only [doPortStatus]
  split
  · exact .refl s
  · dsimp only
    split
    · exact State.guards_of_latch (s.flag_latch _ _)
    · exact .refl s

/-! ### The device commands -/

theorem doChanges_guards (l : Link) : s.Guards (doChanges l s).1 := by
  dsimp only [doChanges]
  split
  · exact .refl s
  · exact ((s.scan_guards _).trans (State.guards_of_latch (State.withoutChanged_latch _ _))).trans
      (State.guards_of_latch (State.clearFlags_latch _))

theorem doScrubConfigure_guards (l : Link) (i : Byte) : s.Guards (doScrubConfigure l i s).1 := by
  unfold doScrubConfigure
  split
  · exact .refl s
  · split
    · exact .refl s
    · exact State.guards_of_latch rfl

/-- A cleared integrity record latches nothing (R169). -/
theorem State.guards_of_cleared {s t : State} (hcount : t.integrityCount = 0) (hfirst : t.firstDamaged = none)
    (hphase : t.phase = s.phase) : s.Guards t :=
  ⟨fun _ => ⟨by rw [hcount]; exact Nat.zero_le _, iff_of_true hcount hfirst⟩, fun h => hphase.trans h⟩

theorem doIntegrity_guards (l : Link) : s.Guards (doIntegrity l s).1 := by
  unfold doIntegrity
  split
  · exact .refl s
  · exact State.guards_of_cleared rfl rfl rfl

theorem doPhaseService_guards (l : Link) : s.Guards (doPhaseService l s).1 := by
  unfold doPhaseService
  split
  · exact .refl s
  · exact ⟨id, fun _ => rfl⟩

theorem State.softResetRecord_guards (r : Nat) : s.Guards (s.softResetRecord r) := by
  unfold State.softResetRecord
  split
  · exact s.damage_guards r
  · split
    · exact State.guards_of_latch ((State.change_latch _ r _).trans (s.releaseHeld_latch r))
    · exact State.guards_of_latch (s.modRecord_latch r _)

/-- A soft reset may count damage on its way, and ends with the integrity record clear (R169, R181). -/
theorem State.softReset_guards : s.Guards s.softReset := by
  have hports : ∀ t : State, (eachNumber (fun s p => s.modPort p Port.softReset) allPorts t).latch = t.latch :=
    fun t => eachNumber_latch t (fun u p => u.modPort_latch p _) _
  have hquiet := (hports _).trans ((eachNumber_latch _ State.emptyOutbound_latch allPorts).trans
    (eachNumber_latch s State.abandon_latch allPorts))
  have hregistry := (State.guards_of_latch hquiet).trans (eachNumber_guards State.softResetRecord_guards s.softResetSet)
  have hserved := hregistry.trans (State.guards_of_latch (eachNumber_latch _ State.fillSetDelay_latch allPorts))
  have hcleared : ∀ t : State, t.Guards
      { t with strangers := [], scrubCursor := 0, scrubCounter := 0, integrityCount := 0, firstDamaged := none } :=
    fun _ => State.guards_of_cleared rfl rfl rfl
  exact (hserved.trans (State.guards_of_latch (State.clearFlags_latch _))).trans (hcleared _)

theorem doSoftReset_guards (l : Link) : s.Guards (doSoftReset l s).1 := by
  unfold doSoftReset
  split
  · exact .refl s
  · exact s.softReset_guards

end Sys2Proof.Machine
end

section
/-! What the attention output, the integrity record and the site phase keep, last part: the links, the rows of the table, and the step
(R169, R171, R178). -/

namespace Sys2Proof.Machine

/-! ### The attention output (R178) -/

theorem Conditions.any_iff (c : Conditions) : c.any = true ↔
    c.upkeepOverrun = true ∨ c.outboundOverrun = true ∨ c.portFull = true ∨ c.deferred = true ∨ c.calibrationDone = true
      ∨ c.calibrationFailed = true ∨ c.changeoverDone = true ∨ c.changeoverFailed = true := by
  simp only [Conditions.any, Bool.or_eq_true, or_assoc]

theorem State.any_port_iff (s : State) (f : Port → Bool) : s.ports.toList.any f = true ↔ ∃ p, p < 4 ∧ f (s.port p) = true := by
  have hport : ∀ (p : Nat) (hp : p < 4), s.port p = s.ports[p] := fun p hp => by simp [State.port, hp]
  simp only [List.any_eq_true, Vector.mem_toList_iff, Vector.mem_iff_getElem]
  constructor
  · rintro ⟨_, ⟨p, hp, rfl⟩, hf⟩
    exact ⟨p, hp, by rwa [hport p hp]⟩
  · rintro ⟨p, hp, hf⟩
    exact ⟨_, ⟨p, hp, rfl⟩, by rwa [← hport p hp]⟩

/-- The output is due while one of R178's five conditions holds. -/
theorem State.attentionDue_iff (s : State) : s.attentionDue = true ↔
    s.changed ≠ [] ∨ (∃ p, p < 4 ∧ (s.port p).conditions.any = true) ∨ s.newStranger = true ∨ 0 < s.integrityCount
      ∨ s.host.replies ≠ [] := by
  simp only [State.attentionDue, Bool.or_eq_true, s.any_port_iff, decide_eq_true_eq, Bool.not_eq_true', List.isEmpty_eq_false_iff,
    or_assoc]

/-! ### The links (R173 to R177) -/

section
variable (s : State)

@[simp] theorem State.modLink_latch (l : Link) (f : LinkState → LinkState) : (s.modLink l f).latch = s.latch := by
  cases l <;> rfl

@[simp] theorem State.appendReply_latch (l : Link) (f : ReplyFrame) : (s.appendReply l f).latch = s.latch := s.modLink_latch l _

@[simp] theorem State.immediate_latch (l : Link) (tag : Byte) (st : Status) : (s.immediate l tag st).latch = s.latch := by
  unfold State.immediate
  split <;> simp

@[simp] theorem State.queueCommand_latch (l : Link) (tag : Byte) (c : Command) : (s.queueCommand l tag c).latch = s.latch := by
  unfold State.queueCommand
  split <;> simp

@[simp] theorem State.checkFrame_latch (l : Link) (bs : List Byte) : (s.checkFrame l bs).latch = s.latch := by
  unfold State.checkFrame State.checkCommand
  split
  · simp
  · split
    · split <;> simp
    · simp

@[simp] theorem State.endPeriod_latch : s.endPeriod.latch = s.latch := rfl

@[simp] theorem State.hostPeriod_latch (bs : List Byte) : (s.hostPeriod bs).latch = s.latch := by
  unfold State.hostPeriod
  split <;> simp

@[simp] theorem State.shiftReplyOut_latch : s.shiftReplyOut.latch = s.latch := by
  unfold State.shiftReplyOut
  split <;> rfl

@[simp] theorem State.endAssembly_latch : s.endAssembly.latch = s.latch := rfl

@[simp] theorem State.incomplete_latch (bs : List Byte) : (s.incomplete bs).latch = s.latch := by
  unfold State.incomplete
  split <;> simp

@[simp] theorem State.craftByte_latch (b : Byte) (stopError : Bool) : (s.craftByte b stopError).latch = s.latch := by
  have hassembled : ∀ bs, (s.assemble bs).latch = s.latch := by
    intro bs
    unfold State.assemble
    split
    · simp
    · rfl
  unfold State.craftByte
  split
  · split
    · exact hassembled _
    · rfl
  · split
    · exact s.incomplete_latch _
    · exact hassembled _

@[simp] theorem State.craftTimeout_latch : s.craftTimeout.latch = s.latch := by
  unfold State.craftTimeout
  split <;> simp

@[simp] theorem State.craftIdleCount_latch : s.craftIdleCount.latch = s.latch := by
  unfold State.craftIdleCount
  split
  · rfl
  · split
    · exact s.incomplete_latch _
    · rfl

theorem State.frameStart_guards (p n : Nat) : s.Guards (s.frameStart p n) := by
  unfold State.frameStart
  split
  · exact ((s.arbiterFrame_guards p n).trans (State.scrubCount_guards _)).trans
      (State.guards_of_latch (State.craftIdleCount_latch _))
  · exact s.arbiterFrame_guards p n

/-! ### Link commands (R177) -/

theorem runCommand_guards (l : Link) (c : Command) : s.Guards (runCommand l c s).1 := by
  cases c with
  | plan a => exact doPlan_guards s l a
  | amend a => exact doAmend_guards s l a
  | retire r => exact doRetire_guards s l r
  | adopt r x => exact doAdopt_guards s l r x
  | retry r => exact doRetry_guards s l r
  | restore a => exact doRestore_guards s l a
  | pin r => exact doPin_guards s l r
  | unpin r => exact doUnpin_guards s l r
  | confirm r => exact doConfirm_guards s l r
  | reject r => exact doReject_guards s l r
  | admitDrop r => exact doAdmit_guards s l r
  | suspend r => exact doSuspend_guards s l r
  | rediscover r => exact doRediscover_guards s l r
  | portEnable p => exact doPortEnable_guards s l p
  | portDisable p => exact doPortDisable_guards s l p
  | calibrate p => exact doCalibrate_guards s l p
  | start p => exact doStart_guards s l p
  | stop p => exact doStop_guards s l p
  | portConfigure a => exact doPortConfigure_guards s l a
  | sweep p => exact doSweep_guards s l p
  | changeover p r => exact doChangeover_guards s l p r
  | readRecord r => exact doReadRecord_guards s r
  | findSerial x => exact doFindSerial_guards s x
  | findPlot plot => exact doFindPlot_guards s plot
  | strangers | deviceStatus => exact .refl s
  | silenceMap p r => exact doSilenceMap_guards s p r
  | dropMap p => exact doDropMap_guards s p
  | activationQueue p => exact doActivationQueue_guards s p
  | portStatus p => exact doPortStatus_guards s l p
  | changes => exact doChanges_guards s l
  | scrubConfigure i => exact doScrubConfigure_guards s l i
  | integrity => exact doIntegrity_guards s l
  | phaseService => exact doPhaseService_guards s l
  | softReset => exact doSoftReset_guards s l

theorem State.answer_guards (l : Link) (tag : Byte) (c : Command) : s.Guards (s.answer l tag (runCommand l c)) := by
  have hserved : ∀ t : State, t.Guards { t with lastServed := l } := fun _ => State.guards_of_latch rfl
  exact ((runCommand_guards s l c).trans (hserved _)).trans (State.guards_of_latch (State.appendReply_latch _ l _))

theorem State.arbitrate_guards : s.Guards s.arbitrate := by
  unfold State.arbitrate
  split
  · exact .refl s
  · unfold State.takeCommand
    split
    · exact .refl s
    · exact (State.guards_of_latch (s.modLink_latch _ _)).trans (State.answer_guards _ _ _ _)
end

/-! ### The rows of the table -/

section
variable {s t u : State}

/-- What a row that has its effect leaves once the attention output has followed. -/
theorem State.Guards.row (h : s.Guards u) (ht : (.next u.settle : Result) = .next t) :
    s.Guards t ∧ t.attention = t.attentionDue := by
  cases ht
  exact ⟨h.trans (State.guards_of_latch rfl), rfl⟩

/-- A row that has its effect where no condition rules it out. -/
theorem State.Guards.unless (h : s.Guards u) {c : Prop} [Decidable c]
    (ht : (.next (if c then s else u).settle : Result) = .next t) : s.Guards t ∧ t.attention = t.attentionDue := by
  refine State.Guards.row ?_ ht
  split
  · exact .refl s
  · exact h

theorem linkCommand_guards {l : Link} {tag : Byte} {c : Command} (ht : linkCommand l tag c (runCommand l c) s = .next t) :
    s.Guards t ∧ t.attention = t.attentionDue := by
  refine State.Guards.unless ?_ ht
  split
  · exact s.answer_guards l tag c
  · exact State.guards_of_latch (s.queueCommand_latch l tag c)

/-- A row that closes a window of one kind. -/
theorem closeRow_guards {p : Lane} {k : WindowKind} (ht : exec (closeRow p k) s = .next t) :
    s.Guards t ∧ t.attention = t.attentionDue :=
  (s.closeOf_guards p.val k).unless ((exec_closeRow s p k).symm.trans ht)

/-- Every row of the table but the assertion of the hard-reset pin keeps the latch and SERVICE, and the attention output follows. -/
theorem exec_guards {i : Instr} (hi : i ≠ .hardResetAssert) (ht : exec i s = .next t) :
    s.Guards t ∧ t.attention = t.attentionDue := by
  cases i with
  | plan | amend | retire | adopt | retry | restore | pin | unpin | confirm | reject | admitDrop | suspend | rediscover
  | portEnable | portDisable | calibrate | start | stop | portConfigure | sweep | changeover | readRecord | findSerial
  | findPlot | strangers | silenceMap | dropMap | activationQueue | portStatus | deviceStatus | changes | scrubConfigure
  | integrity | phaseService | softReset => exact linkCommand_guards ht
  | hardResetAssert => exact absurd rfl hi
  | hardResetRelease =>
    have hreleased : s.Guards { s with resetHeld := false } := State.guards_of_latch rfl
    exact hreleased.row ht
  | storageUpset r image check =>
    change execStorageUpset r image check s = _ at ht
    unfold execStorageUpset at ht
    split at ht
    · cases ht
    · split at ht
      · cases ht
      · split at ht
        · cases ht
        · have hstruck : s.Guards (s.store r { content := Record.ofImage image, check := check }) := State.guards_of_latch rfl
          exact hstruck.unless ht
  | frameStart p n => exact (s.frameStart_guards p.val n.toNat).unless ht
  | windowGrant p => exact (s.grantStep_guards p.val).unless ht
  | inviteClose p => exact closeRow_guards (k := .invite) ht
  | echoClose p => exact closeRow_guards (k := .echo) ht
  | verifyClose p => exact closeRow_guards (k := .verify) ht
  | upkeepClose p => exact closeRow_guards (k := .upkeep) ht
  | referenceClose p => exact closeRow_guards (k := .reference) ht
  | loopClose p => exact closeRow_guards (k := .loop) ht
  | upkeepPeriodEnd p => exact (State.guards_of_latch (s.periodEnd_latch p.val)).unless ht
  | discoveryDue p => exact (State.guards_of_latch (s.makeDue_latch p.val)).unless ht
  | scrubVerify => exact s.scrub_guards.unless ht
  | arrivalReport p r => exact (State.guards_of_latch (s.modPort_latch p.val _)).unless ht
  | reportProcessingStart p => exact (State.guards_of_latch (s.modPort_latch p.val _)).unless ht
  | reportRegistryStep p => exact (s.registryStep_guards p.val).unless ht
  | messageTake p =>
    refine State.Guards.row ?_ ht
    split
    · exact State.guards_of_latch (s.answerTake_latch p.val _)
    · exact s.take_guards p.val
  | setDelayQueue p => exact (State.guards_of_latch (s.fillSetDelay_latch p.val)).unless ht
  | admissionLookup p d =>
    refine State.Guards.row ?_ ht
    split
    · exact State.guards_of_latch (s.answerLookup_latch p.val _)
    · exact s.lookup_guards p.val d.toNat
  | hostSelectEnd bs => exact (State.guards_of_latch ((State.endPeriod_latch _).trans (s.hostPeriod_latch _))).unless ht
  | hostReplyShiftedOut => exact (State.guards_of_latch s.shiftReplyOut_latch).unless ht
  | craftByteReceived b stopError => exact (State.guards_of_latch (s.craftByte_latch b stopError)).unless ht
  | craftIdleTimeout => exact (State.guards_of_latch s.craftTimeout_latch).unless ht
  | craftReplySent => exact (State.guards_of_latch (s.modLink_latch .craft _)).unless ht
  | commandTake => exact s.arbitrate_guards.unless ht
end

/-- The asserted pin clears the integrity record; the attention output follows (R178, R182). -/
theorem exec_hardResetAssert_latched {s t : State} (ht : exec .hardResetAssert s = .next t) :
    t.integrityLatched ∧ t.attention = t.attentionDue := by
  cases ht
  exact ⟨⟨Nat.zero_le _, iff_of_true rfl rfl⟩, rfl⟩

/-- Settles O58: a step takes the front row; every row ends with the attention output following its conditions, and every row but the
hard reset, which clears both, keeps the integrity latch and SERVICE. -/
theorem stepsKeepAttentionIntegrityAndPhase : Obligations.StepsKeepAttentionIntegrityAndPhase := by
  intro s t due ht hd
  have hdue : ∀ u : State, u.attentionDue = true ↔ due u := fun u => by
    subst hd
    simpa only [Conditions.any_iff, exists_and_left, exists_eq_left] using u.attentionDue_iff
  unfold step at ht
  split at ht
  · next hidle =>
    cases ht
    exact ⟨fun h => h.elim (fun hne => absurd hidle hne) id, id, fun h _ => h⟩
  · next i rest hpending =>
    by_cases hi : i = .hardResetAssert
    · subst hi
      obtain ⟨hlatched, hattention⟩ := exec_hardResetAssert_latched ht
      refine ⟨fun _ => by rw [hattention, hdue], fun _ => hlatched, fun _ hne => ?_⟩
      rw [hpending] at hne
      exact absurd rfl hne
    · obtain ⟨hguards, hattention⟩ := exec_guards hi ht
      exact ⟨fun _ => by rw [hattention, hdue], hguards.latched, fun hs _ => hguards.service hs⟩

end Sys2Proof.Machine
end

section
/-! Link frames: the command that a code and argument bytes spell (R184), the checks of a frame on arrival (R176, R183), and what a host
select period does with it (R174). -/

namespace Sys2Proof.Machine

/-! ### Bytes and fields (R184) -/

/-- A number is read back from its bytes, the highest first, as far as they hold it. -/
theorem beNat_beBytes (k n : Nat) : beNat (beBytes k n) = n % 256 ^ k := by
  have hfold : ∀ acc, (beBytes k n).foldl (fun a b => a * 256 + b.toNat) acc = acc * 256 ^ k + n % 256 ^ k := by
    induction k with
    | zero => simp [beBytes, Nat.mod_one]
    | succ k ih =>
      intro acc
      have hsplit : n % 256 ^ (k + 1) = n % 256 ^ k + 256 ^ k * (n / 256 ^ k % 256) := Nat.mod_mul
      rw [beBytes, List.foldl_cons, ih, BitVec.toNat_ofNat, hsplit]
      ring
  simpa [beNat] using hfold 0

section
variable {bs : List Byte} {offset : Nat}

theorem byteAt_eq {b : Byte} (h : (bs.drop offset).take 1 = [b]) : byteAt bs offset = b := by
  simp [byteAt, fieldAt, h, beNat]

/-- A field that holds the bytes of a number fitting it reads as that number. -/
theorem fieldAt_eq {w : Nat} {x : BitVec w} {k : Nat} (hw : 2 ^ w = 256 ^ k) (h : (bs.drop offset).take k = beBytes k x.toNat) :
    BitVec.ofNat w (fieldAt bs offset k) = x := by
  have hx : x.toNat < 256 ^ k := hw ▸ x.isLt
  rw [fieldAt, h, beNat_beBytes, Nat.mod_eq_of_lt hx, BitVec.ofNat_toNat, BitVec.setWidth_eq]

theorem halfAt_eq {x : Half} (h : (bs.drop offset).take 2 = beBytes 2 x.toNat) : halfAt bs offset = x := fieldAt_eq (by decide) h

theorem serialAt_eq {x : Serial} (h : (bs.drop offset).take 8 = beBytes 8 x.toNat) : serialAt bs offset = x :=
  fieldAt_eq (by decide) h
end

/-! ### Commands read back from their bytes (R184) -/

/-- Plan arguments are read back from the record number at the front and the plan block at its offset. -/
theorem planAt_eq {bs : List Byte} {at0 : Nat} {a : PlanArgs} (hrecord : bs.take 2 = beBytes 2 a.record.toNat)
    (hblock : bs.drop at0 = planBlockBytes a) : planAt bs at0 = a := by
  have hfield : ∀ k n, (bs.drop (at0 + k)).take n = ((planBlockBytes a).drop k).take n := fun k n => by
    rw [← List.drop_drop, hblock]
  rw [planAt, halfAt_eq (offset := 0) hrecord, byteAt_eq (offset := at0) (b := a.presence) (hfield 0 1),
    halfAt_eq (x := a.plot) (hfield 1 2), byteAt_eq (b := a.port) (hfield 3 1), byteAt_eq (b := a.serviceClass) (hfield 4 1),
    byteAt_eq (b := a.autoAdmit) (hfield 5 1), serialAt_eq (x := a.serial) (hfield 6 8), byteAt_eq (b := a.preferred) (hfield 14 1),
    halfAt_eq (x := a.dmin) (hfield 15 2), halfAt_eq (x := a.dmax) (hfield 17 2)]

theorem configAt_configBytes (a : ConfigArgs) : configAt (configBytes a) = a := by
  rw [configAt, byteAt_eq (b := a.port) rfl, halfAt_eq (x := a.selection) rfl, fieldAt_eq (x := a.teq) (by decide) rfl,
    halfAt_eq (x := a.tr) rfl, byteAt_eq (b := a.lo) rfl, byteAt_eq (b := a.hi) rfl, byteAt_eq (b := a.floor) rfl,
    byteAt_eq (b := a.ceiling) rfl, byteAt_eq (b := a.initIndex) rfl, byteAt_eq (b := a.mode) rfl, halfAt_eq (x := a.interval) rfl,
    byteAt_eq (b := a.spread) rfl, halfAt_eq (x := a.period) rfl, byteAt_eq (b := a.hold) rfl, halfAt_eq (x := a.limit) rfl,
    byteAt_eq (b := a.gap) rfl, byteAt_eq (b := a.feed) rfl]

/-- Every link command is read back from its code and its argument bytes. -/
theorem parseCommand_commandBytes (c : Command) : parseCommand (commandBytes c).1 (commandBytes c).2 = some c := by
  cases c with
  | plan a => exact congrArg (fun x => some (Command.plan x)) (planAt_eq rfl rfl)
  | restore a => exact congrArg (fun x => some (Command.restore x)) (planAt_eq rfl rfl)
  | amend a =>
    obtain ⟨selection, plan⟩ := a
    exact congrArg₂ (fun x y => some (Command.amend ⟨x, y⟩)) (byteAt_eq rfl) (planAt_eq rfl rfl)
  | retire r => exact congrArg (fun x => some (Command.retire x)) (halfAt_eq rfl)
  | adopt r x => exact congrArg₂ (fun x y => some (Command.adopt x y)) (halfAt_eq rfl) (serialAt_eq rfl)
  | retry r => exact congrArg (fun x => some (Command.retry x)) (halfAt_eq rfl)
  | pin r => exact congrArg (fun x => some (Command.pin x)) (halfAt_eq rfl)
  | unpin r => exact congrArg (fun x => some (Command.unpin x)) (halfAt_eq rfl)
  | confirm r => exact congrArg (fun x => some (Command.confirm x)) (halfAt_eq rfl)
  | reject r => exact congrArg (fun x => some (Command.reject x)) (halfAt_eq rfl)
  | admitDrop r => exact congrArg (fun x => some (Command.admitDrop x)) (halfAt_eq rfl)
  | suspend r => exact congrArg (fun x => some (Command.suspend x)) (halfAt_eq rfl)
  | rediscover r => exact congrArg (fun x => some (Command.rediscover x)) (halfAt_eq rfl)
  | portEnable p => exact congrArg (fun x => some (Command.portEnable x)) (byteAt_eq rfl)
  | portDisable p => exact congrArg (fun x => some (Command.portDisable x)) (byteAt_eq rfl)
  | calibrate p => exact congrArg (fun x => some (Command.calibrate x)) (byteAt_eq rfl)
  | start p => exact congrArg (fun x => some (Command.start x)) (byteAt_eq rfl)
  | stop p => exact congrArg (fun x => some (Command.stop x)) (byteAt_eq rfl)
  | portConfigure a => exact congrArg (fun x => some (Command.portConfigure x)) (configAt_configBytes a)
  | sweep p => exact congrArg (fun x => some (Command.sweep x)) (byteAt_eq rfl)
  | changeover p r => exact congrArg₂ (fun x y => some (Command.changeover x y)) (byteAt_eq rfl) (halfAt_eq rfl)
  | readRecord r => exact congrArg (fun x => some (Command.readRecord x)) (halfAt_eq rfl)
  | findSerial x => exact congrArg (fun x => some (Command.findSerial x)) (serialAt_eq rfl)
  | findPlot r => exact congrArg (fun x => some (Command.findPlot x)) (halfAt_eq rfl)
  | silenceMap p r => exact congrArg₂ (fun x y => some (Command.silenceMap x y)) (byteAt_eq rfl) (halfAt_eq rfl)
  | dropMap p => exact congrArg (fun x => some (Command.dropMap x)) (byteAt_eq rfl)
  | activationQueue p => exact congrArg (fun x => some (Command.activationQueue x)) (byteAt_eq rfl)
  | portStatus p => exact congrArg (fun x => some (Command.portStatus x)) (byteAt_eq rfl)
  | scrubConfigure i => exact congrArg (fun x => some (Command.scrubConfigure x)) (byteAt_eq rfl)
  | strangers | deviceStatus | changes | integrity | phaseService | softReset => rfl

/-- The argument bytes of a command have the length of R184's table. -/
theorem argLength_commandBytes (c : Command) : argLength (commandBytes c).1 = some (commandBytes c).2.length := by
  cases c <;> rfl

theorem commandBytes_length_le (c : Command) : (commandBytes c).2.length ≤ 24 := by
  cases c <;> exact Nat.le_of_ble_eq_true rfl

/-- A code that some command has is read with any argument bytes. -/
theorem parseCommand_listed (c : Command) (args : List Byte) : ∃ c', parseCommand (commandBytes c).1 args = some c' := by
  cases c <;> exact ⟨_, rfl⟩

/-- What is read has the code it is read from. -/
theorem code_of_parseCommand {code : Byte} {args : List Byte} {c : Command} (h : parseCommand code args = some c) :
    (commandBytes c).1 = code := by
  unfold parseCommand at h
  split at h
  case h_36 => cases h
  all_goals
    rename_i hcode
    cases h
    exact BitVec.eq_of_toNat_eq hcode.symm

/-! ### Frames and their sums (R183) -/

theorem byteSum_withCheck (bs : List Byte) : byteSum (withCheck bs) = 0#8 := by
  rw [withCheck, byteSum, List.foldl_append]
  change byteSum bs + (0#8 - byteSum bs) = 0#8
  rw [BitVec.add_comm, BitVec.sub_add_cancel]

/-- A command's frame byte by byte. -/
theorem commandFrame_eq (c : Command) (tag : Byte) : ∃ check : Byte, commandFrame c tag =
    syncByte :: BitVec.ofNat 8 ((commandBytes c).2.length + 3) :: tag :: (commandBytes c).1 :: ((commandBytes c).2 ++ [check]) := by
  simp [commandFrame, withCheck, beBytes_one]

theorem commandFrame_sum (c : Command) (tag : Byte) : byteSum (commandFrame c tag) = 0#8 := byteSum_withCheck _

theorem toNat_frameLength (c : Command) : (BitVec.ofNat 8 ((commandBytes c).2.length + 3)).toNat = (commandBytes c).2.length + 3 := by
  have hle := commandBytes_length_le c
  rw [BitVec.toNat_ofNat, Nat.mod_eq_of_lt (by omega)]

/-! ### Frames checked on arrival (R176) -/

section
variable (s : State) (l : Link)

theorem fieldAt_length (b0 len : Byte) (rest : List Byte) : fieldAt (b0 :: len :: rest) 1 1 = len.toNat := by
  simp [fieldAt, beNat]

/-- Step 1 of R176: a length below 3, or one that the bytes do not have, is MALFORMED. -/
theorem State.checkFrame_badLength {b0 len tag : Byte} {rest : List Byte}
    (h : len.toNat < 3 ∨ (b0 :: len :: tag :: rest).length ≠ len.toNat + 2) :
    s.checkFrame l (b0 :: len :: tag :: rest) = s.immediate l tag .malformed := by
  have hbad : lengthGood (b0 :: len :: tag :: rest) = false := by
    simp only [lengthGood, fieldAt_length, Bool.and_eq_false_iff, decide_eq_false_iff_not]
    omega
  rw [State.checkFrame, hbad, byteAt_eq (b := tag) rfl]
  rfl

/-- A frame of good length is answered MALFORMED where its sum is not 0, and its command is checked otherwise. -/
theorem State.checkFrame_goodLength {b0 len tag code check : Byte} {args : List Byte}
    (h : (b0 :: len :: tag :: code :: (args ++ [check])).length = len.toNat + 2) :
    s.checkFrame l (b0 :: len :: tag :: code :: (args ++ [check])) =
      if byteSum (b0 :: len :: tag :: code :: (args ++ [check])) = 0#8 then s.checkCommand l tag code args
      else s.immediate l tag .malformed := by
  have hgood : lengthGood (b0 :: len :: tag :: code :: (args ++ [check])) = true := by
    simp only [lengthGood, fieldAt_length, Bool.and_eq_true, decide_eq_true_eq]
    simp only [List.length_cons, List.length_append] at h ⊢
    omega
  have hargs : ((b0 :: len :: tag :: code :: (args ++ [check])).drop 4).take
      ((b0 :: len :: tag :: code :: (args ++ [check])).length - 5) = args := by
    simp
  rw [State.checkFrame, hgood, hargs, byteAt_eq (b := tag) rfl, byteAt_eq (b := code) rfl]
  split_ifs <;> simp_all

/-- Steps 2 and 3 of R176 for a code that some command has. -/
theorem State.checkCommand_listed (tag : Byte) (c : Command) (args : List Byte) : ∃ c', parseCommand (commandBytes c).1 args = some c' ∧
    s.checkCommand l tag (commandBytes c).1 args =
      if args.length = (commandBytes c).2.length then s.queueCommand l tag c' else s.immediate l tag .malformed := by
  obtain ⟨c', hc'⟩ := parseCommand_listed c args
  exact ⟨c', hc', by rw [State.checkCommand, argLength_commandBytes, hc']⟩

/-- A command's own frame queues it (R176, steps 4 and 5). -/
theorem State.checkFrame_commandFrame (c : Command) (tag : Byte) :
    s.checkFrame l (commandFrame c tag) = s.queueCommand l tag c := by
  obtain ⟨check, hframe⟩ := commandFrame_eq c tag
  obtain ⟨c', hparse, hcheck⟩ := s.checkCommand_listed l tag c (commandBytes c).2
  obtain rfl : c = c' := Option.some.inj ((parseCommand_commandBytes c).symm.trans hparse)
  have hsum := commandFrame_sum c tag
  rw [hframe] at hsum ⊢
  have hlength : (syncByte :: BitVec.ofNat 8 ((commandBytes c).2.length + 3) :: tag :: (commandBytes c).1
      :: ((commandBytes c).2 ++ [check])).length = (BitVec.ofNat 8 ((commandBytes c).2.length + 3)).toNat + 2 := by
    rw [toNat_frameLength]
    simp
  rw [s.checkFrame_goodLength l hlength, if_pos hsum, hcheck, if_pos rfl]

/-- A frame that R176 turns away is answered. -/
theorem State.checkFrame_turnedAway {bs : List Byte} {tag : Byte} {st : Status} (h : turnedAway bs tag st) :
    s.checkFrame l bs = s.immediate l tag st := by
  obtain ⟨len, code, check, args, rfl, hlength, hwhy⟩ := h
  rw [s.checkFrame_goodLength l hlength]
  rcases hwhy with ⟨hsum, rfl⟩ | ⟨hsum, hcode, rfl⟩ | ⟨hsum, ⟨c, rfl, hargs⟩, rfl⟩
  · exact if_neg hsum
  · refine (if_pos hsum).trans ?_
    unfold State.checkCommand
    split
    · next c _ hc => exact absurd (code_of_parseCommand hc) (hcode c)
    · rfl
  · obtain ⟨c', -, hcheck⟩ := s.checkCommand_listed l tag c args
    exact (if_pos hsum).trans (hcheck.trans (if_neg hargs))

/-! ### Answers and queues (R176) -/

variable {s l} in
theorem State.modLink_congr {f g : LinkState → LinkState} (h : f (s.link l) = g (s.link l)) : s.modLink l f = s.modLink l g := by
  cases l with
  | host => exact congrArg (fun k => { s with host := k }) h
  | craft => exact congrArg (fun k => { s with craft := k }) h

variable {s l} in
theorem State.modLink_id {f : LinkState → LinkState} (h : f (s.link l) = s.link l) : s.modLink l f = s := by
  rw [State.modLink_congr (g := id) h]
  cases l <;> rfl

/-- An immediate reply joins its link's path, or is dropped where the path holds 8 frames. -/
theorem State.immediate_eq (tag : Byte) (st : Status) :
    s.immediate l tag st = s.modLink l (fun k => { k with
      replies := if k.replies.length < 8 then k.replies ++ [{ tag := tag, status := st, payload := [] }] else k.replies }) := by
  unfold State.immediate
  split
  · next hroom => exact State.modLink_congr (by simp [show (s.link l).replies.length < 8 from s.replyRoom_iff.mp hroom])
  · next hroom =>
    have hfull : ¬ (s.link l).replies.length < 8 := fun h => hroom (s.replyRoom_iff.mpr h)
    exact (State.modLink_id (by simp [hfull])).symm

/-- A command that finds 4 in its queue is answered LINK_FULL. -/
theorem State.queueCommand_linkFull {l : Link} (h : 4 ≤ (s.link l).queue.length) (tag : Byte) (c : Command) :
    s.queueCommand l tag c = s.immediate l tag .linkFull := if_neg (Nat.not_lt.mpr h)
end

/-! ### The host link (R174) -/

section
variable {s : State}

/-- The row takes the period's bytes; no host frame is in assembly when it ends. -/
theorem exec_hostSelectEnd (hh : s.resetHeld = false) (ha : s.host.assembly = none) (bs : List Byte) :
    exec (.hostSelectEnd bs) s = .next (s.hostPeriod bs).endPeriod.settle := by
  change execHostSelectEnd bs s = _
  simp [execHostSelectEnd, hh, ha]

theorem State.endPeriod_eq (ha : s.host.assembly = none) : s.endPeriod = { s with hostRead := false } := by
  rw [State.endPeriod, ← ha]

/-- What the period did to the host link stands when it ends. -/
theorem State.endPeriod_modLink {f : LinkState → LinkState} (ha : (f s.host).assembly = none) :
    (s.modLink .host f).endPeriod = { s with host := f s.host, hostRead := false } :=
  State.endPeriod_eq (s := s.modLink .host f) ha

theorem State.hostPeriod_whole {rest : List Byte} (h : 2 ≤ rest.length) :
    s.hostPeriod (syncByte :: rest) = s.checkFrame .host (syncByte :: rest) :=
  if_pos ⟨rfl, by rw [List.length_cons]; omega⟩

/-- A period without the sync byte at its front, or without a tag, has no effect. -/
theorem State.hostPeriod_none {bs : List Byte} (h : bs.head? ≠ some syncByte ∨ bs.length < 3) : s.hostPeriod bs = s :=
  if_neg fun ⟨hhead, hlength⟩ => h.elim (fun hne => hne hhead) (Nat.not_lt.mpr hlength)

/-- A frame that is answered on arrival leaves its answer on the host's reply path, where there is room. -/
theorem exec_hostSelectEnd_answered (hh : s.resetHeld = false) (ha : s.host.assembly = none) {rest : List Byte}
    (hlength : 2 ≤ rest.length) {tag : Byte} {st : Status}
    (hframe : s.checkFrame .host (syncByte :: rest) = s.immediate .host tag st) :
    exec (.hostSelectEnd (syncByte :: rest)) s = .next ({ s with
      host := { s.host with
        replies := if s.host.replies.length < 8 then s.host.replies ++ [{ tag := tag, status := st, payload := [] }]
          else s.host.replies }
      hostRead := false } : State).settle := by
  rw [exec_hostSelectEnd hh ha, State.hostPeriod_whole hlength, hframe, s.immediate_eq,
    State.endPeriod_modLink ha]
end

/-- Settles O7: a period with the sync byte and a tag is checked as a frame, whose outcome is that of R176's steps. -/
theorem hostFrameQueuesItsCommand : Obligations.HostFrameQueuesItsCommand := by
  refine ⟨fun c tag => ?_, fun s answered hh ha hanswered => ⟨fun c tag => ?_, fun bs => ⟨fun h => ?_, ?_, ?_⟩⟩⟩
  · obtain ⟨check, hframe⟩ := commandFrame_eq c tag
    exact ⟨check, hframe, commandFrame_sum c tag⟩
  · obtain ⟨check, hframe⟩ := commandFrame_eq c tag
    have hqueued := s.checkFrame_commandFrame .host c tag
    rw [hframe] at hqueued ⊢
    refine ⟨fun hroom => ?_, fun hfull => ?_⟩
    · rw [exec_hostSelectEnd hh ha, State.hostPeriod_whole (by simp), hqueued, s.queueCommand_room (l := .host) hroom,
        State.endPeriod_modLink ha]
    · rw [s.queueCommand_linkFull (l := .host) hfull] at hqueued
      rw [hanswered]
      exact exec_hostSelectEnd_answered hh ha (by simp) hqueued
  · rw [exec_hostSelectEnd hh ha, State.hostPeriod_none h, State.endPeriod_eq ha]
  · rintro len tag rest rfl h
    rw [hanswered]
    exact exec_hostSelectEnd_answered hh ha (by simp) (s.checkFrame_badLength .host h)
  · intro tag st h
    have hframe := s.checkFrame_turnedAway .host h
    obtain ⟨len, code, check, args, rfl, -⟩ := h
    rw [hanswered]
    exact exec_hostSelectEnd_answered hh ha (by simp) hframe

end Sys2Proof.Machine
end

section
/-! The craft link: frames assembled byte by byte and ended by gaps (R175, R176). -/

namespace Sys2Proof.Machine

variable {s : State}

/-! ### Rows of the craft link -/

theorem exec_craftByteReceived (hh : s.resetHeld = false) (b : Byte) (stopError : Bool) :
    exec (.craftByteReceived b stopError) s = .next (s.craftByte b stopError).settle := by
  change execCraftByteReceived b stopError s = _
  simp [execCraftByteReceived, hh]

/-! ### Bytes that join a frame -/

/-- A byte joins the frame in assembly, or begins one where it is the sync byte. -/
theorem State.craftByte_assembles {before bs : List Byte} {b : Byte}
    (ha : s.craft.assembly = if before = [] then none else some before) (hbs : bs = before ++ [b])
    (hhead : bs.head? = some syncByte) : s.craftByte b false = s.assemble bs := by
  subst hbs
  cases before with
  | nil =>
    obtain rfl : b = syncByte := Option.some.inj hhead
    have hnone : s.craft.assembly = none := ha
    simp [State.craftByte, hnone]
  | cons b0 bs =>
    have hsome : s.craft.assembly = some (b0 :: bs) := ha
    simp [State.craftByte, hsome]

/-- A frame whose tag or whose length is still to come stays in assembly. -/
theorem State.assemble_incomplete {bs : List Byte} (h : bs.length ≤ 2 ∨
      ∃ b0 len tag rest, bs = b0 :: len :: tag :: rest ∧ 3 ≤ len.toNat ∧ bs.length < len.toNat + 2) :
    s.assemble bs = { s with craft := { s.craft with assembly := some bs }, craftIdle := 0 } := by
  refine if_neg ?_
  rcases h with hshort | ⟨b0, len, tag, rest, rfl, hlen, hmore⟩
  · simp [craftComplete, Nat.not_le.mpr (Nat.lt_succ_of_le hshort)]
  · simp only [craftComplete, fieldAt_length, Bool.and_eq_true, Bool.or_eq_true, decide_eq_true_eq]
    omega

/-- A frame with a bad length field is complete with its tag, another one at its length. -/
theorem State.assemble_complete {b0 len tag : Byte} {rest : List Byte}
    (h : len.toNat < 3 ∨ len.toNat + 2 ≤ (b0 :: len :: tag :: rest).length) :
    s.assemble (b0 :: len :: tag :: rest) = s.endAssembly.checkFrame .craft (b0 :: len :: tag :: rest) := by
  refine if_pos ?_
  simp only [craftComplete, fieldAt_length, Bool.and_eq_true, Bool.or_eq_true, decide_eq_true_eq]
  exact ⟨by simp, h⟩

/-- An answer that ends the assembly joins the craft link's reply path, where there is room. -/
theorem State.endAssembly_immediate (tag : Byte) (st : Status) :
    s.endAssembly.immediate .craft tag st = { s with
      craft := { s.craft with
        assembly := none
        replies := if s.craft.replies.length < 8 then s.craft.replies ++ [{ tag := tag, status := st, payload := [] }]
          else s.craft.replies }
      craftIdle := 0 } :=
  s.endAssembly.immediate_eq .craft tag st

/-- The bytes of a command's frame: assembled until the last, with which the frame is checked. -/
theorem State.assemble_commandFrame {c : Command} {tag : Byte} {bs after : List Byte} (h : bs ++ after = commandFrame c tag) :
    s.assemble bs =
      if after = [] then s.endAssembly.queueCommand .craft tag c
      else { s with craft := { s.craft with assembly := some bs }, craftIdle := 0 } := by
  obtain ⟨check, hframe⟩ := commandFrame_eq c tag
  have hlength : (commandFrame c tag).length = (BitVec.ofNat 8 ((commandBytes c).2.length + 3)).toNat + 2 := by
    rw [hframe, toNat_frameLength]
    simp
  split
  · next hlast =>
    obtain rfl : bs = commandFrame c tag := by rw [← h, hlast, List.append_nil]
    rw [← State.checkFrame_commandFrame]
    rw [hframe] at hlength ⊢
    exact State.assemble_complete (.inr hlength.ge)
  · next hmore =>
    have hshorter : bs.length < (commandFrame c tag).length := by
      rw [← h, List.length_append]
      exact Nat.lt_add_of_pos_right (List.length_pos_iff.mpr hmore)
    refine State.assemble_incomplete ?_
    match bs, h with
    | [], _ | [_], _ | [_, _], _ => exact .inl (by simp)
    | b0 :: len :: tag' :: rest, h =>
      obtain rfl : len = BitVec.ofNat 8 ((commandBytes c).2.length + 3) := by
        rw [hframe] at h
        simp only [List.cons_append, List.cons.injEq] at h
        obtain ⟨-, hlen, -⟩ := h
        exact hlen
      exact .inr ⟨b0, _, tag', rest, rfl, by rw [toNat_frameLength]; omega, hlength ▸ hshorter⟩

/-- Settles O8: a byte that leaves the frame incomplete joins it, and the byte that completes it has the frame checked (R175, R176). -/
theorem craftBytesAssembleAFrame : Obligations.CraftBytesAssembleAFrame := by
  refine ⟨fun c tag s before after b hh hframe ha hroom => ?_, fun s before bs b answered hh ha hbs hhead hanswered => ?_⟩
  · have hframe' : (before ++ [b]) ++ after = commandFrame c tag := by rw [← hframe]; simp
    have hhead : (before ++ [b]).head? = some syncByte := by
      obtain ⟨check, heq⟩ := commandFrame_eq c tag
      rw [heq] at hframe'
      cases before <;> simp_all
    rw [exec_craftByteReceived hh, State.craftByte_assembles ha rfl hhead, State.assemble_commandFrame hframe',
      s.endAssembly.queueCommand_room (l := .craft) hroom]
    rfl
  · have hexec : exec (.craftByteReceived b false) s = .next (s.assemble bs).settle := by
      rw [exec_craftByteReceived hh, State.craftByte_assembles ha hbs hhead]
    have hchecked : ∀ tag st, s.assemble bs = s.endAssembly.checkFrame .craft bs →
        s.endAssembly.checkFrame .craft bs = s.endAssembly.immediate .craft tag st →
        exec (.craftByteReceived b false) s = .next (answered tag st).settle := fun tag st hcomplete hframe => by
      rw [hexec, hcomplete, hframe, State.endAssembly_immediate, hanswered]
    refine ⟨fun h => ?_, ?_, fun tag st h => ?_, fun c tag hc hfull => ?_⟩
    · rw [hexec, State.assemble_incomplete (h.imp id fun ⟨len, hlen⟩ => ⟨_, len, hlen⟩)]
    · rintro len tag rfl hlen
      exact hchecked tag _ (State.assemble_complete (.inl hlen)) (State.checkFrame_badLength _ _ (.inl hlen))
    · refine hchecked tag st ?_ (State.checkFrame_turnedAway _ _ h)
      obtain ⟨len, code, check, args, rfl, hlength, -⟩ := h
      exact State.assemble_complete (.inr hlength.ge)
    · refine hchecked tag .linkFull ?_ ?_
      · rw [State.assemble_commandFrame (after := []) (by rw [hc, List.append_nil]), hc, State.checkFrame_commandFrame]
        exact if_pos rfl
      · rw [hc, State.checkFrame_commandFrame]
        exact s.endAssembly.queueCommand_linkFull (l := .craft) hfull tag c

/-! ### Gaps and stop-bit errors (R175) -/

/-- A gap and a byte with a stop-bit error do the same. -/
theorem exec_craftEnds (hh : s.resetHeld = false) {b : Byte} {i : Instr}
    (hi : i = .craftIdleTimeout ∨ i = .craftByteReceived b true) : exec i s = .next s.craftTimeout.settle := by
  rcases hi with rfl | rfl
  · exact exec_craftIdleTimeout s hh
  · rw [exec_craftByteReceived hh]
    cases ha : s.craft.assembly <;> simp [State.craftByte, State.craftTimeout, ha]

/-- Settles O9: with no frame in assembly nothing ends, and one in assembly is answered where its tag is in. -/
theorem craftGapEndsTheFrame : Obligations.CraftGapEndsTheFrame := by
  refine fun s hh => ⟨fun ha b hb => ?_, fun b i hi => ⟨fun ha => ?_, fun bs ha hshort => ?_, fun b0 b1 tag bs ha => ?_⟩⟩
  · rw [exec_craftByteReceived hh]
    simp [State.craftByte, ha, syncByte, hb]
  · rw [exec_craftEnds hh hi]
    simp [State.craftTimeout, ha]
  · rw [exec_craftEnds hh hi]
    simp [State.craftTimeout, ha, State.incomplete, Nat.not_le.mpr (Nat.lt_succ_of_le hshort), State.endAssembly]
  · have hended : s.craftTimeout = s.endAssembly.immediate .craft tag .malformed := by
      simp [State.craftTimeout, ha, State.incomplete, byteAt_eq (bs := b0 :: b1 :: tag :: bs) (b := tag) (offset := 2) rfl]
    rw [exec_craftEnds hh hi, hended, State.endAssembly_immediate]

end Sys2Proof.Machine
end

section
/-! Replies shifted out (R174, R175), the command arbiter (R177), and the hard-reset pin (R182). -/

namespace Sys2Proof.Machine

variable {s : State}

/-! ### Rows that have no effect -/

/-- A row that a condition rules out leaves the part as it is. -/
theorem row_idle {c : Prop} [Decidable c] (h : c) (u : State) :
    (.next (if c then s else u).settle : Result) = .next s.settle := by
  rw [if_pos h]

/-! ### Replies shifted out (R174, R175, R183) -/

/-- The status codes count from 0 in the order of R177's table (R184). -/
theorem Status.code_eq (st : Status) : st.code =
    BitVec.ofNat 8 ([Status.ok, .busy, .refusedState, .noSuchRecord, .outOfRange, .duplicate, .pinned, .notPermitted, .damaged,
      .notCalibrated, .rangedPresent, .noStranger, .notFound, .linkFull, .malformed, .unknownCommand].idxOf st) := by
  cases st <;> rfl

/-- A reply's frame byte by byte. -/
theorem ReplyFrame.bytes_eq (f : ReplyFrame) : ∃ check : Byte, f.bytes =
    syncByte :: BitVec.ofNat 8 ((f.payload.length + 3) / 256) :: BitVec.ofNat 8 (f.payload.length + 3) :: f.tag :: f.status.code
      :: (f.payload ++ [check]) := by
  simp [ReplyFrame.bytes, withCheck, beBytes]

theorem State.hostShiftsOut_head {f : ReplyFrame} {fs : List ReplyFrame} (h : s.hostRead = false) (hr : s.host.replies = f :: fs) :
    s.hostShiftsOut = f.bytes := by
  simp [State.hostShiftsOut, h, hr]

theorem State.hostShiftsOut_idle (h : s.hostRead = true ∨ s.host.replies = []) : s.hostShiftsOut = [idleByte] := by
  rcases h with h | h <;> simp [State.hostShiftsOut, h]

theorem exec_hostReplyShiftedOut (hh : s.resetHeld = false) : exec .hostReplyShiftedOut s = .next s.shiftReplyOut.settle := by
  change execHostReplyShiftedOut s = _
  simp [execHostReplyShiftedOut, hh]

theorem exec_craftReplySent (hh : s.resetHeld = false) : exec .craftReplySent s = .next (s.dropReply .craft).settle := by
  change execCraftReplySent s = _
  simp [execCraftReplySent, hh]

/-- Settles O10: the head reply leaves in its own bytes, and an empty path or a period that is done leaves the part as it is. -/
theorem sentRepliesLeaveTheirPath : Obligations.SentRepliesLeaveTheirPath := by
  refine ⟨fun f => ?_, fun s f fs hh => ⟨fun hread hr => ⟨State.hostShiftsOut_head hread hr, ?_⟩,
    fun h => ⟨State.hostShiftsOut_idle h, ?_⟩, fun hr => ?_, fun hr => ?_⟩⟩
  · obtain ⟨check, hbytes⟩ := f.bytes_eq
    rw [Status.code_eq] at hbytes
    exact ⟨check, hbytes, byteSum_withCheck _⟩
  · rw [exec_hostReplyShiftedOut hh, s.shiftReplyOut_head hread hr]
  · rw [exec_hostReplyShiftedOut hh, s.shiftReplyOut_none h]
  · rw [exec_craftReplySent hh]
    simp [State.dropReply, State.modLink, hr]
  · have hnone : s.dropReply .craft = s := State.modLink_id (by simp [State.link, hr]; rw [← hr])
    rw [exec_craftReplySent hh, hnone]

/-! ### The command arbiter (R177) -/

theorem exec_commandTake (hh : s.resetHeld = false) : exec .commandTake s = .next s.arbitrate.settle := by
  change execCommandTake s = _
  simp [execCommandTake, hh]

theorem State.takeable_eq_false {l : Link} (h : (s.link l).queue = [] ∨ 8 ≤ (s.link l).replies.length) : s.takeable l = false := by
  rcases h with h | h
  · simp [State.takeable, h]
  · simp [State.takeable, State.replyRoom, Config.replyLimit, Nat.not_lt.mpr h]

theorem State.takeable_of_head {l : Link} {q : QueuedCommand} {qs : List QueuedCommand} (hroom : s.replyRoom l = true)
    (hq : (s.link l).queue = q :: qs) : s.takeable l = true := by
  simp [State.takeable, hroom, hq]

/-- The arbiter serves a link that can be served where it is not the one last served, or where the other one cannot be. -/
theorem State.nextLink_eq {l : Link} (h : s.takeable l = true)
    (hturn : l ≠ s.lastServed ∨ s.takeable (otherLink l) = false) : s.nextLink = some l := by
  have hlinks : l = s.lastServed ∨ l = otherLink s.lastServed := by
    cases l <;> cases s.lastServed <;> simp [otherLink]
  rcases hlinks with rfl | rfl
  · have hother : s.takeable (otherLink s.lastServed) = false := hturn.resolve_left (fun hne => hne rfl)
    simp [State.nextLink, h, hother]
  · simp [State.nextLink, h]

theorem otherLink_ne (l : Link) : otherLink l ≠ l := by
  cases l <;> decide

theorem State.nextLink_none (h : ∀ l, s.takeable l = false) : s.nextLink = none := by
  simp [State.nextLink, h]

/-- A command that is carried out leaves its own link with its reply at the tail of the path, and the other link as it was. -/
theorem State.answer_links (l : Link) (tag : Byte) (c : Command) :
    ∃ f : ReplyFrame, f.tag = tag ∧ (s.answer l tag (runCommand l c)).lastServed = l
      ∧ (s.answer l tag (runCommand l c)).link l = { s.link l with replies := (s.link l).replies ++ [f] }
      ∧ (s.answer l tag (runCommand l c)).link (otherLink l) = s.link (otherLink l) := by
  have hlinks := (runCommand_evolves s l c).link
  refine ⟨{ tag := tag, status := (runCommand l c s).2.status, payload := (runCommand l c s).2.payload }, rfl, ?_, ?_, ?_⟩
  · cases l <;> rfl
  · rw [← hlinks l]
    cases l <;> rfl
  · rw [← hlinks (otherLink l)]
    cases l <;> rfl

/-- Settles O11: the arbiter's choice of link, the command it takes as its row carries it out, and rows that find no room. -/
theorem theArbiterAlternates : Obligations.TheArbiterAlternates := by
  refine ⟨fun l q qs s hready hq hturn => ?_, fun s h => ?_, fun l tag c s hh hfull => ⟨fun hroom => ?_, fun hqueue => ?_⟩⟩
  · obtain ⟨hh, hroom⟩ := hready
    have hnext : s.nextLink = some l :=
      State.nextLink_eq (State.takeable_of_head (s.replyRoom_iff.mpr hroom) hq) (hturn.imp id State.takeable_eq_false)
    have harbitrated : s.arbitrate =
        (s.modLink l (fun k => { k with queue := qs })).answer l q.tag (runCommand l q.command) := by
      simp [State.arbitrate, hnext, State.takeCommand, hq]
    obtain ⟨f, htag, hserved, hlink, hother⟩ := State.answer_links
      (s := s.modLink l (fun k => { k with queue := qs })) l q.tag q.command
    rw [State.modLink_link_self] at hlink
    rw [State.modLink_link_ne s (otherLink_ne l)] at hother
    refine ⟨_, f, exec_commandTake hh, ?_, ?_⟩
    · have hready : (s.modLink l (fun k => { k with queue := qs })).ready l := ⟨by simpa using hh, by simpa using hroom⟩
      rw [exec_commandRow, linkCommand_ready _ hready, harbitrated]
      rfl
    · have hlinks : ∀ (t : State) k, t.settle.link k = t.link k := fun t k => by cases k <;> rfl
      rw [harbitrated, State.settle_lastServed, hlinks, hlinks, hlink, hother]
      exact ⟨hserved, rfl, rfl, rfl, htag⟩
  · by_cases hh : s.resetHeld = true
    · exact row_idle hh _
    · rw [exec_commandTake (by simpa using hh), State.arbitrate, State.nextLink_none fun l => State.takeable_eq_false (h l)]
  · rw [exec_commandRow, linkCommand_waits s hh hfull, s.queueCommand_room hroom]
  · rw [exec_commandRow, linkCommand_waits s hh hfull, s.queueCommand_full hqueue, if_neg (Nat.not_lt.mpr hfull)]

/-! ### The hard-reset pin (R182) -/

/-- Nothing asks for attention while the pin is held (R178, R182). -/
theorem State.hardReset_settle (s : State) : s.hardReset.settle = { State.reset with resetHeld := true, pending := s.pending } := by
  have hdue : State.reset.attentionDue = false := by decide
  exact congrArg (fun b => { State.reset with resetHeld := true, pending := s.pending, attention := b }) hdue

/-- Settles O42: the pin puts the reset part in place, and every row asks whether it is held. -/
theorem theHardResetPinHoldsThePart : Obligations.TheHardResetPinHoldsThePart := by
  refine fun s => ⟨?_, rfl, fun hh => ⟨fun l tag c => ?_, fun p n => row_idle hh _, fun p r => row_idle hh _, fun bs => row_idle hh _,
    fun b e => row_idle hh _, fun i hi => ?_, fun p i hi => ?_, fun p => ?_, fun p d => ?_⟩⟩
  · exact congrArg Host.Outcome.next s.hardReset_settle
  · rw [exec_commandRow, linkCommand_held s hh]
  · simp only [List.mem_cons, List.not_mem_nil, or_false] at hi
    rcases hi with rfl | rfl | rfl | rfl | rfl <;> exact row_idle hh _
  · simp only [List.mem_cons, List.not_mem_nil, or_false] at hi
    rcases hi with rfl | rfl | rfl | rfl | rfl | rfl | rfl | rfl | rfl | rfl | rfl | rfl
    any_goals exact row_idle hh _
    · exact row_idle (.inl hh) _
    · exact row_idle (.inl hh) _
  · change execMessageTake p s = _
    rw [execMessageTake, if_pos hh, State.answerTake]
  · change execAdmissionLookup p d s = _
    rw [execAdmissionLookup, if_pos hh, State.answerLookup]

end Sys2Proof.Machine
end
